-- ==== Sys2Proof/Word.lean ====
section
/-! DEFINITION. The word types of the message layouts (R195, R196): a byte, a two-byte number, a set of lines,
and the 32-bit wrapping counter of R23. Plain abbreviations, so that the library's lemmas apply. -/

namespace Sys2Proof

/-- One byte of a message body (R195). -/
abbrev Byte := BitVec 8

/-- A two-byte number of a message body (R195), or one word of the settings image (R189). -/
abbrev Half := BitVec 16

/-- A set of lines: bit k stands for line k (R196, three bytes on the wire). -/
abbrev LineSet := BitVec 24

/-- A counter that is 32-bit wrapping (00_scope.md, Conventions; R23, R40, R47). -/
abbrev Count32 := BitVec 32

end Sys2Proof
end

