-- ==== Sys2Proof/Config.lean ====
section
/-! DEFINITION. What one CL24 fixes: the numbers of the spec, and the value it leaves open, which is a constant with no
body (nothing can be proved of its value). Times are in microseconds. -/

namespace Sys2Proof.Config

/-- The revision of the part, "a fixed number" (R194): 3, as the IDENT exchange of R195 answers (log 21). -/
def revision : Byte := 3

/-- What the store holds after a settings write was stopped part-way: "a mix of old and new words" (R191).
Which mix is open; the argument makes each one a fresh value (log 8). -/
opaque mixedImage : Nat → List Half

/-- Cells of the buffer pool (R25). -/
def poolCells : Nat := 768
/-- Bytes of one cell (R25). -/
def cellBytes : Nat := 128
/-- Capacity of an egress queue (R33). -/
def egressCapacity : Nat := 24
/-- Capacity of the launch list (R36). -/
def launchCapacity : Nat := 4
/-- Capacity of the miss hold list (R58). -/
def holdCapacity : Nat := 8
/-- Bytes of quantum for each unit of weight (R69). -/
def quantumUnit : Nat := 256
/-- Capacity of the test order queue (R105). -/
def orderCapacity : Nat := 8
/-- Capacity of the result store (R123). -/
def resultCapacity : Nat := 16
/-- Capacity of the notice queue (R186). -/
def noticeCapacity : Nat := 32
/-- Notices that one FETCH NOTICES takes at most (R187). -/
def fetchLimit : Nat := 8
/-- Largest lost-notice count (R186). -/
def lostLimit : Nat := 255
/-- Largest fault count (R171). -/
def faultLimit : Nat := 65535
/-- Load units of a current order (R110). -/
def engineCost : Nat := 6
/-- Rest, the stimulus code of 0 V (R88). -/
def restCode : Nat := 2048
/-- One unit of the step period: 20 microseconds (R87). -/
def stepUnit : Nat := 20
/-- Warm-up of the test power (R112). -/
def warmupTime : Nat := 20000
/-- Relay settle time (R113). -/
def settleTime : Nat := 8000
/-- Length of the FOREIGN window (R115). -/
def foreignWindow : Nat := 100000
/-- Dwell of a DWELL exit (R135). -/
def dwellTime : Nat := 500000
/-- Step exponent of the exit ramp (R134). -/
def exitExp : Nat := 5
/-- Step period of the exit ramp (R134). -/
def exitPeriod : Nat := 1
/-- Debounce time, and the clear window of a SURGE point (R163, R164). -/
def debounceTime : Nat := 20000
/-- The group address of the main link (R172). -/
def groupAddress : Nat := 31
/-- The part code CL24 as IDENT sends it (R195, R197). -/
def partCode : List Byte := [0x43, 0x4C, 0x32, 0x34]

end Sys2Proof.Config
end

