-- ==== Sys2Proof/Syntax.lean ====
section
/-! DEFINITION. The commands: one constructor of Instr for each row of spec/opcode_table.json, with the operands
the row's rule gives it. Every command carries the time (microseconds) at which it is taken (log 1). Request rows
carry the fields of R197 in their raw widths, because refusing an out-of-range field is part of their meaning. -/

namespace Sys2Proof

/-- L0 to L23 (00_scope.md, Numbering). -/
abbrev LineNo := Fin 24
/-- CP0 to CP11. -/
abbrev PointNo := Fin 12
/-- Flow entries 0 to 63. -/
abbrev FlowIdx := Fin 64

/-- The two message ports; also an order's origin, MAIN or CRAFT (R101). -/
inductive PortId where
  | main
  | craft
  deriving DecidableEq, Repr

/-- An electrical level (R163). -/
inductive Level where
  | low
  | high
  deriving DecidableEq, Repr

/-- An uplink rate class, 1 to 4 (R77). -/
inductive RateClass where
  | one
  | two
  | three
  | four
  deriving DecidableEq, Repr

/-- A received character: the 8 data bits, the mark bit, the parity bit and the level at the stop bit's time
(true is the idle level) (R170). -/
structure SerialChar where
  data : Byte
  mark : Bool
  parity : Bool
  stop : Bool
  deriving DecidableEq, Repr

/-- What the port knows of the message a request came in: the port, the group mark (its address value was 31,
R181) and the TAG byte (R177). -/
structure Header where
  port : PortId
  group : Bool
  tag : Byte
  deriving DecidableEq, Repr

/-- One sub-request of a BATCH as it stands in the body; its declared length is the payload's (R184). -/
structure RawSub where
  kind : Byte
  payload : List Byte
  deriving DecidableEq, Repr

/-- The 12 bytes of flow entry content (R199). -/
structure FlowContent where
  kept : Byte
  up : Byte
  down : Byte
  owner : Byte
  lineBase : Half
  uplinkBase : Half
  span : Byte
  members : LineSet
  deriving DecidableEq, Repr

/-- The 15 bytes of one step of a TEST ORDER (R199); `first` is the level, low or amplitude. -/
structure RawStep where
  kind : Byte
  first : Half
  high : Half
  exp : Byte
  period : Byte
  window : Half
  lowerPresent : Byte
  lower : Half
  upperPresent : Byte
  upper : Half
  deriving DecidableEq, Repr

/-- A request by kind, with its fields in the widths of R197. -/
inductive Req where
  | ident
  | status (clear : Byte)
  | setParameter (id : Byte) (value : Half)
  | getParameter (id : Byte)
  | saveSettings
  | restart
  | fetchNotices
  | batch (subs : List RawSub)
  | lineStart (line : Byte)
  | lineStop (line : Byte)
  | lineProfile (line weight keep cost limit park : Byte)
  | lineClear (line : Byte)
  | lineQuery (line clear : Byte)
  | lineEquip (line sel : Byte)
  | flowPut (index : Byte) (content : FlowContent)
  | flowPlace (content : FlowContent)
  | flowDrop (index : Byte)
  | flowFind (sel line : Byte) (tag : Half)
  | flowRead (index : Byte)
  | flowClear (sel : Byte)
  | testOrder (line intr quar clr : Byte) (steps : List RawStep)
  | testCancel (id : Byte)
  | testResult (sel id : Byte)
  | testList
  | testHalt
  | supply (state : Byte)
  | budgetSet (state budget : Byte)
  | energyQuery
  | pointAssign (point fn pol : Byte)
  | pointRead
  | pointDrive (point state : Byte)
  deriving DecidableEq, Repr

/-- How much of a BATCH one command takes (R185, log 5): `begin` is the message with the number of sub-requests
taken before an event of another source, `go` takes further sub-requests of the batch in execution on a port, however
its message came in. -/
inductive BatchRun where
  | begin (h : Header) (subs : List RawSub) (n : Nat)
  | go (p : PortId) (n : Nat)
  deriving DecidableEq, Repr

/-- A reading of the measurement front end (R114): three voltages in 0.1 V, or one value in its kind's unit. -/
inductive Reading where
  | foreign (tipRing tipGround ringGround : Half)
  | value (v : Half)
  deriving DecidableEq, Repr

/-- The commands, in the table's order. `t` is the time at which the command is taken. -/
inductive Instr where
  | ident (t : Nat) (h : Header)
  | status (t : Nat) (h : Header) (clear : Byte)
  | setParameter (t : Nat) (h : Header) (id : Byte) (value : Half)
  | getParameter (t : Nat) (h : Header) (id : Byte)
  | saveSettings (t : Nat) (h : Header)
  /-- `held`: none when the store holds the snapshot, some words when it holds something else (log 22). -/
  | saveWriteEnd (t : Nat) (held : Option (List Half))
  | restart (t : Nat) (h : Header)
  | fetchNotices (t : Nat) (h : Header)
  | batch (t : Nat) (run : BatchRun)
  | unknownKindRequest (t : Nat) (h : Header) (kind : Byte) (payload : List Byte)
  | lineStart (t : Nat) (h : Header) (line : Byte)
  | lineStop (t : Nat) (h : Header) (line : Byte)
  | lineProfile (t : Nat) (h : Header) (line weight keep cost limit park : Byte)
  | lineClear (t : Nat) (h : Header) (line : Byte)
  | lineQuery (t : Nat) (h : Header) (line clear : Byte)
  | lineEquipEquip (t : Nat) (h : Header) (line : Byte)
  | lineEquipUnequip (t : Nat) (h : Header) (line : Byte)
  | flowPut (t : Nat) (h : Header) (index : Byte) (content : FlowContent)
  | flowPlace (t : Nat) (h : Header) (content : FlowContent)
  | flowDrop (t : Nat) (h : Header) (index : Byte)
  | flowFind (t : Nat) (h : Header) (sel line : Byte) (tag : Half)
  | flowRead (t : Nat) (h : Header) (index : Byte)
  | flowClear (t : Nat) (h : Header) (sel : Byte)
  | testOrder (t : Nat) (h : Header) (line intr quar clr : Byte) (steps : List RawStep)
  | testCancel (t : Nat) (h : Header) (id : Byte)
  | testResult (t : Nat) (h : Header) (sel id : Byte)
  | testList (t : Nat) (h : Header)
  | testHalt (t : Nat) (h : Header)
  | supply (t : Nat) (h : Header) (state : Byte)
  | budgetSet (t : Nat) (h : Header) (state budget : Byte)
  | energyQuery (t : Nat) (h : Header)
  | pointAssign (t : Nat) (h : Header) (point fn pol : Byte)
  | pointRead (t : Nat) (h : Header)
  | pointDrive (t : Nat) (h : Header) (point state : Byte)
  | addressCharacter (t : Nat) (p : PortId) (c : SerialChar)
  | bodyCharacter (t : Nat) (p : PortId) (c : SerialChar)
  | breakSeen (t : Nat) (p : PortId)
  | characterTimeout (t : Nat) (p : PortId)
  | replySent (t : Nat) (p : PortId)
  | syncUp (t : Nat) (l : LineNo)
  | syncLost (t : Nat) (l : LineNo)
  | trainingDeadlineExpiry (t : Nat) (l : LineNo)
  | upstreamArrival (t : Nat) (l : LineNo) (tag : Fin 4096) (len : Nat)
  | downstreamArrival (t : Nat) (tag : Fin 4096) (len : Nat)
  | transceiverTake (t : Nat) (l : LineNo)
  | uplinkTake (t : Nat)
  | holdExpiry (t : Nat) (l : LineNo) (tag : Fin 4096)
  | schedulerDecision (t : Nat)
  /-- `r`: none is DOWN, some c is UP with actual class c. -/
  | uplinkStatusReport (t : Nat) (r : Option RateClass)
  | stepEvent (t : Nat)
  | warmupTimerExpiry (t : Nat)
  | firstSettleExpiry (t : Nat)
  | secondSettleExpiry (t : Nat)
  | measurementReading (t : Nat) (r : Reading)
  | hazardCrossing (t : Nat)
  | releaseSettleExpiry (t : Nat)
  | dwellExpiry (t : Nat)
  | exitSettleExpiry (t : Nat)
  | inputLevelChange (t : Nat) (p : PointNo) (lvl : Level)
  | debounceExpiry (t : Nat) (p : PointNo)
  | surgeClearExpiry (t : Nat)
  | quietExpiry (t : Nat)
  | powerOn (t : Nat)
  | powerLoss (t : Nat)
  | resetPinLow (t : Nat)
  | resetPinRelease (t : Nat)
  deriving DecidableEq, Repr

end Sys2Proof
end

