-- ==== Sys2Proof/Decode.lean ====
section
/-! DEFINITION. No row of spec/opcode_table.json gives bits (98_reader.md: 0 rows with fixed bits or fields), so no
word spells a command: decodeTableWord answers none for every word (log 25). The message layouts of chapter 12 are read
in Machine/Operands.lean, from the characters of the ports. Here too is how one received character (R170) and one
presented frame (R26) are judged, and the character and bit times in which one byte is sent (R195). -/

namespace Sys2Proof

/-- The command that a word spells by the table's bits: none, since no row gives bits. -/
def decodeTableWord (_nbits _w : Nat) : Option Instr := none

/-- The number of ones among the 8 data bits (R170). -/
def dataOnes (b : Byte) : Nat := ((List.range 8).filter fun k => b.getLsbD k).length

/-- A character is damaged when the ones over data, mark and parity bits are odd, or the stop bit is not at the idle
level (R170). -/
def SerialChar.damaged (c : SerialChar) : Bool :=
  (dataOnes c.data + c.mark.toNat + c.parity.toNat) % 2 != 0 || !c.stop

/-- An address character is one whose mark bit is set and that is not damaged (R170). -/
def SerialChar.isAddress (c : SerialChar) : Bool := c.mark && !c.damaged

/-- The character that carries one byte of a reply: mark 0, the parity bit that makes the ones even, the stop bit at
the idle level (R170, R177, R195). -/
def sentChar (b : Byte) : SerialChar := { data := b, mark := false, parity := dataOnes b % 2 == 1, stop := true }

/-- The twelve bit times of a character in the order of R195: start bit low, D0 to D7, mark, parity, stop. -/
def SerialChar.bits (c : SerialChar) : List Bool :=
  false :: (List.range 8).map (fun k => c.data.getLsbD k) ++ [c.mark, c.parity, c.stop]

/-- The frames presented are 64 to 1536 bytes long (R26). -/
def frameLengthOk (len : Nat) : Bool := 64 ≤ len && len ≤ 1536

end Sys2Proof
end

