-- ==== Sys2Proof/Machine/State.lean ====
section
/-! DEFINITION. The state of the CL24: one field or record for each block of 00_scope.md's block table, plain data
throughout, and State.reset. A field that a rule marks "present only in" a state is an argument of that state's
constructor, or an Option. Quantities the rules derive from others (committed consumption, the driven outputs,
equipped, stalled, ATTN, the door-open condition) are computed in Machine/Flags.lean and the owning blocks. -/

namespace Sys2Proof.Machine

/-! ### Lines (R1, R2) -/

/-- The quarantine cause (R1). -/
inductive QCause where
  | test
  | training
  deriving DecidableEq, Repr

/-- The return target of a WITHDRAWN line (R1). -/
inductive Target where
  | idle
  | training
  | quarantined (cause : QCause)
  deriving DecidableEq, Repr

/-- The test connection of a WITHDRAWN line (R1, R13). -/
inductive Conn where
  | offBus
  | onBus
  deriving DecidableEq, Repr

/-- The state of a line with the fields that are present only in it (R1); `deadline` is the training deadline. -/
inductive LineState where
  | unequipped
  | idle
  | training (deadline : Nat)
  | inService
  | withdrawn (target : Target) (conn : Conn)
  | shed
  | quarantined (cause : QCause)
  deriving DecidableEq, Repr

/-- The name of a line state, without its fields, as notices and records carry it (R196). -/
inductive LineKind where
  | unequipped
  | idle
  | training
  | inService
  | withdrawn
  | shed
  | quarantined
  deriving DecidableEq, Repr

/-- The park termination (R2). -/
inductive Park where
  | open
  | signature
  deriving DecidableEq, Repr

/-- The profile of a line (R2). -/
structure Profile where
  weight : Nat
  keep : Nat
  cost : Nat
  limit : Nat
  park : Park
  deriving DecidableEq, Repr

/-- The drop reasons that count against a line (00_scope.md, Drop reasons; R39). NO_FLOW counts against none. -/
inductive DropReason where
  | pool
  | ingressFull
  | egressFull
  | notInService
  | missDup
  | holdFull
  | holdExpired
  | holdReleaseFull
  deriving DecidableEq, Repr

/-- The counters of a line record (R1, R23). -/
structure Counters where
  framesUp : Count32
  framesDown : Count32
  bytesUp : Count32
  bytesDown : Count32
  dropsUp : Count32
  dropsDown : Count32
  pool : Count32
  ingressFull : Count32
  egressFull : Count32
  notInService : Count32
  missDup : Count32
  holdFull : Count32
  holdExpired : Count32
  holdReleaseFull : Count32
  deriving DecidableEq, Repr

/-- A line record (R1). -/
structure LineRec where
  state : LineState
  profile : Profile
  failCount : Nat
  counters : Counters
  deriving DecidableEq, Repr

/-- The causes of a LINE notice (R5). -/
inductive LineCause where
  | request
  | sync
  | timeout
  | test
  | energy
  | restore
  deriving DecidableEq, Repr

/-! ### Frames, pool, queues (R25, R26, R58, R67) -/

/-- Where a frame came from (R26). -/
inductive Origin where
  | line (l : LineNo)
  | uplink
  deriving DecidableEq, Repr

/-- A frame record (R26). -/
structure Frame where
  origin : Origin
  tag : Nat
  length : Nat
  cells : Nat
  refs : Nat
  deriving DecidableEq, Repr

/-- The buffer pool: the free-cell count, the frame records under the model's handles (log 6), the next unused
handle and the uplink drop count (R25, R40). -/
structure Pool where
  free : Nat
  frames : List (Nat × Frame)
  nextId : Nat
  uplinkDrops : Count32
  deriving DecidableEq, Repr

/-- A place of the miss hold list: the held frame's handle and the expiry (R58). -/
structure Held where
  frame : Nat
  expiry : Nat
  deriving DecidableEq, Repr

/-- The share scheduler: ingress queues, active list in round order, deficits and the launch list (R30, R36, R67). -/
structure Sched where
  ingress : Vector (List Nat) 24
  active : List LineNo
  deficit : Vector Nat 24
  launch : List Nat
  deriving DecidableEq, Repr

/-! ### The uplink port (R77, R82) -/

/-- The uplink port: the status, none when DOWN and the actual class when UP (R77), and whether the status report that
it asked for at the start is still to come (R82, log 31). -/
structure Uplink where
  status : Option RateClass
  asked : Bool
  deriving DecidableEq, Repr

/-! ### Flow table (R42) -/

/-- The owner of a flow entry (R42). -/
inductive Owner where
  | line (l : LineNo)
  | shared
  deriving DecidableEq, Repr

/-- The fields of a valid flow entry (R42); the member set is empty where the rule has none (R44). -/
structure FlowEntry where
  kept : Bool
  owner : Owner
  lineBase : Nat
  uplinkBase : Nat
  spanExp : Nat
  up : Bool
  down : Bool
  members : LineSet
  matchUp : Count32
  matchDown : Count32
  deriving DecidableEq, Repr

/-! ### Stimulus generator (R87) -/

/-- A program with its parameters (R87). -/
inductive Program where
  | rest
  | level (target : Nat)
  | triangle (low high : Nat)
  | sine (amplitude start : Nat)
  deriving DecidableEq, Repr

/-- The motion of the generator (R87). -/
inductive Motion where
  | ramping
  | settled
  deriving DecidableEq, Repr

/-- The triangle direction (R87). -/
inductive Dir where
  | up
  | down
  deriving DecidableEq, Repr

/-- The generator record (R87). -/
structure Generator where
  code : Nat
  drive : Bool
  program : Program
  exp : Nat
  period : Nat
  motion : Motion
  sine : Option Nat
  dir : Option Dir
  next : Option Nat
  deriving DecidableEq, Repr

/-! ### Test engine (R101, R102, R111, R122, R129) -/

/-- The stimulus of a host step with the fields its kind uses (R102). -/
inductive Stimulus where
  | loop (level : Int)
  | leak (level : Int)
  | cap (low high : Int)
  | term (amplitude : Nat)
  deriving DecidableEq, Repr

/-- The kind of a step (R102). -/
inductive StepKind where
  | loop
  | leak
  | cap
  | term
  deriving DecidableEq, Repr

/-- A host step (R102); the window is in ms. -/
structure HostStep where
  stim : Stimulus
  exp : Nat
  period : Nat
  window : Nat
  lower : Option Nat
  upper : Option Nat
  deriving DecidableEq, Repr

/-- A test order (R101). -/
structure TestOrder where
  id : Nat
  origin : PortId
  line : LineNo
  interrupt : Bool
  quarantineOnFail : Bool
  clearOnPass : Bool
  steps : List HostStep
  deriving DecidableEq, Repr

/-- The verdict of a step (R117). -/
inductive Verdict where
  | pass
  | fail
  | none
  deriving DecidableEq, Repr

/-- One entry of the step results (R111). -/
structure StepResult where
  kind : StepKind
  value : Nat
  verdict : Verdict
  deriving DecidableEq, Repr

/-- The outcome so far (R111). -/
inductive SoFar where
  | pass
  | fail
  | hazard
  deriving DecidableEq, Repr

/-- The outcome of an order (R121). -/
inductive TestOutcome where
  | pass
  | fail
  | hazard
  | aborted
  | refused
  deriving DecidableEq, Repr

/-- Result causes, exit causes and second causes share one table of codes (R196). -/
inductive Cause where
  | inService
  | hazard
  | surge
  | cancel
  | halt
  | door
  | energy
  deriving DecidableEq, Repr

/-- The exit mode (R130). -/
inductive ExitMode where
  | cut
  | ramp
  | dwell
  deriving DecidableEq, Repr

/-- The exit stage with its exit timer (R129). -/
inductive ExitStage where
  | ramp
  | dwell (timer : Nat)
  | settle (timer : Nat)
  deriving DecidableEq, Repr

/-- The exit record (R129). -/
structure ExitRec where
  cause : Cause
  second : Option Cause
  mode : ExitMode
  stage : ExitStage
  energyHeld : Bool
  deriving DecidableEq, Repr

/-- The phase of the current order with its stage, step number, window and timer (R111). ACQUIRE and REPORT are
each taken within one event (R106), so no state between events is in either. -/
inductive Phase where
  | warmup (timer : Nat)
  | firstSettle (timer : Nat)
  | secondSettle (timer : Nat)
  | foreign (window : Option Nat)
  | step (k : Nat) (window : Option Nat)
  | releaseRamp
  | releaseSettle (timer : Nat)
  | exit (x : ExitRec)
  deriving DecidableEq, Repr

/-- The current order record (R111). -/
structure Current where
  order : TestOrder
  phase : Phase
  foreignValue : Option Nat
  results : List StepResult
  soFar : SoFar
  deriving DecidableEq, Repr

/-- The return state of a result record (R122). -/
inductive ReturnState where
  | idle
  | training
  | shed
  | quarantined (cause : QCause)
  deriving DecidableEq, Repr

/-- What a result record keeps of the exit record (R129). -/
structure ExitReport where
  cause : Cause
  second : Option Cause
  mode : ExitMode
  deriving DecidableEq, Repr

/-- A result record (R122). -/
structure Result where
  id : Nat
  origin : PortId
  line : LineNo
  outcome : TestOutcome
  cause : Option Cause
  foreignValue : Option Nat
  steps : List StepResult
  exit : Option ExitReport
  returned : Option ReturnState
  readMain : Bool
  readCraft : Bool
  deriving DecidableEq, Repr

/-- The test engine: the test order queue, the current order record, the result store and the last assigned id
(R104, R105, R111, R123). -/
structure Engine where
  queue : List TestOrder
  current : Option Current
  results : List Result
  lastId : Nat
  deriving DecidableEq, Repr

/-! ### Energy manager (R142) -/

/-- The supply state (R142). -/
inductive Supply where
  | unknown
  | mains
  | battHigh
  | battLow
  | battCrit
  deriving DecidableEq, Repr

/-- The supply source (R142), and with `budget` the reason of a SUPPLY notice (R147, R196). -/
inductive SupplySource where
  | start
  | inputs
  | request
  | budget
  deriving DecidableEq, Repr

/-- The budget table (R142). -/
structure Budgets where
  mains : Nat
  battHigh : Nat
  battLow : Nat
  battCrit : Nat
  deriving DecidableEq, Repr

/-- The energy manager record (R142), less committed consumption, which is computed (R148), and the cap ceiling,
which is a parameter. The shed list has its top first (R151). -/
structure Energy where
  supply : Supply
  source : SupplySource
  budgets : Budgets
  cap : Nat
  shed : List LineNo
  deriving DecidableEq, Repr

/-! ### Cabinet points (R159) -/

/-- The functions of a cabinet point (R160); `unassigned` is NONE. -/
inductive PointFn where
  | unassigned
  | door
  | surge
  | mains
  | battLow
  | battCrit
  | spareIn
  | testPower
  | capA
  | capB
  | lamp
  | fan
  deriving DecidableEq, Repr

/-- The polarity of a point (R159). -/
inductive Polarity where
  | activeHigh
  | activeLow
  deriving DecidableEq, Repr

/-- The group of a point, fixed by its number (R159). -/
inductive PointGroup where
  | fastInput
  | input
  | general
  | output
  deriving DecidableEq, Repr

/-- A point record (R159): `input` is the electrical level on the terminal as the outside presents it, `window` the
expiry of a debounce or clear window (R163, R164), `driven` what POINT DRIVE last set (R166). -/
structure Point where
  fn : PointFn
  polarity : Polarity
  input : Level
  debounced : Option Level
  window : Option Nat
  driven : Bool
  deriving DecidableEq, Repr

/-- The surge state (R164); QUIET holds the expiry of the quiet time. -/
inductive Surge where
  | calm
  | asserted
  | quiet (expiry : Nat)
  deriving DecidableEq, Repr

/-- The cabinet point unit (R159, R164, R166). -/
structure Points where
  recs : Vector Point 12
  surge : Surge
  testPower : Bool
  deriving DecidableEq, Repr

/-! ### Message ports (R171) -/

/-- The partial message of a port in TAKE (R171); `wait` is the time-out in force when the last character arrived
(R175), in microseconds. -/
structure Partial where
  addr : Byte
  group : Bool
  body : List Byte
  expected : Option Nat
  damaged : Bool
  last : Nat
  wait : Nat
  deriving DecidableEq, Repr

/-- The receive state (R171). -/
inductive Recv where
  | hunt
  | take (msg : Partial)
  | skip
  deriving DecidableEq, Repr

/-- Why a port is EXECUTING (R171, R176): a request in the course of its event, a settings write (R191), a batch
part-way (R185), or a reply being sent, after which a RESTART starts the part (R193). -/
inductive Job where
  | running
  | save (tag : Byte) (words : List Half)
  | batch (tag : Byte) (rest : List RawSub) (done : List Byte)
  | sending (body : List Byte) (restart : Bool)
  deriving DecidableEq, Repr

/-- The fault counts of a port (R171, R182). -/
structure FaultCounts where
  char : Nat
  check : Nat
  length : Nat
  timeout : Nat
  brk : Nat
  overlap : Nat
  group : Nat
  deriving DecidableEq, Repr

/-- A port record (R171). -/
structure PortRec where
  recv : Recv
  job : Option Job
  faults : FaultCounts
  deriving DecidableEq, Repr

/-- The two ports, and the drop address and rate in force on the main link (R171, R172, R190). -/
structure Ports where
  main : PortRec
  craft : PortRec
  dropInForce : Nat
  rateInForce : Nat
  deriving DecidableEq, Repr

/-! ### Notices (R186) -/

/-- The cause of a start (R193). -/
inductive StartCause where
  | power
  | pin
  | request
  deriving DecidableEq, Repr

/-- The settings status (R192). -/
inductive SettingsStatus where
  | good
  | defaulted
  deriving DecidableEq, Repr

/-- A notice (R186). `class_` is none when the uplink is DOWN. -/
inductive Notice where
  | start (cause : StartCause) (status : SettingsStatus)
  | line (l : LineNo) (state : LineKind) (cause : LineCause)
  | miss (l : LineNo) (tag : Nat)
  | test (id : Nat) (origin : PortId) (outcome : TestOutcome)
  | supply (state : Supply) (budget : Nat) (reason : SupplySource)
  | uplink (class_ : Option RateClass) (cap : Nat)
  | point (p : PointNo) (fn : PointFn) (active : Bool)
  deriving DecidableEq, Repr

/-- The notice queue (R186). -/
structure Notices where
  queue : List Notice
  lost : Nat
  deriving DecidableEq, Repr

/-! ### Settings (R189, R190) -/

/-- The parameter table (R190): rate in baud, time-outs in the units of the table. -/
structure Params where
  drop : Nat
  rate : Nat
  charTimeout : Nat
  holdTime : Nat
  trainTimeout : Nat
  failLimit : Nat
  hazardLimit : Nat
  exitMode : ExitMode
  quietTime : Nat
  capCeiling : Nat
  deriving DecidableEq, Repr

/-- The settings store (R189): the image's words and the write mark. -/
structure Store where
  words : List Half
  mark : Bool
  deriving DecidableEq, Repr

/-! ### The machine -/

/-- Everything the spec gives the CL24. `now`, `freeCount` and `pending` are the model's own (log 1, log 8, log 2). -/
structure State where
  now : Nat
  powered : Bool
  resetLow : Bool
  lines : Vector LineRec 24
  pool : Pool
  egress : Vector (List Nat) 24
  flows : Vector (Option FlowEntry) 64
  hold : List Held
  sched : Sched
  uplink : Uplink
  gen : Generator
  engine : Engine
  energy : Energy
  points : Points
  ports : Ports
  notices : Notices
  params : Params
  store : Store
  status : SettingsStatus
  cause : StartCause
  freeCount : Nat
  pending : List Instr
  deriving DecidableEq, Repr

/-- The one machine fault of the model. -/
inductive Fault where
  /-- Raised by UPSTREAM_ARRIVAL and DOWNSTREAM_ARRIVAL for a frame of fewer than 64 or more than 1536 bytes: the
  equipment presents no such frame (R26) and the spec gives it no effect. Safe: the model stops (log 14). -/
  | frameNeverPresented
  deriving DecidableEq, Repr

/-- The refusals of the model. -/
inductive Refusal where
  /-- Raised by exec's arm of a command with no meaning yet. Safe: the model stops. No arm raises it. -/
  | notModelled (mnemonic : String)
  deriving DecidableEq, Repr

/-- What one step answers. -/
abbrev Outcome := Host.Outcome State Fault Refusal

/-! ### Reset -/

/-- The default profile (R2). -/
def Profile.default : Profile := { weight := 4, keep := 1, cost := 3, limit := 16, park := .open }

/-- Counters at 0 (R23). -/
def Counters.zero : Counters :=
  { framesUp := 0, framesDown := 0, bytesUp := 0, bytesDown := 0, dropsUp := 0, dropsDown := 0, pool := 0,
    ingressFull := 0, egressFull := 0, notInService := 0, missDup := 0, holdFull := 0, holdExpired := 0,
    holdReleaseFull := 0 }

/-- The default parameter table (R190). -/
def Params.default : Params :=
  { drop := 7, rate := 19200, charTimeout := 20, holdTime := 1000, trainTimeout := 90, failLimit := 3,
    hazardLimit := 60, exitMode := .ramp, quietTime := 5, capCeiling := 4 }

/-- The default budget table (R142). -/
def Budgets.default : Budgets := { mains := 255, battHigh := 90, battLow := 50, battCrit := 20 }

/-- The pool after a start: all cells free, no frame record (R41). -/
def Pool.empty : Pool := { free := Config.poolCells, frames := [], nextId := 0, uplinkDrops := 0 }

/-- The scheduler after a start (R76, R41). -/
def Sched.empty : Sched :=
  { ingress := Vector.replicate 24 [], active := [], deficit := Vector.replicate 24 0, launch := [] }

/-- The generator after a start (R100). -/
def Generator.atRest : Generator :=
  { code := Config.restCode, drive := false, program := .rest, exp := 0, period := 1, motion := .settled,
    sine := none, dir := none, next := none }

/-- The test engine after a start (R128). -/
def Engine.empty : Engine := { queue := [], current := none, results := [], lastId := 0 }

/-- Fault counts at 0 (R188). -/
def FaultCounts.zero : FaultCounts :=
  { char := 0, check := 0, length := 0, timeout := 0, brk := 0, overlap := 0, group := 0 }

/-- A port after a start: HUNT, READY, counts 0 (R188). -/
def PortRec.fresh : PortRec := { recv := .hunt, job := none, faults := FaultCounts.zero }

/-- A point after a start under defaults: NONE, ACTIVE_HIGH; a reading point's debounce window begins with the start,
at time 0 here, and a driving point has none (R169). The electrical level is LOW (log 10). -/
def Point.fresh (reads : Bool) : Point :=
  { fn := .unassigned, polarity := .activeHigh, input := .low, debounced := none,
    window := if reads then some Config.debounceTime else none, driven := false }

/-- The machine right after a start with cause POWER at time 0 from a store that holds no good image, so that the
factory defaults are loaded (R192, R24, R41, R65, R76, R82, R100, R128, R158, R169, R188, R194; log 9, 10, 23). -/
def State.reset : State :=
  { now := 0
    powered := true
    resetLow := false
    lines := Vector.replicate 24 { state := .idle, profile := Profile.default, failCount := 0, counters := Counters.zero }
    pool := Pool.empty
    egress := Vector.replicate 24 []
    flows := Vector.replicate 64 none
    hold := []
    sched := Sched.empty
    uplink := { status := none, asked := true }
    gen := Generator.atRest
    engine := Engine.empty
    energy := { supply := .unknown, source := .start, budgets := Budgets.default, cap := 4, shed := [] }
    points :=
      { recs := Vector.ofFn fun p => Point.fresh (p.val < 8), surge := .calm, testPower := false }
    ports := { main := PortRec.fresh, craft := PortRec.fresh, dropInForce := 7, rateInForce := 19200 }
    notices := { queue := [.start .power .defaulted], lost := 0 }
    params := Params.default
    store := { words := [], mark := false }
    status := .defaulted
    cause := .power
    freeCount := 0
    pending := [] }

end Sys2Proof.Machine
end

