-- ==== Sys2Proof/Machine/Ops.lean ====
section
/-! DEFINITION. The named operations that the meanings share: time, bytes, record updates, notices, fault counts,
drop counting, the frame records of the pool and the handover of queue positions (R25 to R41, R182, R186). -/

namespace Sys2Proof.Machine

/-! ### Time and numbers -/

/-- Milliseconds in the model's unit, microseconds (log 1). -/
def ms (n : Nat) : Nat := 1000 * n

/-- Seconds in microseconds. -/
def secs (n : Nat) : Nat := 1000000 * n

/-- The time of the latest command taken: a command's own time, which never runs backwards (log 1). -/
def State.advance (s : State) (t : Nat) : State := { s with now := max s.now t }

/-- The part takes events: power is applied and the RESET pin is not held low (R193). -/
def State.running (s : State) : Bool := s.powered && !s.resetLow

/-- A time that is recorded has been reached (log 3). -/
def State.due (s : State) (at? : Option Nat) : Bool :=
  match at? with
  | some e => e ≤ s.now
  | none => false

/-- One byte of a number (R195). -/
def byte (n : Nat) : Byte := BitVec.ofNat 8 n

/-- A flag as one byte (R196). -/
def flagByte (b : Bool) : Byte := if b then 1 else 0

/-- The byte of an absent one-byte field (R196). -/
def absent : Byte := 0xFF

/-- A two-byte number, least significant byte first (R195). -/
def le2 (n : Nat) : List Byte := [byte n, byte (n / 256)]

/-- A four-byte number, least significant byte first (R195). -/
def le4 (n : Nat) : List Byte := [byte n, byte (n / 256), byte (n / 65536), byte (n / 16777216)]

/-- The lines in ascending order. -/
def allLines : List LineNo := List.finRange 24

/-- The points in ascending order. -/
def allPoints : List PointNo := List.finRange 12

/-- The flow indexes in ascending order. -/
def allFlows : List FlowIdx := List.finRange 64

/-- A line is in a set of lines (R196). -/
def LineSet.has (m : LineSet) (l : LineNo) : Bool := m.getLsbD l.val

/-- The lines of a set in ascending order (R46). -/
def LineSet.lines (m : LineSet) : List LineNo := allLines.filter (LineSet.has m)

/-! ### Line records -/

/-- The name of a line state (R196). -/
def LineState.kind : LineState → LineKind
  | .unequipped => .unequipped
  | .idle => .idle
  | .training _ => .training
  | .inService => .inService
  | .withdrawn _ _ => .withdrawn
  | .shed => .shed
  | .quarantined _ => .quarantined

/-- The line record of line l (R1). -/
def State.line (s : State) (l : LineNo) : LineRec := s.lines[l]

/-- Line l's record changed by f. -/
def State.setLine (l : LineNo) (f : LineRec → LineRec) (s : State) : State :=
  { s with lines := s.lines.set l (f s.lines[l]) }

/-- Line l's state set. -/
def State.setLineState (l : LineNo) (st : LineState) (s : State) : State :=
  s.setLine l fun r => { r with state := st }

/-- Line l's fail count set (R9). -/
def State.setFail (l : LineNo) (n : Nat) (s : State) : State :=
  s.setLine l fun r => { r with failCount := n }

/-- A line is equipped exactly outside UNEQUIPPED (R1). -/
def State.equipped (s : State) (l : LineNo) : Bool := (s.line l).state != .unequipped

/-- A line is counted in committed consumption while TRAINING or IN_SERVICE (R4, R148). -/
def LineState.counted : LineState → Bool
  | .training _ => true
  | .inService => true
  | _ => false

/-- The training deadline of an entry into TRAINING now (R6). -/
def State.newDeadline (s : State) : Nat := s.now + secs s.params.trainTimeout

/-! ### Notices (R186) -/

/-- A notice joins the queue at the tail, or is lost and counted when the queue is full (R186). -/
def State.notify (n : Notice) (s : State) : State :=
  if s.notices.queue.length < Config.noticeCapacity then
    { s with notices := { s.notices with queue := s.notices.queue ++ [n] } }
  else
    { s with notices := { s.notices with lost := min Config.lostLimit (s.notices.lost + 1) } }

/-! ### Drop counting (R39) -/

/-- The drop count of a reason gains 1. -/
def Counters.addReason (r : DropReason) (c : Counters) : Counters :=
  match r with
  | .pool => { c with pool := c.pool + 1 }
  | .ingressFull => { c with ingressFull := c.ingressFull + 1 }
  | .egressFull => { c with egressFull := c.egressFull + 1 }
  | .notInService => { c with notInService := c.notInService + 1 }
  | .missDup => { c with missDup := c.missDup + 1 }
  | .holdFull => { c with holdFull := c.holdFull + 1 }
  | .holdExpired => { c with holdExpired := c.holdExpired + 1 }
  | .holdReleaseFull => { c with holdReleaseFull := c.holdReleaseFull + 1 }

/-- An upstream drop: drops up and the reason's count of the line of arrival gain 1 (R39). -/
def State.dropUp (l : LineNo) (r : DropReason) (s : State) : State :=
  s.setLine l fun rec => { rec with
    counters := Counters.addReason r { rec.counters with dropsUp := rec.counters.dropsUp + 1 } }

/-- A downstream drop against a line: drops down and the reason's count gain 1 (R39). -/
def State.dropDown (l : LineNo) (r : DropReason) (s : State) : State :=
  s.setLine l fun rec => { rec with
    counters := Counters.addReason r { rec.counters with dropsDown := rec.counters.dropsDown + 1 } }

/-- A frame carried up: frames up and bytes up of its line (R23). -/
def State.countUp (l : LineNo) (len : Nat) (s : State) : State :=
  s.setLine l fun rec => { rec with counters := { rec.counters with
    framesUp := rec.counters.framesUp + 1, bytesUp := rec.counters.bytesUp + BitVec.ofNat 32 len } }

/-- A frame delivered down: frames down and bytes down of the line (R23). -/
def State.countDown (l : LineNo) (len : Nat) (s : State) : State :=
  s.setLine l fun rec => { rec with counters := { rec.counters with
    framesDown := rec.counters.framesDown + 1, bytesDown := rec.counters.bytesDown + BitVec.ofNat 32 len } }

/-! ### The pool (R25 to R28) -/

/-- The cells of a frame: ceil(length / 128) (R26). -/
def cellsFor (len : Nat) : Nat := (len + (Config.cellBytes - 1)) / Config.cellBytes

/-- The frame record of a handle. -/
def Pool.find (p : Pool) (id : Nat) : Option Frame := p.frames.lookup id

/-- The record and cells of a new frame are taken as it takes its first positions (R25, R28). -/
def Pool.create (origin : Origin) (tag len refs : Nat) (p : Pool) : Pool :=
  { p with free := p.free - cellsFor len,
           frames := p.frames ++ [(p.nextId, { origin, tag, length := len, cells := cellsFor len, refs })],
           nextId := p.nextId + 1 }

/-- A frame gives up one position; at a count of 0 its record goes and its cells are free again (R28). -/
def Pool.giveUp (id : Nat) (p : Pool) : Pool :=
  match p.find id with
  | none => p
  | some f =>
    if f.refs ≤ 1 then
      { p with free := p.free + f.cells, frames := p.frames.filter fun e => e.1 != id }
    else
      { p with frames := p.frames.map fun e => if e.1 = id then (e.1, { e.2 with refs := e.2.refs - 1 }) else e }

/-- The tag of a frame is rewritten at a release from the miss hold list (R26, R38). -/
def Pool.retag (id tag : Nat) (p : Pool) : Pool :=
  { p with frames := p.frames.map fun e => if e.1 = id then (e.1, { e.2 with tag := tag }) else e }

/-- `Pool.giveUp` on the machine. -/
def State.giveUp (id : Nat) (s : State) : State := { s with pool := s.pool.giveUp id }

/-- The length of the frame of a handle. -/
def State.frameLength (s : State) (id : Nat) : Nat :=
  match s.pool.find id with
  | some f => f.length
  | none => 0

/-- Downstream delivery empties a line's egress queue: each frame removed counts a drop down with NOT_IN_SERVICE
and gives up its position (R35). -/
def State.emptyEgress (l : LineNo) (s : State) : State :=
  let s' := s.egress[l].foldl (fun s id => (s.giveUp id).dropDown l .notInService) s
  { s' with egress := s'.egress.set l [] }

/-! ### Changes of a line's state (R4, R5, R35) -/

/-- A change of line l's state: the record takes the state, one LINE notice is queued (R5), and the egress queue is
emptied when the line leaves IN_SERVICE (R4, R35). Committed consumption follows from the states (R148). -/
def State.moveLine (l : LineNo) (st : LineState) (cause : LineCause) (s : State) : State :=
  let s' := (s.setLineState l st).notify (.line l st.kind cause)
  if (s.line l).state = .inService ∧ st ≠ .inService then s'.emptyEgress l else s'

/-! ### Ports (R171, R182) -/

/-- The record of a port. -/
def State.port (s : State) : PortId → PortRec
  | .main => s.ports.main
  | .craft => s.ports.craft

/-- The record of a port changed by f. -/
def State.setPort (p : PortId) (f : PortRec → PortRec) (s : State) : State :=
  match p with
  | .main => { s with ports := { s.ports with main := f s.ports.main } }
  | .craft => { s with ports := { s.ports with craft := f s.ports.craft } }

/-- The fault counts of a port (R182). -/
inductive FaultKind where
  | char
  | check
  | length
  | timeout
  | brk
  | overlap
  | group
  deriving DecidableEq, Repr

/-- A saturating count gains 1 (R171). -/
def satUp (n : Nat) : Nat := min Config.faultLimit (n + 1)

/-- One fault count gains 1 (R182). -/
def FaultCounts.add (k : FaultKind) (c : FaultCounts) : FaultCounts :=
  match k with
  | .char => { c with char := satUp c.char }
  | .check => { c with check := satUp c.check }
  | .length => { c with length := satUp c.length }
  | .timeout => { c with timeout := satUp c.timeout }
  | .brk => { c with brk := satUp c.brk }
  | .overlap => { c with overlap := satUp c.overlap }
  | .group => { c with group := satUp c.group }

/-- A fault count of port p gains 1 (R182). -/
def State.countFault (p : PortId) (k : FaultKind) (s : State) : State :=
  s.setPort p fun r => { r with faults := r.faults.add k }

/-- The receive state of port p set (R171). -/
def State.setRecv (p : PortId) (v : Recv) (s : State) : State := s.setPort p fun r => { r with recv := v }

/-- The job of port p set (R171, R176). -/
def State.setJob (p : PortId) (j : Option Job) (s : State) : State := s.setPort p fun r => { r with job := j }

end Sys2Proof.Machine
end

