-- ==== Sys2Proof/Machine/Stimulus.lean ====
section
/-! DEFINITION. The stimulus generator (chapter 5, R87 to R100): load, cut, drive on and off, and the step event, as
operations on the generator record. Load and step answer whether level reached is given (R91). -/

namespace Sys2Proof.Machine

/-- The settling code of a program (R87). -/
def Program.settling : Program → Nat
  | .rest => Config.restCode
  | .level target => target
  | .triangle low _ => low
  | .sine _ _ => Config.restCode

/-- Whether a settled program goes on stepping (R89). -/
def Program.moves : Program → Bool
  | .rest => false
  | .level _ => false
  | .triangle _ _ => true
  | .sine _ _ => true

/-- One step of `size` from a code toward another, landing when `size` or less remains (R89). -/
def toward (size code goal : Nat) : Nat :=
  if code ≤ goal then (if goal - code ≤ size then goal else code + size)
  else (if code - goal ≤ size then goal else code - size)

/-- One step period of the record in microseconds (R87). -/
def Generator.stepTime (g : Generator) : Nat := g.period * Config.stepUnit

/-- The triangle direction at a landing on the settling code: UP for a TRIANGLE (R93). -/
def Program.landingDir : Program → Option Dir
  | .triangle _ _ => some .up
  | _ => none

/-- The sine index that a load sets: the start index for SINE, absent otherwise (R90). -/
def Program.startIndex : Program → Option Nat
  | .sine _ k => some k
  | _ => none

/-- The sine table, 32 points (R94). -/
def sineTable : List Int :=
  [0, 25, 49, 71, 90, 106, 117, 125, 127, 125, 117, 106, 90, 71, 49, 25,
   0, -25, -49, -71, -90, -106, -117, -125, -127, -125, -117, -106, -90, -71, -49, -25]

/-- The code of a settled sine at index k: 2048 + trunc(amplitude x table[k] / 127) (R94). -/
def sineCode (amplitude k : Nat) : Nat :=
  ((Config.restCode : Int) + Int.tdiv ((amplitude : Int) * sineTable.getD k 0) 127).toNat

/-- A load replaces the program, its parameters, the step exponent and the period, keeps the code and the drive
enable, and abandons a step event due; it settles at once when the code is already there (R90). -/
def Generator.load (prog : Program) (e p now : Nat) (g : Generator) : Generator × Bool :=
  if g.code = prog.settling then
    ({ g with program := prog, exp := e, period := p, sine := prog.startIndex, dir := prog.landingDir,
              motion := .settled,
              next := if prog.moves then some (now + p * Config.stepUnit) else none }, true)
  else
    ({ g with program := prog, exp := e, period := p, sine := prog.startIndex, dir := none,
              motion := .ramping, next := some (now + p * Config.stepUnit) }, false)

/-- A cut: code 2048, REST, SETTLED, drive OFF, no step event due, no sine index, no direction (R96). -/
def Generator.cut (g : Generator) : Generator :=
  { g with code := Config.restCode, drive := false, program := .rest, motion := .settled, sine := none,
           dir := none, next := none }

/-- A step event of a ramp (R89). -/
def Generator.rampStep (now : Nat) (g : Generator) : Generator × Bool :=
  let c := toward (2 ^ g.exp) g.code g.program.settling
  if c = g.program.settling then
    ({ g with code := c, motion := .settled, dir := g.program.landingDir,
              next := if g.program.moves then some (now + g.stepTime) else none }, true)
  else
    ({ g with code := c, next := some (now + g.stepTime) }, false)

/-- A step event of a settled triangle (R93). -/
def Generator.triangleStep (low high now : Nat) (g : Generator) : Generator :=
  match g.dir with
  | some .down =>
    let c := toward (2 ^ g.exp) g.code low
    { g with code := c, dir := some (if c = low then .up else .down), next := some (now + g.stepTime) }
  | _ =>
    let c := toward (2 ^ g.exp) g.code high
    { g with code := c, dir := some (if c = high then .down else .up), next := some (now + g.stepTime) }

/-- A step event of a settled sine: the point at the index is output and the index advances (R94). -/
def Generator.sineStep (amplitude now : Nat) (g : Generator) : Generator :=
  let k := g.sine.getD 0
  { g with code := sineCode amplitude k, sine := some ((k + 1) % 32), next := some (now + g.stepTime) }

/-- A step event that is due (R89). -/
def Generator.step (now : Nat) (g : Generator) : Generator × Bool :=
  match g.motion with
  | .ramping => g.rampStep now
  | .settled =>
    match g.program with
    | .triangle low high => (g.triangleStep low high now, false)
    | .sine amplitude _ => (g.sineStep amplitude now, false)
    | .rest | .level _ => ({ g with next := none }, false)

/-- The program of a host step (R102): levels are offsets from rest. -/
def Stimulus.program : Stimulus → Program
  | .loop level => .level (2048 + level).toNat
  | .leak level => .level (2048 + level).toNat
  | .cap low high => .triangle (2048 + low).toNat (2048 + high).toNat
  | .term amplitude => .sine amplitude 0

/-- The kind of a host step (R102). -/
def Stimulus.kind : Stimulus → StepKind
  | .loop _ => .loop
  | .leak _ => .leak
  | .cap _ _ => .cap
  | .term _ => .term

/-- The driver's output in units of 62.5 mV while it acts on the code, absent with drive OFF (R88). -/
def Generator.output (g : Generator) : Option Int :=
  if g.drive then some ((g.code : Int) - 2048) else none

end Sys2Proof.Machine
end

