-- ==== Sys2Proof/Machine/Flags.lean ====
section
/-! DEFINITION. What is computed from the state and not stored: the drive of the line ports (R3), committed
consumption and the budget in force (R143, R148), the state of a point's function and of its terminal (R159, R166),
the door-open condition (R165), ATTN (R186), the stall (R67), and the safe outputs of a stopped part (R193). -/

namespace Sys2Proof.Machine

/-! ### The line ports (R3, R193) -/

/-- Transceiver power: on exactly in TRAINING and IN_SERVICE (R3); off while the part is stopped (R193). -/
def State.transceiverPower (s : State) (l : LineNo) : Bool := s.running && (s.line l).state.counted

/-- The service relay is closed in every state but UNEQUIPPED and WITHDRAWN (R3), open while stopped (R193). -/
def State.serviceRelay (s : State) (l : LineNo) : Bool :=
  s.running &&
  match (s.line l).state with
  | .unequipped => false
  | .withdrawn _ _ => false
  | _ => true

/-- The test relay is closed while a WITHDRAWN line is ON_BUS (R3, R13), open while stopped (R193). -/
def State.testRelay (s : State) (l : LineNo) : Bool :=
  s.running &&
  match (s.line l).state with
  | .withdrawn _ .onBus => true
  | _ => false

/-- The signature switch follows the profile in IDLE, SHED and QUARANTINED (R3), open otherwise and while stopped. -/
def State.signatureSwitch (s : State) (l : LineNo) : Bool :=
  s.running && (s.line l).profile.park == .signature &&
  match (s.line l).state with
  | .idle => true
  | .shed => true
  | .quarantined _ => true
  | _ => false

/-! ### Energy (R143, R148) -/

/-- The cost of an uplink rate class (R148). -/
def classCost : Nat → Nat
  | 0 => 4
  | 1 => 4
  | 2 => 7
  | 3 => 11
  | _ => 16

/-- The line part of committed consumption (R148). -/
def State.linePart (s : State) : Nat :=
  (allLines.map fun l => if (s.line l).state.counted then (s.line l).profile.cost else 0).sum

/-- The engine part (R148, R110). -/
def State.enginePart (s : State) : Nat := if s.engine.current.isSome then Config.engineCost else 0

/-- The cap part (R148). -/
def State.capPart (s : State) : Nat := classCost s.energy.cap

/-- Committed consumption (R148). -/
def State.committed (s : State) : Nat := s.linePart + s.enginePart + s.capPart

/-- The budget of a supply state; UNKNOWN uses the BATT_LOW budget (R143). -/
def Budgets.of (b : Budgets) : Supply → Nat
  | .unknown => b.battLow
  | .mains => b.mains
  | .battHigh => b.battHigh
  | .battLow => b.battLow
  | .battCrit => b.battCrit

/-- The budget in force (R143). -/
def State.budget (s : State) : Nat := s.energy.budgets.of s.energy.supply

/-- The current order is in an exit that is energy held (R138, R157). -/
def State.energyHeld (s : State) : Bool :=
  match s.engine.current with
  | some c => match c.phase with
    | .exit x => x.energyHeld
    | _ => false
  | none => false

/-! ### Cabinet points (R159 to R166) -/

/-- The group of a point (R159). -/
def pointGroup (p : PointNo) : PointGroup :=
  if p.val < 2 then .fastInput else if p.val < 4 then .input else if p.val < 8 then .general else .output

/-- The input functions (R160). -/
def PointFn.isInput : PointFn → Bool
  | .door | .surge | .mains | .battLow | .battCrit | .spareIn => true
  | .unassigned | .testPower | .capA | .capB | .lamp | .fan => false

/-- The output functions (R160). -/
def PointFn.isOutput : PointFn → Bool
  | .testPower | .capA | .capB | .lamp | .fan => true
  | .unassigned | .door | .surge | .mains | .battLow | .battCrit | .spareIn => false

/-- The functions that a group may hold; NONE is permitted everywhere (R160). -/
def PointGroup.permits (g : PointGroup) (f : PointFn) : Bool :=
  f == .unassigned ||
  match g with
  | .fastInput => f.isInput
  | .input => f.isInput && f != .surge
  | .general => f != .surge
  | .output => f.isOutput

/-- The record of a point (R159). -/
def State.point (s : State) (p : PointNo) : Point := s.points.recs[p]

/-- A point with this function in this group drives its terminal (R159). -/
def drivesWith (p : PointNo) (f : PointFn) : Bool :=
  match pointGroup p with
  | .output => true
  | .general => f.isOutput
  | .fastInput => false
  | .input => false

/-- A point drives its terminal (R159). -/
def State.drives (s : State) (p : PointNo) : Bool := drivesWith p (s.point p).fn

/-- A point reads its input exactly when it does not drive its terminal (R159). -/
def State.reads (s : State) (p : PointNo) : Bool := !s.drives p

/-- The electrical level of the active state under a polarity (R159). -/
def Polarity.active : Polarity → Level
  | .activeHigh => .high
  | .activeLow => .low

/-- The electrical level of the inactive state under a polarity (R159). -/
def Polarity.inactive : Polarity → Level
  | .activeHigh => .low
  | .activeLow => .high

/-- A point's input is active while its debounced level is the active level (R159). -/
def Point.active (r : Point) : Bool := r.debounced == some r.polarity.active

/-- The point that holds a function, if one does (R161: at most one). -/
def State.holder (s : State) (f : PointFn) : Option PointNo := allPoints.find? fun p => (s.point p).fn == f

/-- An input function is active; one that is not assigned counts as inactive (R144, R159). -/
def State.fnActive (s : State) (f : PointFn) : Bool :=
  match s.holder f with
  | some p => (s.point p).active
  | none => false

/-- The door-open condition: DOOR is assigned and active (R165). -/
def State.doorOpen (s : State) : Bool := s.fnActive .door

/-- The driven state of a point, present while it drives its terminal (R159, R166, R80). -/
def State.driven (s : State) (p : PointNo) : Option Bool :=
  if s.drives p then
    some (match (s.point p).fn with
      | .testPower => s.points.testPower
      | .capA => s.energy.cap == 2 || s.energy.cap == 4
      | .capB => s.energy.cap == 3 || s.energy.cap == 4
      | .lamp | .fan => (s.point p).driven
      | .unassigned | .door | .surge | .mains | .battLow | .battCrit | .spareIn => false)
  else none

/-- The level that a point puts on its terminal, absent when it drives none or the part is stopped (R159, R193). -/
def State.terminal (s : State) (p : PointNo) : Option Level :=
  if s.running then
    (s.driven p).map fun a => if a then (s.point p).polarity.active else (s.point p).polarity.inactive
  else none

/-! ### The rest of the outside's view -/

/-- The scheduler is stalled: lines wait and the launch list is full (R67). -/
def State.stalled (s : State) : Bool :=
  !s.sched.active.isEmpty && s.sched.launch.length == Config.launchCapacity

/-- ATTN is low while a notice waits (R186) and high while the part is stopped (R193). -/
def State.attnLow (s : State) : Bool := s.running && !s.notices.queue.isEmpty

/-- The stimulus code presented to the driver: 2048 while the part is stopped (R88, R193). -/
def State.stimulusCode (s : State) : Nat := if s.running then s.gen.code else Config.restCode

/-- The drive enable presented to the driver: OFF while the part is stopped (R193). -/
def State.driveEnable (s : State) : Bool := s.running && s.gen.drive

/-- The hazard limit that the engine gives the front end, in V (R114, R190). -/
def State.hazardLimit (s : State) : Nat := s.params.hazardLimit

/-- The uplink port asks the equipment for a status report, from a start until the report (R82, log 31); a stopped part
asks nothing (R193). -/
def State.asksUplink (s : State) : Bool := s.running && s.uplink.asked

/-- The characters of the reply that a port sends, none outside a transmission (R177, R195). -/
def State.sentChars (s : State) (p : PortId) : List SerialChar :=
  match (s.port p).job with
  | some (.sending body _) => body.map sentChar
  | _ => []

/-- Whether the main link is transmitting a reply, during which its receiver takes nothing (R176). -/
def State.transmitting (s : State) (p : PortId) : Bool :=
  match (s.port p).job with
  | some (.sending _ _) => true
  | _ => false

/-- The execution state EXECUTING (R171). -/
def State.executing (s : State) (p : PortId) : Bool := (s.port p).job.isSome

end Sys2Proof.Machine
end

