-- ==== Sys2Proof/Machine/Exit.lean ====
section
/-! DEFINITION. The test engine's dealings with the generator and the test relay, the phases that follow a level
reached, and the protective exit (R91, R113, R118, chapter 7). -/

namespace Sys2Proof.Machine

/-! ### The current order record -/

/-- The current order record changed by f, when there is one (R111). -/
def State.withCurrent (f : Current → Current) (s : State) : State :=
  { s with engine := { s.engine with current := s.engine.current.map f } }

/-- The phase of the current order set (R111). -/
def State.setPhase (ph : Phase) (s : State) : State := s.withCurrent fun c => { c with phase := ph }

/-- A close or open request for the line of the current order, acted on while it is WITHDRAWN (R13). -/
def State.setConn (c : Conn) (s : State) : State :=
  match s.engine.current with
  | none => s
  | some cur =>
    match (s.line cur.order.line).state with
    | .withdrawn target _ => s.setLineState cur.order.line (.withdrawn target c)
    | _ => s

/-- The test connection of the current order's line is ON_BUS (R135). -/
def State.onBus (s : State) : Bool :=
  match s.engine.current with
  | none => false
  | some cur =>
    match (s.line cur.order.line).state with
    | .withdrawn _ .onBus => true
    | _ => false

/-! ### Engine requests to the generator (R87, R97) -/

/-- The engine asks for a cut (R96). The level reached that a cut gives ends nothing further (R137). -/
def State.cutGen (s : State) : State := { s with gen := s.gen.cut }

/-- Drive on or off (R97). -/
def State.setDrive (on : Bool) (s : State) : State := { s with gen := { s.gen with drive := on } }

/-- The end of a ramp to rest: drive off, the open request, and what `settled` makes of the settle timer
(R118, R134). -/
def State.leaveBus (settled : Nat → Phase) (s : State) : State :=
  ((s.setDrive false).setConn .offBus).setPhase (settled (s.now + Config.settleTime))

/-- The window of step k in ms (R116). -/
def TestOrder.windowOf (o : TestOrder) (k : Nat) : Nat :=
  match o.steps[k - 1]? with
  | some st => st.window
  | none => 0

/-- A level reached, acted on by the phase: it opens the window of FOREIGN or of a step, ends the ramp of RELEASE, or
ends the ramp of a RAMP exit (R91, R115, R116, R118, R134); in any other phase it is discarded (R127). -/
def State.levelReached (s : State) : State :=
  match s.engine.current with
  | none => s
  | some cur =>
    match cur.phase with
    | .foreign none => s.setPhase (.foreign (some (s.now + Config.foreignWindow)))
    | .step k none => s.setPhase (.step k (some (s.now + ms (cur.order.windowOf k))))
    | .releaseRamp => s.leaveBus .releaseSettle
    | .exit x =>
      match x.stage with
      | .ramp => s.leaveBus fun e => .exit { x with stage := .settle e }
      | _ => s
    | _ => s

/-- The engine loads the generator (R90); level reached may come within the load (R91). -/
def State.load (prog : Program) (e p : Nat) (s : State) : State :=
  let (g, reached) := s.gen.load prog e p s.now
  let s := { s with gen := g }
  if reached then s.levelReached else s

/-- A step event that is due (R89), with the level reached it may give. -/
def State.stepGen (s : State) : State :=
  if s.due s.gen.next then
    let (g, reached) := s.gen.step s.now
    let s := { s with gen := g }
    if reached then s.levelReached else s
  else s

/-! ### The protective exit (R129 to R139) -/

/-- The mode of an exit begun now by a cause (R130). -/
def State.exitModeFor (s : State) (cause : Cause) : ExitMode :=
  match cause with
  | .hazard => .cut
  | .surge => .cut
  | _ => s.params.exitMode

/-- The exit record at its beginning (R129, R138). -/
def exitRecord (cause : Cause) (mode : ExitMode) (stage : ExitStage) : ExitRec :=
  { cause, second := none, mode, stage, energyHeld := cause == .energy }

/-- A cut with the open request: what CUT does at once, and what ends RAMP and DWELL early (R133, R137). -/
def State.cutOff (s : State) : State := s.cutGen.setConn .offBus

/-- A protective exit begins: the phase becomes EXIT, which abandons timer, window and stage, and the mode's first
stage begins (R130, R133, R134, R135). -/
def State.beginExit (cause : Cause) (s : State) : State :=
  let settle := ExitStage.settle (s.now + Config.settleTime)
  match s.exitModeFor cause with
  | .cut => s.cutOff.setPhase (.exit (exitRecord cause .cut settle))
  | .ramp => (s.setPhase (.exit (exitRecord cause .ramp .ramp))).load .rest Config.exitExp Config.exitPeriod
  | .dwell =>
    if s.onBus then s.cutGen.setPhase (.exit (exitRecord cause .dwell (.dwell (s.now + Config.dwellTime))))
    else s.cutOff.setPhase (.exit (exitRecord cause .dwell settle))

/-- A cause is recorded as the second cause when none is and it differs from the exit's (R137, R138). -/
def ExitRec.note (cause : Cause) (x : ExitRec) : ExitRec :=
  if x.second.isNone && x.cause != cause then { x with second := some cause } else x

/-- A hazard crossing or SURGE assertion taken in EXIT escalates it by its stage (R137). -/
def State.escalate (cause : Cause) (x : ExitRec) (s : State) : State :=
  let cut := { x.note cause with mode := .cut, stage := .settle (s.now + Config.settleTime) }
  match x.stage with
  | .ramp => s.cutOff.setPhase (.exit cut)
  | .dwell _ => (s.setConn .offBus).setPhase (.exit cut)
  | .settle _ => s.setPhase (.exit (x.note cause))

/-- An order in WARMUP, ISOLATE, FOREIGN or STEP (R131). -/
def Phase.early : Phase → Bool
  | .warmup _ | .firstSettle _ | .secondSettle _ | .foreign _ | .step _ _ => true
  | .releaseRamp | .releaseSettle _ | .exit _ => false

/-- An ENERGY cause taken in EXIT: noted, and the exit becomes energy held (R138). -/
def ExitRec.holdEnergy (x : ExitRec) : ExitRec := { x.note .energy with energyHeld := true }

/-- A hazard crossing by the phase (R114, R131, R137). -/
def State.takeHazard (s : State) : State :=
  match s.engine.current with
  | none => s
  | some cur =>
    match cur.phase with
    | .foreign _ => s.beginExit .hazard
    | .step _ _ => s.beginExit .hazard
    | .exit x => s.escalate .hazard x
    | _ => s

/-- The SURGE cause by the phase (R131, R132, R137). -/
def State.takeSurge (s : State) : State :=
  match s.engine.current with
  | none => s
  | some cur =>
    match cur.phase with
    | .exit x => s.escalate .surge x
    | .releaseSettle _ => s
    | _ => s.beginExit .surge

/-- The DOOR cause by the phase, for a current order of origin CRAFT (R131, R138, R140). -/
def State.takeDoor (s : State) : State :=
  match s.engine.current with
  | none => s
  | some cur =>
    if cur.order.origin = .craft then
      match cur.phase with
      | .exit x => s.setPhase (.exit (x.note .door))
      | ph => if ph.early then s.beginExit .door else s
    else s

/-- The ENERGY cause from a shedding pass, by the phase (R131, R132, R138, R150). An order in the SETTLE stage of
RELEASE takes up the exit in its SETTLE stage with the settle timer as it stands. -/
def State.takeEnergyPass (s : State) : State :=
  match s.engine.current with
  | none => s
  | some cur =>
    match cur.phase with
    | .exit x => s.setPhase (.exit x.holdEnergy)
    | .releaseSettle timer => s.setPhase (.exit (exitRecord .energy s.params.exitMode (.settle timer)))
    | _ => s.beginExit .energy

/-- The ENERGY cause from the entry into BATT_CRIT, by the phase: not acted on in RELEASE (R132, R155). -/
def State.takeEnergyCrit (s : State) : State :=
  match s.engine.current with
  | none => s
  | some cur =>
    match cur.phase with
    | .exit x => s.setPhase (.exit x.holdEnergy)
    | ph => if ph.early then s.beginExit .energy else s

end Sys2Proof.Machine
end

