-- ==== Sys2Proof/Machine/Power.lean ====
section
/-! DEFINITION. The energy manager's passes and admission (R148 to R153). -/

namespace Sys2Proof.Machine

/-- The profile cost of line l (R2). -/
def State.costOf (s : State) (l : LineNo) : Nat := (s.line l).profile.cost

/-- Admission of a further cost: committed + cost at most the budget in force (R153). -/
def State.admits (s : State) (cost : Nat) : Bool := s.committed + cost ≤ s.budget

/-- The cap class set (R149); the CAP_A and CAP_B terminals follow (R80). -/
def State.setCap (c : Nat) (s : State) : State := { s with energy := { s.energy with cap := c } }

/-- The shed list set (R151). -/
def State.setShed (ls : List LineNo) (s : State) : State := { s with energy := { s.energy with shed := ls } }

/-- The better of two candidates to be shed: the lower keep class, and at equal keep class the one met first, which
is the higher number (R150). -/
def State.shedFirst (s : State) (best : Option LineNo) (l : LineNo) : Option LineNo :=
  if (s.line l).state.counted then
    match best with
    | none => some l
    | some b => if (s.line l).profile.keep < (s.line b).profile.keep then some l else some b
  else best

/-- The line a shedding pass sheds next: lowest keep class, then highest number, among the counted lines (R150). -/
def State.shedCandidate (s : State) : Option LineNo := allLines.reverse.foldl s.shedFirst none

/-- A line is shed: pushed on top of the shed list and moved to SHED with cause ENERGY (R10, R150). -/
def State.shedLine (l : LineNo) (s : State) : State :=
  (s.setShed (l :: s.energy.shed)).moveLine l .shed .energy

/-- The shedding pass with a bound on its iterations (R150): cap, line, engine, nothing. -/
def State.shedLoop : Nat → State → State
  | 0, s => s
  | n + 1, s =>
    if s.committed ≤ s.budget then s
    else if 1 < s.energy.cap then (s.setCap (s.energy.cap - 1)).shedLoop n
    else
      match s.shedCandidate with
      | some l => (s.shedLine l).shedLoop n
      | none => s.takeEnergyPass

/-- The shedding pass (R150): at most three cap steps, twenty-four lines and the engine step. -/
def State.sheddingPass (s : State) : State := s.shedLoop 28

/-- A line is restored: popped from the shed list and moved to TRAINING with a deadline and cause RESTORE (R11). -/
def State.restoreLine (l : LineNo) (rest : List LineNo) (s : State) : State :=
  (s.setShed rest).moveLine l (.training s.newDeadline) .restore

/-- Stage 1 of the restoring pass: lines from the top of the shed list while the top fits (R152). -/
def State.restoreLoop : Nat → State → State
  | 0, s => s
  | n + 1, s =>
    match s.energy.shed with
    | [] => s
    | l :: rest => if s.admits (s.costOf l) then (s.restoreLine l rest).restoreLoop n else s

/-- Stage 2 of the restoring pass: the cap class is raised while the next class fits (R152). -/
def State.raiseLoop : Nat → State → State
  | 0, s => s
  | n + 1, s =>
    if s.energy.cap < s.params.capCeiling ∧
        s.committed + classCost (s.energy.cap + 1) ≤ s.budget + classCost s.energy.cap then
      (s.setCap (s.energy.cap + 1)).raiseLoop n
    else s

/-- The restoring pass (R152). -/
def State.restoringPass (s : State) : State := (s.restoreLoop s.energy.shed.length).raiseLoop 3

/-- The pass that a change of committed consumption calls for: shedding on a rise, restoring on a fall, none when it
did not change (R110, R148). -/
def State.passFor (before after : Nat) (s : State) : State :=
  if before < after then s.sheddingPass else if after < before then s.restoringPass else s

end Sys2Proof.Machine
end

