-- ==== Sys2Proof/Machine/TestEngine.lean ====
section
/-! DEFINITION. The test engine (chapter 6): ids, the result store, taking an order, the phases from WARMUP to
RELEASE, the return of the line and the report. -/

namespace Sys2Proof.Machine

/-! ### Ids and results (R104, R122, R123) -/

/-- The number after an id, returning from 255 to 1 (R104). -/
def idAfter (n : Nat) : Nat := if n < 255 then n + 1 else 1

/-- An id is in use by a queued order, the current order or a result record (R104). -/
def Engine.uses (e : Engine) (id : Nat) : Bool :=
  e.queue.any (fun o => o.id == id) || e.results.any (fun r => r.id == id) ||
  match e.current with
  | some c => c.order.id == id
  | none => false

/-- The first number after `n` not in use, within a bound on the tries (R104). -/
def Engine.freeId (e : Engine) : Nat → Nat → Nat
  | 0, n => n
  | k + 1, n => if e.uses n then e.freeId k (idAfter n) else n

/-- The id that the next order is given; 25 ids are in use at most, so 26 tries find one (R104). -/
def Engine.nextId (e : Engine) : Nat := e.freeId 26 (idAfter e.lastId)

/-- A result record is added; a full store discards its oldest (R123). -/
def Engine.store (r : Result) (e : Engine) : Engine :=
  if e.results.length < Config.resultCapacity then { e with results := e.results ++ [r] }
  else { e with results := e.results.drop 1 ++ [r] }

/-- The result of an order that ended without being current (R122). -/
def TestOrder.ended (o : TestOrder) (outcome : TestOutcome) (cause : Cause) : Result :=
  { id := o.id, origin := o.origin, line := o.line, outcome, cause := some cause, foreignValue := none, steps := [],
    exit := none, returned := none, readMain := false, readCraft := false }

/-- A result record is stored and its TEST notice queued (R121, R109, R125). -/
def State.storeResult (r : Result) (s : State) : State :=
  ({ s with engine := s.engine.store r }).notify (.test r.id r.origin r.outcome)

/-- An order leaves the queue; the others keep their order (R105). -/
def State.dequeue (o : TestOrder) (s : State) : State :=
  { s with engine := { s.engine with queue := s.engine.queue.filter fun q => q.id != o.id } }

/-- A queued order ends ABORTED with a cause (R125, R126, R140). -/
def State.removeOrder (cause : Cause) (s : State) (o : TestOrder) : State :=
  (s.dequeue o).storeResult (o.ended .aborted cause)

/-! ### Taking an order (R107 to R112) -/

/-- The candidate: the oldest CRAFT order, otherwise the oldest MAIN order (R107). -/
def Engine.candidate (e : Engine) : Option TestOrder :=
  match e.queue.find? fun o => o.origin == .craft with
  | some o => some o
  | none => e.queue.head?

/-- The cost that the take would release: r of R108. -/
def State.releasedBy (s : State) (o : TestOrder) : Nat :=
  if o.interrupt && (s.line o.line).state.counted then s.costOf o.line else 0

/-- The conditions of an attempt (R108): surge quiet, supply, energy admission. -/
def State.canTake (s : State) (o : TestOrder) : Bool :=
  s.points.surge == .calm && s.energy.supply != .battCrit &&
  s.committed + Config.engineCost ≤ s.budget + s.releasedBy o

/-- The withdrawal request: the line leaves the shed list and goes to WITHDRAWN, OFF_BUS (R12). -/
def State.withdraw (l : LineNo) (target : Target) (s : State) : State :=
  (s.setShed (s.energy.shed.filter fun k => k != l)).moveLine l (.withdrawn target .offBus) .test

/-- The order becomes current in WARMUP with the test power request ACTIVE (R109, R111, R112). -/
def State.makeCurrent (o : TestOrder) (s : State) : State :=
  { s with
    engine := { s.engine with
      current := some (Current.mk o (.warmup (s.now + Config.warmupTime)) none [] .pass) }
    points := { s.points with testPower := true } }

/-- Acquire: the order leaves the queue, its line is withdrawn, it becomes current, and the pass of the net change of
committed consumption runs (R109, R110, R154). -/
def State.acquire (o : TestOrder) (target : Target) (s : State) : State :=
  let taken := ((s.dequeue o).withdraw o.line target).makeCurrent o
  taken.passFor s.committed taken.committed

/-- A refused order ends REFUSED with cause IN_SERVICE (R109). -/
def State.refuseOrder (o : TestOrder) (s : State) : State := (s.dequeue o).storeResult (o.ended .refused .inService)

/-- Attempts to take the candidate, one after another while orders are refused, within a bound (R108, R109). -/
def State.attemptLoop : Nat → State → State
  | 0, s => s
  | n + 1, s =>
    if s.engine.current.isSome then s
    else
      match s.engine.candidate with
      | none => s
      | some o =>
        if s.canTake o then
          match (s.line o.line).state with
          | .idle => s.acquire o .idle
          | .shed => s.acquire o .training
          | .training _ => if o.interrupt then s.acquire o .training else (s.refuseOrder o).attemptLoop n
          | .inService => if o.interrupt then s.acquire o .training else (s.refuseOrder o).attemptLoop n
          | .quarantined c => s.acquire o (.quarantined c)
          | .withdrawn _ _ => s
          | .unequipped => s
        else s

/-- The engine makes an attempt (R108): each refused order is followed by a further attempt at once. -/
def State.attempt (s : State) : State := s.attemptLoop s.engine.queue.length

/-! ### Phases (R112 to R118) -/

/-- WARMUP ends and ISOLATE begins in FIRST_SETTLE (R112, R113). -/
def State.endWarmup (s : State) : State :=
  match s.engine.current with
  | some { phase := .warmup e, .. } =>
    if e ≤ s.now then s.setPhase (.firstSettle (s.now + Config.settleTime)) else s
  | _ => s

/-- FIRST_SETTLE ends: the close request, then SECOND_SETTLE (R113). -/
def State.endFirstSettle (s : State) : State :=
  match s.engine.current with
  | some { phase := .firstSettle e, .. } =>
    if e ≤ s.now then (s.setConn .onBus).setPhase (.secondSettle (s.now + Config.settleTime)) else s
  | _ => s

/-- SECOND_SETTLE ends: drive on, then FOREIGN, which loads REST at the exit step (R113, R115). -/
def State.endSecondSettle (s : State) : State :=
  match s.engine.current with
  | some { phase := .secondSettle e, .. } =>
    if e ≤ s.now then ((s.setDrive true).setPhase (.foreign none)).load .rest Config.exitExp Config.exitPeriod else s
  | _ => s

/-- RELEASE begins in its RAMP stage with REST at e and p (R118). -/
def State.beginRelease (e p : Nat) (s : State) : State := (s.setPhase .releaseRamp).load .rest e p

/-- STEP k begins with its program loaded (R116). -/
def State.beginStep (o : TestOrder) (k : Nat) (s : State) : State :=
  match o.steps[k - 1]? with
  | some st => (s.setPhase (.step k none)).load st.stim.program st.exp st.period
  | none => s.beginRelease Config.exitExp Config.exitPeriod

/-- The verdict of a step (R117). -/
def HostStep.verdict (st : HostStep) (value : Nat) : Verdict :=
  match st.lower, st.upper with
  | none, none => .none
  | some lo, none => if lo ≤ value then .pass else .fail
  | none, some up => if value ≤ up then .pass else .fail
  | some lo, some up => if lo ≤ value ∧ value ≤ up then .pass else .fail

/-- A FAIL verdict sets the outcome so far to FAIL unless it is HAZARD (R117). -/
def SoFar.after (o : SoFar) (v : Verdict) : SoFar :=
  match v, o with
  | .fail, .pass => .fail
  | _, o => o

/-- The FOREIGN reading: the foreign value is recorded and judged against the hazard limit in 0.1 V (R115). -/
def State.foreignReading (cur : Current) (v : Nat) (s : State) : State :=
  if s.params.hazardLimit * 10 ≤ v then
    (s.withCurrent fun c => { c with foreignValue := some v, soFar := .hazard }).beginRelease
      Config.exitExp Config.exitPeriod
  else
    (s.withCurrent fun c => { c with foreignValue := some v }).beginStep cur.order 1

/-- A step's reading: judged and recorded, then the next step or RELEASE at the e and p of this step (R116, R117,
R118). -/
def State.stepReading (cur : Current) (k : Nat) (v : Nat) (s : State) : State :=
  match cur.order.steps[k - 1]? with
  | none => s
  | some st =>
    let verdict := st.verdict v
    let s := s.withCurrent fun c =>
      { c with results := c.results ++ [StepResult.mk st.stim.kind v verdict], soFar := c.soFar.after verdict }
    if k < cur.order.steps.length then s.beginStep cur.order (k + 1) else s.beginRelease st.exp st.period

/-- A reading ends the open window of its kind (R114); one that finds no such window open is discarded (log 15). -/
def State.takeReading (r : Reading) (s : State) : State :=
  match s.engine.current with
  | none => s
  | some cur =>
    match cur.phase, r with
    | .foreign (some _), .foreign a b c => s.foreignReading cur (max a.toNat (max b.toNat c.toNat))
    | .step k (some _), .value v => s.stepReading cur k v.toNat
    | _, _ => s

/-! ### Return and report (R119 to R121, R136) -/

/-- The return that the flags and the outcome give from the return target: steps 1 and 2 of R119. -/
def TestOrder.flagged (o : TestOrder) (outcome : TestOutcome) (target : Target) : Target :=
  if o.quarantineOnFail ∧ (outcome = .fail ∨ outcome = .hazard) then .quarantined .test
  else
    match target with
    | .quarantined c => if o.clearOnPass ∧ outcome = .pass then .idle else .quarantined c
    | other => other

/-- The resolved return state: R119 with its energy admission. -/
def State.resolveReturn (o : TestOrder) (outcome : TestOutcome) (target : Target) (s : State) : ReturnState :=
  match o.flagged outcome target with
  | .idle => .idle
  | .quarantined c => .quarantined c
  | .training => if s.admits (s.costOf o.line) then .training else .shed

/-- The return target of the current order's line as it stands; a line that is not WITHDRAWN, which no run reaches,
counts as IDLE (R12, log 24). -/
def State.targetOf (s : State) (l : LineNo) : Target :=
  match (s.line l).state with
  | .withdrawn target _ => target
  | _ => .idle

/-- A return of IDLE to a line whose recorded return target was QUARANTINED sets the fail count to 0 (R9, R15). -/
def clearsFail : Target → Bool
  | .quarantined _ => true
  | _ => false

/-- The return request (R15): a TRAINING return has been admitted, so the shedding pass that follows its addition
finds nothing to do (R148); a SHED return stands on top of the shed list (R119). -/
def State.returnLine (l : LineNo) (target : Target) (r : ReturnState) (s : State) : State :=
  match r with
  | .idle =>
    (if clearsFail target then s.setFail l 0 else s).moveLine l .idle .test
  | .quarantined c => s.moveLine l (.quarantined c) .test
  | .training => (s.moveLine l (.training s.newDeadline) .test).sheddingPass
  | .shed => (s.setShed (l :: s.energy.shed)).moveLine l .shed .test

/-- What the result record keeps of the phase's exit record (R129). -/
def Phase.exitReport : Phase → Option ExitReport
  | .exit x => some { cause := x.cause, second := x.second, mode := x.mode }
  | _ => none

/-- The outcome of an order at the end of RELEASE or of an exit, with the result's cause (R121, R136). -/
def Current.outcome (c : Current) : TestOutcome × Option Cause :=
  match c.phase with
  | .exit x =>
    if x.cause = .hazard ∨ c.soFar = .hazard then (.hazard, none) else (.aborted, some x.cause)
  | _ =>
    match c.soFar with
    | .pass => (.pass, none)
    | .fail => (.fail, none)
    | .hazard => (.hazard, none)

/-- The result record of the current order (R122). -/
def Current.result (c : Current) (returned : ReturnState) : Result :=
  { id := c.order.id, origin := c.order.origin, line := c.order.line, outcome := c.outcome.1, cause := c.outcome.2,
    foreignValue := c.foreignValue, steps := c.results, exit := c.phase.exitReport, returned := some returned,
    readMain := false, readCraft := false }

/-- The engine becomes idle: the current order record goes and its 6 units with it (R121). -/
def State.idleEngine (s : State) : State := { s with engine := { s.engine with current := none } }

/-- The test power request set (R166). -/
def State.setTestPower (on : Bool) (s : State) : State := { s with points := { s.points with testPower := on } }

/-- The end of an order in its one event: TEST_POWER inactive, return resolved and made, report, restoring pass,
attempt (R118, R136, R121, R154). -/
def State.finishOrder (c : Current) (s : State) : State :=
  let s := s.setTestPower false
  let target := s.targetOf c.order.line
  let returned := s.resolveReturn c.order c.outcome.1 target
  let s := (s.returnLine c.order.line target returned).storeResult (c.result returned)
  s.idleEngine.restoringPass.attempt

/-- The settle timer of RELEASE expires (R118). -/
def State.endRelease (s : State) : State :=
  match s.engine.current with
  | none => s
  | some cur =>
    match cur.phase with
    | .releaseSettle e => if e ≤ s.now then s.finishOrder cur else s
    | _ => s

/-- The dwell timer of an exit expires: the open request, then SETTLE (R135). -/
def State.endDwell (s : State) : State :=
  match s.engine.current with
  | none => s
  | some cur =>
    match cur.phase with
    | .exit x =>
      match x.stage with
      | .dwell e =>
        if e ≤ s.now then
          (s.setConn .offBus).setPhase (.exit { x with stage := .settle (s.now + Config.settleTime) })
        else s
      | _ => s
    | _ => s

/-- The settle timer of an exit expires (R136). -/
def State.endExit (s : State) : State :=
  match s.engine.current with
  | none => s
  | some cur =>
    match cur.phase with
    | .exit x =>
      match x.stage with
      | .settle e => if e ≤ s.now then s.finishOrder cur else s
      | _ => s
    | _ => s

/-- The door-open condition is lost: the queued CRAFT orders are removed oldest first, a current CRAFT order takes the
DOOR cause, and an idle engine makes an attempt (R140). -/
def State.doorLoss (s : State) : State :=
  let crafts := s.engine.queue.filter fun o => o.origin == .craft
  ((crafts.foldl (State.removeOrder .door) s).takeDoor).attempt

end Sys2Proof.Machine
end

