-- ==== Sys2Proof/Machine/Cabinet.lean ====
section
/-! DEFINITION. The supply state and the cabinet points: supply changes and input events (R144 to R149), debounce,
surge, door and assignment (R161 to R166). -/

namespace Sys2Proof.Machine

/-! ### The supply state (R143 to R149) -/

/-- The pass that a change of the budget in force calls for (R143, R146, R147). -/
def State.budgetPass (before : Nat) (s : State) : State :=
  if s.budget < before then s.sheddingPass
  else if before < s.budget then s.restoringPass
  else s

/-- A change of the supply state, in the order of R146. R141 says that the first supply state after a start reaches an
idle engine. Where an order was taken before it, the supply still being UNKNOWN (R108 allows the take), R141 leaves the
case open: the model's choice is that R155 then holds as at any other entry into BATT_CRIT, and the order takes the
ENERGY cause (DESIGN CHOICE, log 33). -/
def State.changeSupply (new : Supply) (source : SupplySource) (s : State) : State :=
  let entered := { s with energy := { s.energy with supply := new, source := source } }
  let noticed := entered.notify (.supply new entered.budget source)
  let handed := if new = .battCrit then noticed.takeEnergyCrit else noticed
  (handed.budgetPass s.budget).attempt

/-- A supply state set by a source: a change when it differs, otherwise the source alone is recorded (R144, R145). -/
def State.setSupply (new : Supply) (source : SupplySource) (s : State) : State :=
  if s.energy.supply = new then { s with energy := { s.energy with source := source } }
  else s.changeSupply new source

/-- The state derived from the three inputs (R144). -/
def derivedSupply (mains crit low : Bool) : Supply :=
  if mains then .mains else if crit then .battCrit else if low then .battLow else .battHigh

/-- An input event at the energy manager: it derives a state while MAINS is assigned (R144). -/
def State.inputEvent (s : State) : State :=
  match s.holder .mains with
  | none => s
  | some _ => s.setSupply (derivedSupply (s.fnActive .mains) (s.fnActive .battCrit) (s.fnActive .battLow)) .inputs

/-- The budget of a supply state set in the table; UNKNOWN has none of its own (R147). -/
def Budgets.put (b : Budgets) (st : Supply) (n : Nat) : Budgets :=
  match st with
  | .unknown => b
  | .mains => { b with mains := n }
  | .battHigh => { b with battHigh := n }
  | .battLow => { b with battLow := n }
  | .battCrit => { b with battCrit := n }

/-- BUDGET SET on the machine (R147): notice, pass and attempt when the budget in force changed. -/
def State.putBudget (st : Supply) (n : Nat) (s : State) : State :=
  let s' := { s with energy := { s.energy with budgets := s.energy.budgets.put st n } }
  if s'.budget = s.budget then s'
  else ((s'.notify (.supply s'.energy.supply s'.budget .budget)).budgetPass s.budget).attempt

/-- An attempt when committed consumption is no longer what it was (R108, R148). -/
def State.attemptIfMoved (before : Nat) (s : State) : State := if s.committed = before then s else s.attempt

/-- What a change of the cap ceiling does at the energy manager, the new ceiling being in the parameter table
(R149). -/
def State.ceilingSet (old : Nat) (s : State) : State :=
  if s.params.capCeiling < s.energy.cap then ((s.setCap s.params.capCeiling).restoringPass).attempt
  else if old < s.params.capCeiling then s.restoringPass.attemptIfMoved s.committed
  else s

/-! ### Points: records, surge and door (R159, R163 to R165) -/

/-- Point p's record changed by f. -/
def State.setPoint (p : PointNo) (f : Point → Point) (s : State) : State :=
  { s with points := { s.points with recs := s.points.recs.set p (f s.points.recs[p]) } }

/-- The surge state set (R164). -/
def State.setSurge (v : Surge) (s : State) : State := { s with points := { s.points with surge := v } }

/-- An assertion of SURGE on point p: debounced level active at once, ASSERTED, a POINT notice unless it comes from an
assignment, the SURGE cause to the engine, and the change of the surge state told (R164, R162, R108). -/
def State.assertSurge (p : PointNo) (notice : Bool) (s : State) : State :=
  let s := (s.setPoint p fun r => { r with debounced := some r.polarity.active, window := none }).setSurge .asserted
  let s := if notice then s.notify (.point p .surge true) else s
  s.takeSurge.attempt

/-- A level change on the point that holds SURGE (R164). -/
def State.surgeInput (p : PointNo) (lvl : Level) (s : State) : State :=
  if lvl = (s.point p).polarity.active then
    if (s.point p).active then s.setPoint p fun r => { r with window := none }
    else s.assertSurge p true
  else if (s.point p).active then s.setPoint p fun r => { r with window := some (s.now + Config.debounceTime) }
  else s

/-- A change of a point's input level (R163, R164). The level on the terminal is recorded whether or not the part
takes the event; a stopped part or a driving point does nothing more (R159, R193, log 18). -/
def State.inputChange (p : PointNo) (lvl : Level) (s : State) : State :=
  if (s.point p).input = lvl then s
  else
    let s := s.setPoint p fun r => { r with input := lvl }
    if !s.running || s.drives p then s
    else if (s.point p).fn = .surge then s.surgeInput p lvl
    else s.setPoint p fun r => { r with window := some (s.now + Config.debounceTime) }

/-- What a change of the function's state hands on when DOOR, gained or lost (R165). -/
def State.doorMoved (now : Bool) (s : State) : State := if now then s else s.doorLoss

/-- What a change of a debounced level does by the point's function; `was` is whether it was active (R163). -/
def State.levelTaken (p : PointNo) (was : Bool) (s : State) : State :=
  match (s.point p).fn with
  | .door =>
    if (s.point p).active = was then s
    else (s.notify (.point p .door (s.point p).active)).doorMoved (s.point p).active
  | .spareIn => if (s.point p).active = was then s else s.notify (.point p .spareIn (s.point p).active)
  | .mains => s.inputEvent
  | .battLow => s.inputEvent
  | .battCrit => s.inputEvent
  | _ => s

/-- The debounce window of point p expires (R163): a level that differs from the one recorded, or a first one, is a
change. -/
def State.endDebounce (p : PointNo) (s : State) : State :=
  let r := s.point p
  if s.reads p && r.fn != .surge && s.due r.window then
    let taken := s.setPoint p fun r => { r with debounced := some r.input, window := none }
    if r.debounced = some r.input then taken else taken.levelTaken p r.active
  else s

/-- The clear window of the SURGE point expires: QUIET with its expiry, a POINT notice, and the engine told (R164). -/
def State.endSurgeClear (s : State) : State :=
  match s.holder .surge with
  | none => s
  | some p =>
    if s.due (s.point p).window then
      (((s.setPoint p fun r => { r with debounced := some r.polarity.inactive, window := none }).setSurge
        (.quiet (s.now + secs s.params.quietTime))).notify (.point p .surge false)).attempt
    else s

/-- The quiet time expires: CALM, and the engine told (R164). -/
def State.endQuiet (s : State) : State :=
  match s.points.surge with
  | .quiet e => if e ≤ s.now then (s.setSurge .calm).attempt else s
  | _ => s

/-! ### Assignment (R161, R162) -/

/-- The old function of point p is released, leaving NONE (R162). -/
def State.releaseFn (p : PointNo) (s : State) : State :=
  let bare := s.setPoint p fun r => { r with fn := .unassigned }
  match (s.point p).fn with
  | .door => if s.doorOpen then bare.doorLoss else bare
  | .surge =>
    let calm := (bare.setPoint p fun r =>
      { r with debounced := none, window := some (s.now + Config.debounceTime) }).setSurge .calm
    if s.points.surge = .calm then calm else calm.attempt
  | .mains => bare.inputEvent
  | .battLow => bare.inputEvent
  | .battCrit => bare.inputEvent
  | .spareIn => bare
  | .unassigned => bare
  | .testPower | .capA | .capB | .lamp | .fan =>
    bare.setPoint p fun r =>
      { r with debounced := none, driven := false,
               window := if pointGroup p = .general then some (s.now + Config.debounceTime) else none }

/-- The new function of point p, already in its record, is taken up (R162). -/
def State.takeUpFn (p : PointNo) (s : State) : State :=
  match (s.point p).fn with
  | .surge =>
    if (s.point p).input = (s.point p).polarity.active then s.assertSurge p false
    else s.setPoint p fun r => { r with debounced := some r.polarity.inactive, window := none }
  | .mains => s.inputEvent
  | .battLow => s.inputEvent
  | .battCrit => s.inputEvent
  | .testPower | .capA | .capB | .lamp | .fan =>
    s.setPoint p fun r => { r with debounced := none, window := none, driven := false }
  | .door | .spareIn | .unassigned => s

/-- The same function under a new polarity, other than SURGE: the state of an input function is worked out anew and
handed on without a POINT notice; an output keeps its driven state (R162). -/
def State.repolarise (p : PointNo) (pol : Polarity) (s : State) : State :=
  let s' := s.setPoint p fun r => { r with polarity := pol }
  if (s'.point p).active = (s.point p).active then s'
  else
    match (s.point p).fn with
    | .door => s'.doorMoved (s'.point p).active
    | .mains => s'.inputEvent
    | .battLow => s'.inputEvent
    | .battCrit => s'.inputEvent
    | _ => s'

/-- An assignment that passed its checks (R162). -/
def State.assignFn (p : PointNo) (f : PointFn) (pol : Polarity) (s : State) : State :=
  let r := s.point p
  if r.fn = f ∧ r.polarity = pol then s
  else if r.fn = f ∧ f ≠ .surge then s.repolarise p pol
  else ((s.releaseFn p).setPoint p fun r => { r with fn := f, polarity := pol }).takeUpFn p

/-- Another point holds the function (R161). -/
def State.heldElsewhere (p : PointNo) (f : PointFn) (s : State) : Bool :=
  f != .unassigned && allPoints.any fun q => q != p && (s.point q).fn == f

end Sys2Proof.Machine
end

