-- ==== Sys2Proof/Machine/Traffic.lean ====
section
/-! DEFINITION. Traffic (chapters 2 to 4): the share scheduler, the flow searches, the miss hold list, arrivals,
takes, expiries and the uplink port, as operations on the machine. -/

namespace Sys2Proof.Machine

/-! ### The share scheduler (R67 to R73) -/

/-- The turn of the head of the active list begins: its deficit gains its quantum, weight times 256 (R69). -/
def State.beginTurn (s : State) : State :=
  match s.sched.active with
  | [] => s
  | l :: _ =>
    { s with sched := { s.sched with
        deficit := s.sched.deficit.set l (s.sched.deficit[l] + (s.line l).profile.weight * Config.quantumUnit) } }

/-- A frame joins the tail of its line's ingress queue (R30). When the queue was empty the line joins the active
list at the tail with deficit 0, and its turn begins when the list was empty (R68). -/
def State.joinIngress (l : LineNo) (id : Nat) (s : State) : State :=
  let joined := { s with sched := { s.sched with ingress := s.sched.ingress.set l (s.sched.ingress[l] ++ [id]) } }
  if s.sched.ingress[l] = [] then
    let listed := { joined with sched := { joined.sched with
      active := s.sched.active ++ [l], deficit := s.sched.deficit.set l 0 } }
    if s.sched.active = [] then listed.beginTurn else listed
  else joined

/-- A turn that ends because the head frame does not fit: the line moves to the tail with its deficit and the next
turn begins (R72). -/
def State.endTurn (s : State) : State :=
  match s.sched.active with
  | [] => s
  | l :: rest => ({ s with sched := { s.sched with active := rest ++ [l] } }).beginTurn

/-- A grant: the current line's head frame moves to the tail of the launch list and the deficit falls by its
length; a queue left empty ends the turn with deficit 0 and the next line's turn begins (R71). -/
def State.grant (l : LineNo) (rest : List LineNo) (id : Nat) (more : List Nat) (s : State) : State :=
  let moved := { s with sched := { s.sched with
    ingress := s.sched.ingress.set l more
    launch := s.sched.launch ++ [id]
    deficit := s.sched.deficit.set l (s.sched.deficit[l] - s.frameLength id) } }
  if more = [] then
    ({ moved with sched := { moved.sched with
        active := rest, deficit := moved.sched.deficit.set l 0 } }).beginTurn
  else moved

/-- A scheduler decision (R70): none is taken while the active list is empty or the launch list is full. -/
def State.decide (s : State) : State :=
  if s.sched.launch.length < Config.launchCapacity then
    match s.sched.active with
    | [] => s
    | l :: rest =>
      match s.sched.ingress[l] with
      | [] => s
      | id :: more => if s.frameLength id ≤ s.sched.deficit[l] then s.grant l rest id more else s.endTurn
  else s

/-! ### Flow entries (R43 to R48) -/

/-- The span of an entry (R43). -/
def FlowEntry.span (e : FlowEntry) : Nat := 2 ^ e.spanExp

/-- A tag lies in the range of an entry's span from a base (R43). -/
def inRange (base span tag : Nat) : Bool := base ≤ tag && tag < base + span

/-- An owner takes frames of line l upstream: the line itself, or SHARED (R45). -/
def Owner.takes (o : Owner) (l : LineNo) : Bool :=
  match o with
  | .line k => k == l
  | .shared => true

/-- The upstream test of R45. -/
def FlowEntry.matchesUp (e : FlowEntry) (l : LineNo) (tag : Nat) : Bool :=
  e.up && e.owner.takes l && inRange e.lineBase e.span tag

/-- The downstream test of R46. -/
def FlowEntry.matchesDown (e : FlowEntry) (tag : Nat) : Bool := e.down && inRange e.uplinkBase e.span tag

/-- The translated uplink tag (R45). -/
def FlowEntry.toUplink (e : FlowEntry) (tag : Nat) : Nat := e.uplinkBase + (tag - e.lineBase)

/-- The translated line tag (R46). -/
def FlowEntry.toLine (e : FlowEntry) (tag : Nat) : Nat := e.lineBase + (tag - e.uplinkBase)

/-- The upstream search: the index and entry that match (R45). -/
def State.findUp (s : State) (l : LineNo) (tag : Nat) : Option (FlowIdx × FlowEntry) :=
  allFlows.findSome? fun k => match s.flows[k] with
    | some e => if e.matchesUp l tag then some (k, e) else none
    | none => none

/-- The downstream search (R46). -/
def State.findDown (s : State) (tag : Nat) : Option (FlowIdx × FlowEntry) :=
  allFlows.findSome? fun k => match s.flows[k] with
    | some e => if e.matchesDown tag then some (k, e) else none
    | none => none

/-- The content of an index set (R50 to R53). -/
def State.setFlow (k : FlowIdx) (e : Option FlowEntry) (s : State) : State := { s with flows := s.flows.set k e }

/-- Match count up of entry k gains 1 (R47). -/
def State.countMatchUp (k : FlowIdx) (s : State) : State :=
  s.setFlow k (s.flows[k].map fun (e : FlowEntry) => { e with matchUp := e.matchUp + 1 })

/-- Match count down of entry k gains 1 (R47). -/
def State.countMatchDown (k : FlowIdx) (s : State) : State :=
  s.setFlow k (s.flows[k].map fun (e : FlowEntry) => { e with matchDown := e.matchDown + 1 })

/-- Two ranges of these bases and spans intersect (R43). -/
def rangesMeet (b1 n1 b2 n2 : Nat) : Bool := b1 < b2 + n2 && b2 < b1 + n1

/-- Two owners collide upstream: the same line, or either SHARED (R48). -/
def Owner.collides (a b : Owner) : Bool :=
  match a, b with
  | .line k, .line l => k == l
  | .shared, _ => true
  | _, .shared => true

/-- Two entries overlap upstream (R48). -/
def FlowEntry.overlapsUp (a b : FlowEntry) : Bool :=
  a.up && b.up && a.owner.collides b.owner && rangesMeet a.lineBase a.span b.lineBase b.span

/-- Two entries overlap downstream (R48). -/
def FlowEntry.overlapsDown (a b : FlowEntry) : Bool :=
  a.down && b.down && rangesMeet a.uplinkBase a.span b.uplinkBase b.span

/-- Two entries overlap (R48). -/
def FlowEntry.overlaps (a b : FlowEntry) : Bool := a.overlapsUp b || a.overlapsDown b

/-- An entry overlaps a valid entry of the table at an index the test looks at (R48). -/
def overlapsAny (flows : Vector (Option FlowEntry) 64) (look : FlowIdx → Bool) (e : FlowEntry) : Bool :=
  allFlows.any fun k => look k && match flows[k] with
    | some f => e.overlaps f
    | none => false

/-! ### Miss hold (R58 to R64) -/

/-- The line and tag of a held frame (R38, R58). -/
def State.heldKey (s : State) (h : Held) : Option (LineNo × Nat) :=
  match s.pool.find h.frame with
  | some f => match f.origin with
    | .line l => some (l, f.tag)
    | .uplink => none
  | none => none

/-- The held frame of a line and tag, if there is one (R58: at most one). -/
def State.findHeld (s : State) (l : LineNo) (tag : Nat) : Option Held :=
  s.hold.find? fun h => s.heldKey h == some (l, tag)

/-- A held frame leaves the list; the others keep their order (R58). -/
def State.unhold (h : Held) (s : State) : State := { s with hold := s.hold.filter fun k => k.frame != h.frame }

/-- The decision on an unmatched upstream frame: duplicate, room, full (R59, R60). -/
def State.missDecide (l : LineNo) (tag len : Nat) (s : State) : State :=
  if (s.findHeld l tag).isSome then s.dropUp l .missDup
  else if s.hold.length < Config.holdCapacity then
    ({ s with
        hold := s.hold ++ [Held.mk s.pool.nextId (s.now + ms s.params.holdTime)]
        pool := s.pool.create (.line l) tag len 1 }).notify (.miss l tag)
  else s.dropUp l .holdFull

/-- One held frame reached by the release pass of a new entry: released into its ingress queue, or dropped with
HOLD_RELEASE_FULL; the two counts are those of the reply (R62, R50). -/
def State.releaseOne (k : FlowIdx) (e : FlowEntry) (h : Held) (acc : State × Nat × Nat) : State × Nat × Nat :=
  let (s, placed, dropped) := acc
  match s.heldKey h with
  | none => acc
  | some (l, tag) =>
    if e.matchesUp l tag then
      let s := (s.countMatchUp k).unhold h
      if s.sched.ingress[l].length < (s.line l).profile.limit then
        (({ s with pool := s.pool.retag h.frame (e.toUplink tag) }).joinIngress l h.frame, placed + 1, dropped)
      else
        ((s.giveUp h.frame).dropUp l .holdReleaseFull, placed, dropped + 1)
    else acc

/-- The release pass of an install at index k, oldest held frame first (R62). -/
def State.releasePass (k : FlowIdx) (e : FlowEntry) (s : State) : State × Nat × Nat :=
  s.hold.foldl (fun acc h => State.releaseOne k e h acc) (s, 0, 0)

/-- The expiry of the held frame of a line and tag, when its time has been reached (R61, log 3). -/
def State.expireHeld (l : LineNo) (tag : Nat) (s : State) : State :=
  match s.findHeld l tag with
  | none => s
  | some h =>
    if h.expiry ≤ s.now then ((s.unhold h).giveUp h.frame).dropUp l .holdExpired else s

/-! ### Arrivals (R29, R32, R83, R84) -/

/-- An upstream arrival on line l (R29): line state, cells, match, placement or miss hold. -/
def State.arriveUp (l : LineNo) (tag len : Nat) (s : State) : State :=
  if (s.line l).state ≠ .inService then s.dropUp l .notInService
  else if s.pool.free < cellsFor len then s.dropUp l .pool
  else
    match s.findUp l tag with
    | some (k, e) =>
      let s := s.countMatchUp k
      if s.sched.ingress[l].length < (s.line l).profile.limit then
        ({ s with pool := s.pool.create (.line l) (e.toUplink tag) len 1 }).joinIngress l s.pool.nextId
      else s.dropUp l .ingressFull
    | none => s.missDecide l tag len

/-- The lines that a matched downstream frame is for, in ascending order (R46). -/
def FlowEntry.targets (e : FlowEntry) : List LineNo :=
  match e.owner with
  | .line l => [l]
  | .shared => LineSet.lines e.members

/-- A line is eligible: IN_SERVICE with room in its egress queue (R83). -/
def State.eligible (s : State) (l : LineNo) : Bool :=
  (s.line l).state == .inService && s.egress[l].length < Config.egressCapacity

/-- The reason against a target line that is not eligible (R32, R83). -/
def State.ineligibleReason (s : State) (l : LineNo) : DropReason :=
  if (s.line l).state = .inService then .egressFull else .notInService

/-- A frame joins the tail of a line's egress queue (R33). -/
def State.joinEgress (id : Nat) (s : State) (l : LineNo) : State :=
  { s with egress := s.egress.set l (s.egress[l] ++ [id]) }

/-- A downstream arrival (R32): match, target lines, cells, placement. -/
def State.arriveDown (tag len : Nat) (s : State) : State :=
  match s.findDown tag with
  | none => { s with pool := { s.pool with uplinkDrops := s.pool.uplinkDrops + 1 } }
  | some (k, e) =>
    let s := s.countMatchDown k
    let eligible := e.targets.filter s.eligible
    let failed := e.targets.filter fun l => !s.eligible l
    let s := failed.foldl (fun s l => s.dropDown l (s.ineligibleReason l)) s
    if eligible = [] then s
    else if s.pool.free < cellsFor len then eligible.foldl (fun s l => s.dropDown l .pool) s
    else
      eligible.foldl (State.joinEgress s.pool.nextId)
        { s with pool := s.pool.create .uplink (e.toLine tag) len eligible.length }

/-! ### Takes and the uplink port (R34, R37, R77) -/

/-- A transceiver takes the head of its line's egress queue (R34). -/
def State.takeDown (l : LineNo) (s : State) : State :=
  if (s.line l).state = .inService then
    match s.egress[l] with
    | [] => s
    | id :: rest => (({ s with egress := s.egress.set l rest }).countDown l (s.frameLength id)).giveUp id
  else s

/-- The line of arrival of a frame, for its counters (R37). -/
def State.countFrameUp (id : Nat) (s : State) : State :=
  match s.pool.find id with
  | some f => match f.origin with
    | .line l => s.countUp l f.length
    | .uplink => s
  | none => s

/-- While the uplink is UP, the uplink port takes the head of the launch list (R37). -/
def State.takeUp (s : State) : State :=
  if s.uplink.status.isSome then
    match s.sched.launch with
    | [] => s
    | id :: rest => (({ s with sched := { s.sched with launch := rest } }).countFrameUp id).giveUp id
  else s

/-- A status report of the uplink equipment (R77, R78), which also answers the asking of the start (R82, log 31). -/
def State.uplinkReport (r : Option RateClass) (s : State) : State :=
  let heard := { s with uplink := { status := r, asked := false } }
  if s.uplink.status = r then heard else heard.notify (.uplink r s.energy.cap)

end Sys2Proof.Machine
end

