-- ==== Sys2Proof/Machine/Settings.lean ====
section
/-! DEFINITION. Codes and ranges of settings (R2, R190, R196), the settings image as words (R189; its word layout is
the model's, log 7), flow content checks (R49), and the start (R192, with the start rule of every block). -/

namespace Sys2Proof.Machine

/-! ### Codes (R196) -/

/-- The functions in code order (R196). -/
def fnCodes : List PointFn :=
  [.unassigned, .door, .surge, .mains, .battLow, .battCrit, .spareIn, .testPower, .capA, .capB, .lamp, .fan]

/-- The code of a function. -/
def PointFn.code : PointFn → Nat
  | .unassigned => 0
  | .door => 1
  | .surge => 2
  | .mains => 3
  | .battLow => 4
  | .battCrit => 5
  | .spareIn => 6
  | .testPower => 7
  | .capA => 8
  | .capB => 9
  | .lamp => 10
  | .fan => 11

/-- The function of a code, none when the code is not listed. -/
def fnOfCode (n : Nat) : Option PointFn := fnCodes[n]?

/-- The polarity of a code (R196). R189 does not judge the polarity word of an image and R169 gives none for a code
that is not listed: the model's choice is ACTIVE_LOW for every code but 0 (DESIGN CHOICE, log 32). -/
def polarityOfCode (n : Nat) : Polarity := if n = 0 then .activeHigh else .activeLow

/-- The code of a polarity. -/
def Polarity.code : Polarity → Nat
  | .activeHigh => 0
  | .activeLow => 1

/-- The park termination of a code. -/
def parkOfCode (n : Nat) : Park := if n = 0 then .open else .signature

/-- The code of a park termination. -/
def Park.code : Park → Nat
  | .open => 0
  | .signature => 1

/-- The exit mode of a code. -/
def exitModeOfCode (n : Nat) : ExitMode := if n = 0 then .cut else if n = 1 then .ramp else .dwell

/-- The code of an exit mode. -/
def ExitMode.code : ExitMode → Nat
  | .cut => 0
  | .ramp => 1
  | .dwell => 2

/-! ### Parameters (R190, R198) -/

/-- An id names a parameter and the value lies in its range, in the encoding of R198. -/
def paramOk (id value : Nat) : Bool :=
  match id with
  | 1 => 1 ≤ value && value ≤ 30
  | 2 => value == 96 || value == 192 || value == 384 || value == 1152
  | 3 => 5 ≤ value && value ≤ 255
  | 4 => 50 ≤ value && value ≤ 5000 && value % 50 == 0
  | 5 => 10 ≤ value && value ≤ 250
  | 6 => 1 ≤ value && value ≤ 7
  | 7 => 10 ≤ value && value ≤ 120
  | 8 => value ≤ 2
  | 9 => 1 ≤ value && value ≤ 60
  | 10 => 1 ≤ value && value ≤ 4
  | _ => false

/-- The parameter of an id set to an encoded value (R190, R198). -/
def Params.put (p : Params) (id value : Nat) : Params :=
  match id with
  | 1 => { p with drop := value }
  | 2 => { p with rate := value * 100 }
  | 3 => { p with charTimeout := value }
  | 4 => { p with holdTime := value }
  | 5 => { p with trainTimeout := value }
  | 6 => { p with failLimit := value }
  | 7 => { p with hazardLimit := value }
  | 8 => { p with exitMode := exitModeOfCode value }
  | 9 => { p with quietTime := value }
  | 10 => { p with capCeiling := value }
  | _ => p

/-- The encoded value of the parameter of an id (R198). -/
def Params.get (p : Params) (id : Nat) : Nat :=
  match id with
  | 1 => p.drop
  | 2 => p.rate / 100
  | 3 => p.charTimeout
  | 4 => p.holdTime
  | 5 => p.trainTimeout
  | 6 => p.failLimit
  | 7 => p.hazardLimit
  | 8 => p.exitMode.code
  | 9 => p.quietTime
  | 10 => p.capCeiling
  | _ => 0

/-- The ids of the ten parameters (R198). -/
def paramIds : List Nat := [1, 2, 3, 4, 5, 6, 7, 8, 9, 10]

/-! ### Profiles and flow content (R2, R49, R199) -/

/-- The ranges of the profile settings other than the park termination's code (R2). -/
def profileOk (weight keep cost limit : Nat) : Bool :=
  1 ≤ weight && weight ≤ 12 && keep ≤ 3 && 1 ≤ cost && cost ≤ 15 && 1 ≤ limit && limit ≤ 48

/-- The owner byte of flow content: 0 to 23, or 0x80 for SHARED (R196). -/
def ownerOfByte (b : Byte) : Option Owner :=
  if h : b.toNat < 24 then some (.line ⟨b.toNat, h⟩) else if b = 0x80 then some .shared else none

/-- The owner byte of an owner (R196). -/
def Owner.code : Owner → Byte
  | .line l => byte l.val
  | .shared => 0x80

/-- A base is within 0 to 4095 and a whole multiple of the span (R43, R49). -/
def baseOk (base span : Nat) : Bool := base ≤ 4095 && base % span == 0

/-- The equipment and member-set conditions of R49 on a known owner. -/
def ownerOk (equipped : LineNo → Bool) (o : Owner) (down : Bool) (members : LineSet) : Bool :=
  match o with
  | .line l => equipped l && members == 0
  | .shared =>
    if down then members != 0 && (LineSet.lines members).all equipped else members == 0

/-- The content checks of R49: the entry that the content makes, match counts 0, or none for a RANGE refusal. -/
def FlowContent.entry (equipped : LineNo → Bool) (c : FlowContent) : Option FlowEntry :=
  match ownerOfByte c.owner with
  | none => none
  | some o =>
    if c.span.toNat ≤ 6 && baseOk c.lineBase.toNat (2 ^ c.span.toNat) && baseOk c.uplinkBase.toNat (2 ^ c.span.toNat)
        && (c.up == 1 || c.down == 1) && ownerOk equipped o (c.down == 1) c.members then
      some { kept := c.kept == 1, owner := o, lineBase := c.lineBase.toNat, uplinkBase := c.uplinkBase.toNat,
             spanExp := c.span.toNat, up := c.up == 1, down := c.down == 1, members := c.members,
             matchUp := 0, matchDown := 0 }
    else none

/-- The content of an entry as it is carried (R199). -/
def FlowEntry.content (e : FlowEntry) : FlowContent :=
  { kept := flagByte e.kept, up := flagByte e.up, down := flagByte e.down, owner := e.owner.code,
    lineBase := BitVec.ofNat 16 e.lineBase, uplinkBase := BitVec.ofNat 16 e.uplinkBase, span := byte e.spanExp,
    members := e.members }

/-! ### The settings image (R189) -/

/-- The settings that an image carries (R189). -/
structure Settings where
  params : Params
  equipped : LineSet
  profiles : Vector Profile 24
  points : Vector (PointFn × Polarity) 12
  budgets : Budgets
  kept : List (Nat × FlowContent)
  deriving DecidableEq, Repr

/-- The factory defaults (R192). -/
def Settings.default : Settings :=
  { params := Params.default
    equipped := BitVec.ofNat 24 0xFFFFFF
    profiles := Vector.replicate 24 Profile.default
    points := Vector.replicate 12 (.unassigned, .activeHigh)
    budgets := Budgets.default
    kept := [] }

/-- The words of a kept entry: its index and the nine numbers of its content (log 7). -/
def keptWords (e : Nat × FlowContent) : List Half :=
  [BitVec.ofNat 16 e.1, e.2.kept.setWidth 16, e.2.up.setWidth 16, e.2.down.setWidth 16, e.2.owner.setWidth 16,
   e.2.lineBase, e.2.uplinkBase, e.2.span.setWidth 16, e.2.members.setWidth 16, (e.2.members >>> 16).setWidth 16]

/-- The words of a profile (log 7). -/
def profileWords (p : Profile) : List Half :=
  [p.weight, p.keep, p.cost, p.limit, p.park.code].map (BitVec.ofNat 16)

/-- The words of an image before its check word: parameters in id order, equipped set, profiles, point assignments,
budgets, number of kept entries, kept entries (R189; the layout is log 7's). -/
def Settings.body (st : Settings) : List Half :=
  paramIds.map (fun id => BitVec.ofNat 16 (st.params.get id))
  ++ [st.equipped.setWidth 16, (st.equipped >>> 16).setWidth 16]
  ++ st.profiles.toList.flatMap profileWords
  ++ st.points.toList.flatMap (fun a => [BitVec.ofNat 16 a.1.code, BitVec.ofNat 16 a.2.code])
  ++ [st.budgets.mains, st.budgets.battHigh, st.budgets.battLow, st.budgets.battCrit].map (BitVec.ofNat 16)
  ++ [BitVec.ofNat 16 st.kept.length]
  ++ st.kept.flatMap keptWords

/-- The check word over the other words: the ones' complement of their sum modulo 65536 (R189). -/
def checkWord (body : List Half) : Half := ~~~ body.sum

/-- An image with its check word (R189). -/
def Settings.image (st : Settings) : List Half := st.body ++ [checkWord st.body]

/-- Word i of an image as a number. -/
def wordAt (ws : List Half) (i : Nat) : Nat := (ws.getD i 0).toNat

/-- Where the profiles of an image begin (log 7). -/
def profilesAt : Nat := 12
/-- Where the point assignments begin. -/
def pointsAt : Nat := 132
/-- Where the budgets begin. -/
def budgetsAt : Nat := 156
/-- Where the number of kept entries stands. -/
def keptCountAt : Nat := 160
/-- Words of one kept entry. -/
def keptSize : Nat := 10

/-- The low byte of word i. -/
def byteAt (ws : List Half) (i : Nat) : Byte := byte (wordAt ws i)

/-- Kept entry j of an image (log 7). Of a content word only the low byte counts where the field is a byte, and of the
second member word too: the model's choice for words that no save writes (DESIGN CHOICE, log 32). -/
def keptOfWords (ws : List Half) (j : Nat) : Nat × FlowContent :=
  let b := keptCountAt + 1 + keptSize * j
  (wordAt ws b,
   { kept := byteAt ws (b + 1), up := byteAt ws (b + 2), down := byteAt ws (b + 3), owner := byteAt ws (b + 4),
     lineBase := ws.getD (b + 5) 0, uplinkBase := ws.getD (b + 6) 0, span := byteAt ws (b + 7),
     members := BitVec.ofNat 24 (wordAt ws (b + 8) + 65536 * wordAt ws (b + 9)) })

/-- The profile of line l in an image. -/
def profileOfWords (ws : List Half) (l : LineNo) : Profile :=
  let b := profilesAt + 5 * l.val
  { weight := wordAt ws b, keep := wordAt ws (b + 1), cost := wordAt ws (b + 2), limit := wordAt ws (b + 3),
    park := parkOfCode (wordAt ws (b + 4)) }

/-- The settings that the words of an image carry (R189, log 7). A save writes listed codes alone; for a good image with
other words, which only a write that did not read back leaves (log 22), the spec is silent on what they load as: a
polarity code other than 0 is read as ACTIVE_LOW, bits above L23 and above a byte field are passed over (DESIGN CHOICE,
log 32). A function code not listed is one that no group permits, so that R169 leaves NONE. -/
def Settings.ofWords (ws : List Half) : Settings :=
  { params := paramIds.foldl (fun p id => p.put id (wordAt ws (id - 1))) Params.default
    equipped := BitVec.ofNat 24 (wordAt ws 10 + 65536 * wordAt ws 11)
    profiles := Vector.ofFn (profileOfWords ws)
    points := Vector.ofFn fun p =>
      ((fnOfCode (wordAt ws (pointsAt + 2 * p.val))).getD .unassigned,
       polarityOfCode (wordAt ws (pointsAt + 2 * p.val + 1)))
    budgets := { mains := wordAt ws budgetsAt, battHigh := wordAt ws (budgetsAt + 1),
                 battLow := wordAt ws (budgetsAt + 2), battCrit := wordAt ws (budgetsAt + 3) }
    kept := (List.range (wordAt ws keptCountAt)).map (keptOfWords ws) }

/-- A budget lies in its range (R142). -/
def budgetOk (n : Nat) : Bool := 4 ≤ n && n ≤ 255

/-- Every parameter, profile setting and budget of the words lies in its range (R189). -/
def wordsInRange (ws : List Half) : Bool :=
  (paramIds.all fun id => paramOk id (wordAt ws (id - 1))) &&
  (allLines.all fun l =>
    let b := profilesAt + 5 * l.val
    profileOk (wordAt ws b) (wordAt ws (b + 1)) (wordAt ws (b + 2)) (wordAt ws (b + 3)) && wordAt ws (b + 4) ≤ 1) &&
  ([0, 1, 2, 3].all fun i => budgetOk (wordAt ws (budgetsAt + i)))

/-- The image is good: the write mark clear, the length that of the layout, the check word right, every range kept
(R189). -/
def Store.good (st : Store) : Bool :=
  !st.mark && st.words.length == keptCountAt + 2 + keptSize * wordAt st.words keptCountAt &&
  st.words.getLast? == some (checkWord st.words.dropLast) && wordsInRange st.words

/-- The live settings, as SAVE SETTINGS takes its snapshot (R191). -/
def State.liveSettings (s : State) : Settings :=
  { params := s.params
    equipped := BitVec.ofNat 24 ((allLines.map fun l => if s.equipped l then 2 ^ l.val else 0).sum)
    profiles := Vector.ofFn fun l => (s.line l).profile
    points := Vector.ofFn fun p => ((s.point p).fn, (s.point p).polarity)
    budgets := s.energy.budgets
    kept := allFlows.filterMap fun k =>
      match s.flows[k] with
      | some e => if e.kept then some (k.val, e.content) else none
      | none => none }

/-! ### The start (R192 and the start rule of every block) -/

/-- The line record of line l after a start (R24). -/
def startLine (st : Settings) (l : LineNo) : LineRec :=
  { state := if LineSet.has st.equipped l then .idle else .unequipped
    profile := st.profiles[l]
    failCount := 0
    counters := Counters.zero }

/-- A kept entry is examined at a start: loaded at its index when it passes, against the entries loaded before it
(R65). -/
def loadKept (equipped : LineNo → Bool) (flows : Vector (Option FlowEntry) 64) (k : FlowIdx) (c : FlowContent) :
    Vector (Option FlowEntry) 64 :=
  match FlowContent.entry equipped c with
  | some f => if overlapsAny flows (fun _ => true) f then flows else flows.set k (some { f with kept := true })
  | none => flows

/-- The content that an image keeps for an index. R65 examines the kept entries in ascending index and says nothing of
an index above 63 or of one index twice: the model's choice is to pass over the former and to examine the first of the
latter alone (DESIGN CHOICE, log 32). -/
def Settings.keptAt (st : Settings) (k : FlowIdx) : Option FlowContent :=
  (st.kept.find? fun e => e.1 == k.val).map Prod.snd

/-- The flow table after a start: the kept entries examined in ascending index (R65). -/
def startFlows (st : Settings) : Vector (Option FlowEntry) 64 :=
  allFlows.foldl (fun flows k =>
    match st.keptAt k with
    | some c => loadKept (LineSet.has st.equipped) flows k c
    | none => flows) (Vector.replicate 64 none)

/-- The functions that the points take at a start, in ascending order: one that the group does not permit or that an
earlier point has taken leaves NONE (R169). -/
def startFns (st : Settings) : List PointFn :=
  allPoints.foldl (fun taken p =>
    let f := st.points[p].1
    taken ++ [if (pointGroup p).permits f && (f == .unassigned || !taken.contains f) then f else .unassigned]) []

/-- Point p's record after a start (R169): a reading point's debounce or clear window begins with the start, and a
SURGE point whose input stands at the active level is active at once. The electrical level stands as it is. -/
def startPoint (st : Settings) (now : Nat) (old : Point) (p : PointNo) : Point :=
  let fn := (startFns st).getD p.val .unassigned
  let pol := st.points[p].2
  let atOnce := fn == .surge && old.input == pol.active
  { fn, polarity := pol, input := old.input
    debounced := if atOnce then some pol.active else none
    window := if drivesWith p fn || atOnce then none else some (now + Config.debounceTime)
    driven := false }

/-- The POINT notice of a SURGE point found at its active level by the start (R169). -/
def State.startSurgeNotice (s : State) : State :=
  match s.holder .surge with
  | some p => if (s.point p).active then s.notify (.point p .surge true) else s
  | none => s

/-- The state after a start with given settings, before the energy manager fits its cap class: the start rules of
chapters 1 to 11 (R24, R41, R65, R66, R76, R82, R100, R128, R141, R158, R169, R188, R194). -/
def State.startWith (st : Settings) (status : SettingsStatus) (cause : StartCause) (s : State) : State :=
  let recs := Vector.ofFn fun p => startPoint st s.now s.points.recs[p] p
  { s with
    lines := Vector.ofFn (startLine st)
    pool := Pool.empty
    egress := Vector.replicate 24 []
    flows := startFlows st
    hold := []
    sched := Sched.empty
    uplink := { status := none, asked := true }
    gen := Generator.atRest
    engine := Engine.empty
    energy := { supply := .unknown, source := .start, budgets := st.budgets, cap := st.params.capCeiling, shed := [] }
    points := { recs := recs, surge := if (startFns st).contains .surge then .asserted else .calm, testPower := false }
    ports := { main := PortRec.fresh, craft := PortRec.fresh, dropInForce := st.params.drop,
               rateInForce := st.params.rate }
    notices := { queue := [.start cause status], lost := 0 }
    params := st.params
    status := status
    cause := cause }

/-- A settings write under way is stopped: the store holds a mix of old and new words, which is open, with the write
mark still set (R191, log 8). -/
def State.stopWrite (s : State) : State :=
  match s.ports.main.job with
  | some (.save _ _) =>
    { s with store := { words := Config.mixedImage s.freeCount, mark := true }, freeCount := s.freeCount + 1 }
  | _ => s

/-- A start (R192): the image is judged and loaded, or the defaults when it is bad; every block takes its start state;
the shedding pass lowers the cap class until it fits (R158). -/
def State.start (cause : StartCause) (s : State) : State :=
  let s := s.stopWrite
  let begun :=
    if s.store.good then s.startWith (Settings.ofWords s.store.words) .good cause
    else s.startWith Settings.default .defaulted cause
  begun.sheddingPass.startSurgeNotice

/-- The part stops: a settings write under way ends, and replies under way are cut short (R191, R193). -/
def State.halt (s : State) : State :=
  let s := s.stopWrite
  { s with ports := { s.ports with
      main := { s.ports.main with job := none }, craft := { s.ports.craft with job := none } } }

end Sys2Proof.Machine
end

