-- ==== Sys2Proof/Machine/Replies.lean ====
section
/-! DEFINITION. Statuses, replies and the layouts of everything a reply carries (R177, R196 to R198, R200). -/

namespace Sys2Proof.Machine

/-- The status codes of a reply (chapter 10.4, R197); `stopped` is PARTIAL. -/
inductive Status where
  | ok
  | denied
  | unknown
  | length
  | range
  | state
  | full
  | overlap
  | notFound
  | budget
  | stopped
  | storeFail
  deriving DecidableEq, Repr

/-- The code of a status (R197). -/
def Status.code : Status → Byte
  | .ok => 0x00
  | .denied => 0x01
  | .unknown => 0x02
  | .length => 0x03
  | .range => 0x04
  | .state => 0x05
  | .full => 0x06
  | .overlap => 0x07
  | .notFound => 0x08
  | .budget => 0x09
  | .stopped => 0x0A
  | .storeFail => 0x0B

/-- What execution makes of a request: a status and a payload (R177). -/
structure Reply where
  status : Status
  payload : List Byte
  deriving DecidableEq, Repr

/-- A reply of status OK. -/
def Reply.ok (payload : List Byte) : Reply := { status := .ok, payload }

/-- A reply of another status with an empty payload (R177). -/
def Reply.bad (st : Status) : Reply := { status := st, payload := [] }

/-- The byte that brings the sum of a body to 0 modulo 256 (R177, R195). -/
def checkByte (body : List Byte) : Byte := -body.sum

/-- The body of a reply: LEN, KIND, TAG, STATUS, payload, CHECK (R177, R195). -/
def Reply.body (kind tag : Byte) (r : Reply) : List Byte :=
  let head := byte (4 + r.payload.length) :: kind :: tag :: r.status.code :: r.payload
  head ++ [checkByte head]

/-! ### Codes (R196) -/

/-- A byte field that may be absent (R196). -/
def optByte : Option Byte → Byte
  | some b => b
  | none => absent

/-- A line as one byte (R196). -/
def lineByte (l : LineNo) : Byte := byte l.val

/-- The code of a line state. -/
def LineKind.code : LineKind → Byte
  | .unequipped => 0
  | .idle => 1
  | .training => 2
  | .inService => 3
  | .withdrawn => 4
  | .shed => 5
  | .quarantined => 6

/-- The code of a LINE notice cause. -/
def LineCause.code : LineCause → Byte
  | .request => 0
  | .sync => 1
  | .timeout => 2
  | .test => 3
  | .energy => 4
  | .restore => 5

/-- The code of a quarantine cause. -/
def QCause.code : QCause → Byte
  | .test => 0
  | .training => 1

/-- The code of a test connection. -/
def Conn.code : Conn → Byte
  | .offBus => 0
  | .onBus => 1

/-- The code of a return target, and its quarantine cause. -/
def Target.codes : Target → Byte × Option Byte
  | .idle => (1, none)
  | .training => (2, none)
  | .quarantined c => (6, some c.code)

/-- The code of an origin. -/
def originByte : PortId → Byte
  | .main => 0
  | .craft => 1

/-- The code of an outcome. -/
def TestOutcome.code : TestOutcome → Byte
  | .pass => 0
  | .fail => 1
  | .hazard => 2
  | .aborted => 3
  | .refused => 4

/-- The code of a result, exit or second cause. -/
def Cause.code : Cause → Byte
  | .inService => 0
  | .hazard => 1
  | .surge => 2
  | .cancel => 3
  | .halt => 4
  | .door => 5
  | .energy => 6

/-- The code of a step kind. -/
def StepKind.code : StepKind → Byte
  | .loop => 0
  | .leak => 1
  | .cap => 2
  | .term => 3

/-- The code of a verdict. -/
def Verdict.code : Verdict → Byte
  | .pass => 0
  | .fail => 1
  | .none => 2

/-- The code of a phase, and its step number in STEP. -/
def Phase.codes : Phase → Byte × Option Byte
  | .warmup _ => (0, none)
  | .firstSettle _ => (1, none)
  | .secondSettle _ => (1, none)
  | .foreign _ => (2, none)
  | .step k _ => (3, some (byte k))
  | .releaseRamp => (4, none)
  | .releaseSettle _ => (4, none)
  | .exit _ => (5, none)

/-- The code of a generator program. -/
def Program.code : Program → Byte
  | .rest => 0
  | .level _ => 1
  | .triangle _ _ => 2
  | .sine _ _ => 3

/-- The code of a motion. -/
def Motion.code : Motion → Byte
  | .ramping => 0
  | .settled => 1

/-- The code of a supply state. -/
def Supply.code : Supply → Byte
  | .unknown => 0
  | .mains => 1
  | .battHigh => 2
  | .battLow => 3
  | .battCrit => 4

/-- The code of a supply source or SUPPLY reason. -/
def SupplySource.code : SupplySource → Byte
  | .start => 0
  | .inputs => 1
  | .request => 2
  | .budget => 3

/-- The number of a rate class. -/
def RateClass.byte : RateClass → Byte
  | .one => 1
  | .two => 2
  | .three => 3
  | .four => 4

/-- The actual class of an uplink status, absent when DOWN. -/
def classByte (u : Option RateClass) : Byte := optByte (u.map RateClass.byte)

/-- The code of a start cause. -/
def StartCause.code : StartCause → Byte
  | .power => 0
  | .pin => 1
  | .request => 2

/-- The code of a settings status. -/
def SettingsStatus.code : SettingsStatus → Byte
  | .good => 0
  | .defaulted => 1

/-- The code of a point group. -/
def PointGroup.code : PointGroup → Byte
  | .fastInput => 0
  | .input => 1
  | .general => 2
  | .output => 3

/-- The code of a level. -/
def Level.code : Level → Byte
  | .low => 0
  | .high => 1

/-- The code of a surge state. -/
def Surge.code : Surge → Byte
  | .calm => 0
  | .asserted => 1
  | .quiet _ => 2

/-- The code of a receive state. -/
def Recv.code : Recv → Byte
  | .hunt => 0
  | .take _ => 1
  | .skip => 2

/-- A set of lines as three bytes (R196). -/
def LineSet.bytes (m : LineSet) : List Byte := [m.extractLsb' 0 8, m.extractLsb' 8 8, m.extractLsb' 16 8]

/-- A 32-bit counter as four bytes (R195). -/
def countBytes (c : Count32) : List Byte := le4 c.toNat

/-- Time left to an expiry in units of `unit` microseconds, rounded up; 0 once it is past due (log 27). -/
def unitsLeft (unit expiry now : Nat) : Nat := (expiry - now + (unit - 1)) / unit

/-! ### Reports -/

/-- IDENT (R194, R197). -/
def State.identBytes (s : State) : List Byte :=
  Config.partCode ++ [Config.revision, byte s.ports.dropInForce, s.status.code, s.cause.code]

/-- The fault counts in the order of R200. -/
def FaultCounts.bytes (c : FaultCounts) : List Byte :=
  [c.char, c.check, c.length, c.timeout, c.brk, c.overlap, c.group].flatMap le2

/-- The 16 bytes of a port in STATUS (R200). -/
def PortRec.bytes (p : PortRec) : List Byte := p.recv.code :: flagByte p.job.isSome :: p.faults.bytes

/-- The current line's deficit, 0 when there is none (R200). -/
def Sched.currentDeficit (c : Sched) : Nat :=
  match c.active with
  | l :: _ => c.deficit[l]
  | [] => 0

/-- The active list padded to 24 bytes (R200). -/
def Sched.activeBytes (c : Sched) : List Byte :=
  c.active.map lineByte ++ List.replicate (24 - c.active.length) absent

/-- The STATUS record, 74 bytes (R183, R200). -/
def State.statusBytes (s : State) : List Byte :=
  le2 s.pool.free ++ le2 s.pool.frames.length ++ [byte s.sched.launch.length, byte s.hold.length]
  ++ countBytes s.pool.uplinkDrops
  ++ byte s.sched.active.length :: s.sched.activeBytes
  ++ le2 s.sched.currentDeficit ++ [flagByte s.stalled]
  ++ [flagByte s.uplink.status.isSome, classByte s.uplink.status]
  ++ [byte s.notices.queue.length, byte s.notices.lost]
  ++ s.ports.main.bytes ++ s.ports.craft.bytes

/-- The counters of a line in the order of R200. -/
def Counters.bytes (c : Counters) : List Byte :=
  [c.framesUp, c.framesDown, c.bytesUp, c.bytesDown, c.dropsUp, c.dropsDown, c.pool, c.ingressFull, c.egressFull,
   c.notInService, c.missDup, c.holdFull, c.holdExpired, c.holdReleaseFull].flatMap countBytes

/-- Return target, its quarantine cause and test connection, each absent outside WITHDRAWN (R200). -/
def LineState.targetBytes : LineState → List Byte
  | .withdrawn t c => [t.codes.1, optByte t.codes.2, c.code]
  | _ => [absent, absent, absent]

/-- Seconds to the training deadline, absent outside TRAINING (R22, R200). -/
def LineState.deadlineByte (now : Nat) : LineState → Byte
  | .training d => byte (unitsLeft 1000000 d now)
  | _ => absent

/-- The quarantine cause, absent outside QUARANTINED (R200). -/
def LineState.causeByte : LineState → Byte
  | .quarantined c => c.code
  | _ => absent

/-- The position of a line on the shed list from the top, absent when it is not SHED (R22, R200). -/
def State.shedByte (s : State) (l : LineNo) : Byte :=
  if (s.line l).state = .shed then byte (s.energy.shed.idxOf l) else absent

/-- The line query record, 76 bytes (R22, R200). -/
def State.lineBytes (s : State) (l : LineNo) : List Byte :=
  let r := s.line l
  [lineByte l, flagByte (s.equipped l), r.state.kind.code] ++ r.state.targetBytes
  ++ [byte r.profile.weight, byte r.profile.keep, byte r.profile.cost, byte r.profile.limit, byte r.profile.park.code]
  ++ [byte r.failCount, r.state.deadlineByte s.now, r.state.causeByte]
  ++ [byte s.sched.ingress[l].length, byte s.egress[l].length]
  ++ le2 s.sched.deficit[l] ++ [flagByte (s.sched.active.contains l), s.shedByte l]
  ++ r.counters.bytes

/-- The 12 bytes of flow entry content (R199). -/
def FlowEntry.contentBytes (e : FlowEntry) : List Byte :=
  [flagByte e.kept, flagByte e.up, flagByte e.down, e.owner.code] ++ le2 e.lineBase ++ le2 e.uplinkBase
  ++ [byte e.spanExp] ++ LineSet.bytes e.members

/-- The FLOW READ record, 22 bytes (R55, R199). -/
def State.flowBytes (s : State) (k : FlowIdx) : List Byte :=
  match s.flows[k] with
  | some e => byte k.val :: 1 :: e.contentBytes ++ countBytes e.matchUp ++ countBytes e.matchDown
  | none => byte k.val :: 0 :: List.replicate 20 absent

/-- One queued order in TEST LIST (R106). -/
def TestOrder.listBytes (o : TestOrder) : List Byte := [byte o.id, originByte o.origin, lineByte o.line]

/-- The current order block of TEST LIST, 11 bytes (R106, R200). -/
def State.currentBytes (s : State) : List Byte :=
  match s.engine.current with
  | some c =>
    [1, byte c.order.id, originByte c.order.origin, lineByte c.order.line, c.phase.codes.1, optByte c.phase.codes.2]
    ++ le2 s.gen.code ++ [flagByte s.gen.drive, s.gen.program.code, s.gen.motion.code]
  | none => 0 :: List.replicate 5 absent ++ le2 Config.restCode ++ [0, absent, absent]

/-- The TEST LIST payload (R106, R197). -/
def State.testListBytes (s : State) : List Byte :=
  byte s.engine.queue.length :: s.engine.queue.flatMap TestOrder.listBytes ++ s.currentBytes

/-- A presence byte and a two-byte value (R196). -/
def presentHalf : Option Nat → List Byte
  | some v => 1 :: le2 v
  | none => [0, absent, absent]

/-- One step result (R200). -/
def StepResult.bytes (r : StepResult) : List Byte := r.kind.code :: le2 r.value ++ [r.verdict.code]

/-- The exit record of a result (R200). -/
def exitBytes : Option ExitReport → List Byte
  | some x => [1, x.cause.code, optByte (x.second.map Cause.code), byte x.mode.code]
  | none => [0, absent, absent, absent]

/-- The return state of a result, and its quarantine cause (R200). -/
def returnBytes : Option ReturnState → List Byte
  | some .idle => [1, absent]
  | some .training => [2, absent]
  | some .shed => [5, absent]
  | some (.quarantined c) => [6, c.code]
  | none => [absent, absent]

/-- The result record, 37 bytes (R124, R200). -/
def Result.bytes (r : Result) : List Byte :=
  [byte r.id, originByte r.origin, lineByte r.line, r.outcome.code, optByte (r.cause.map Cause.code)]
  ++ presentHalf r.foreignValue
  ++ byte r.steps.length :: r.steps.flatMap StepResult.bytes
  ++ List.replicate (20 - 4 * r.steps.length) absent
  ++ exitBytes r.exit ++ returnBytes r.returned ++ [flagByte r.readMain, flagByte r.readCraft]

/-- The ENERGY QUERY record, 18 bytes and the shed list (R157, R200). -/
def State.energyBytes (s : State) : List Byte :=
  [s.energy.supply.code, s.energy.source.code, byte s.budget,
   byte s.energy.budgets.mains, byte s.energy.budgets.battHigh, byte s.energy.budgets.battLow,
   byte s.energy.budgets.battCrit]
  ++ le2 s.committed ++ le2 s.linePart ++ [byte s.enginePart, byte s.capPart]
  ++ [byte s.energy.cap, byte s.params.capCeiling, classByte s.uplink.status, flagByte s.energyHeld]
  ++ byte s.energy.shed.length :: s.energy.shed.map lineByte

/-- A point record, 7 bytes (R200). -/
def State.pointBytes (s : State) (p : PointNo) : List Byte :=
  let r := s.point p
  [byte p.val, (pointGroup p).code, byte r.fn.code, byte r.polarity.code, optByte (r.debounced.map Level.code),
   optByte ((s.driven p).map flagByte), flagByte (s.reads p && r.window.isSome)]

/-- The surge quiet time left in milliseconds, 0 outside QUIET (R167, R200). -/
def State.quietLeft (s : State) : Nat :=
  match s.points.surge with
  | .quiet e => unitsLeft 1000 e s.now
  | _ => 0

/-- The POINT READ payload, 89 bytes (R167, R197). -/
def State.pointReadBytes (s : State) : List Byte :=
  allPoints.flatMap s.pointBytes ++ s.points.surge.code :: le2 s.quietLeft
  ++ [flagByte s.doorOpen, flagByte s.points.testPower]

/-- A notice, 6 bytes (R198). -/
def Notice.bytes : Notice → List Byte
  | .start c st => [1, c.code, st.code, absent, absent, absent]
  | .line l st c => [2, lineByte l, st.code, c.code, absent, absent]
  | .miss l tag => [3, lineByte l, absent] ++ le2 tag ++ [absent]
  | .test id o r => [4, byte id, originByte o, r.code, absent, absent]
  | .supply st b r => [5, st.code, byte b, r.code, absent, absent]
  | .uplink c cap => [6, flagByte c.isSome, classByte c, byte cap, absent, absent]
  | .point p f a => [7, byte p.val, byte f.code, flagByte a, absent, absent]

/-- The entries of a BATCH reply: status OK and the result value of each sub-request that succeeded (R185, R197). -/
def batchEntries (done : List Byte) : List Byte := byte done.length :: done.flatMap fun v => [Status.ok.code, v]

/-- The reply of a BATCH all of whose sub-requests succeeded (R185). -/
def batchOk (done : List Byte) : Reply := Reply.ok (batchEntries done)

/-- The reply of a BATCH that stopped: the entries, the failing index and its status (R185). -/
def batchPartial (done : List Byte) (st : Status) : Reply :=
  { status := .stopped, payload := batchEntries done ++ [byte done.length, st.code] }

end Sys2Proof.Machine
end

