-- ==== Sys2Proof/Machine/Lines.lean ====
section
/-! DEFINITION. The line supervisor's requests and indications (R6 to R9, R14, R16 to R22). -/

namespace Sys2Proof.Machine

/-- A change that moved committed consumption has run its pass; the engine is told once (R108, R148). -/
def State.settleChange (before : Nat) (s : State) : State :=
  if s.committed = before then s else (s.passFor before s.committed).attempt

/-- The return target of a WITHDRAWN line edited; its test connection stays (R14). -/
def State.editTarget (l : LineNo) (t : Target) (c : Conn) (s : State) : State := s.setLineState l (.withdrawn t c)

/-- LINE START at the line supervisor (R16, R14). -/
def State.lineStart (l : LineNo) (s : State) : Reply × State :=
  match (s.line l).state with
  | .idle =>
    if s.admits (s.costOf l) then
      (Reply.ok [], (s.moveLine l (.training s.newDeadline) .request).settleChange s.committed)
    else (Reply.bad .budget, s)
  | .training _ => (Reply.ok [], s)
  | .inService => (Reply.ok [], s)
  | .withdrawn (.quarantined _) _ => (Reply.bad .state, s)
  | .withdrawn _ c => (Reply.ok [], s.editTarget l .training c)
  | .shed => (Reply.bad .budget, s)
  | .quarantined _ => (Reply.bad .state, s)
  | .unequipped => (Reply.bad .state, s)

/-- LINE STOP at the line supervisor (R17, R14). -/
def State.lineStop (l : LineNo) (s : State) : Reply × State :=
  match (s.line l).state with
  | .training _ => (Reply.ok [], (s.moveLine l .idle .request).settleChange s.committed)
  | .inService => (Reply.ok [], (s.moveLine l .idle .request).settleChange s.committed)
  | .idle => (Reply.ok [], s)
  | .shed => (Reply.ok [], (s.setShed (s.energy.shed.filter fun k => k != l)).moveLine l .idle .request)
  | .withdrawn (.quarantined _) _ => (Reply.bad .state, s)
  | .withdrawn _ c => (Reply.ok [], s.editTarget l .idle c)
  | .quarantined _ => (Reply.bad .state, s)
  | .unequipped => (Reply.bad .state, s)

/-- LINE CLEAR at the line supervisor (R18, R14). -/
def State.lineClear (l : LineNo) (s : State) : Reply × State :=
  match (s.line l).state with
  | .quarantined _ => (Reply.ok [], (s.setFail l 0).moveLine l .idle .request)
  | .withdrawn (.quarantined _) c => (Reply.ok [], (s.setFail l 0).editTarget l .idle c)
  | _ => (Reply.bad .state, s)

/-- LINE EQUIP with the equip option (R19). -/
def State.lineEquip (l : LineNo) (s : State) : Reply × State :=
  if s.equipped l then (Reply.ok [], s) else (Reply.ok [], (s.setFail l 0).moveLine l .idle .request)

/-- A line is referenced by an owner, a member set or a queued order (R20). -/
def State.referenced (s : State) (l : LineNo) : Bool :=
  (allFlows.any fun k => match s.flows[k] with
    | some e => e.owner == .line l || LineSet.has e.members l
    | none => false) ||
  s.engine.queue.any fun o => o.line == l

/-- LINE EQUIP with the unequip option (R20). -/
def State.lineUnequip (l : LineNo) (s : State) : Reply × State :=
  match (s.line l).state with
  | .idle | .quarantined _ =>
    if s.referenced l then (Reply.bad .state, s)
    else (Reply.ok [], (s.setFail l 0).moveLine l .unequipped .request)
  | _ => (Reply.bad .state, s)

/-- LINE PROFILE at the line supervisor (R21): UNEQUIPPED before the ranges (log 20). -/
def State.lineProfile (l : LineNo) (p : Profile) (s : State) : Reply × State :=
  if !s.equipped l then (Reply.bad .state, s)
  else if !profileOk p.weight p.keep p.cost p.limit then (Reply.bad .range, s)
  else (Reply.ok [], (s.setLine l fun r => { r with profile := p }).settleChange s.committed)

/-- LINE QUERY: the record, and with the clear option the counters then set to 0 (R22). -/
def State.lineQuery (l : LineNo) (clear : Bool) (s : State) : Reply × State :=
  (Reply.ok (s.lineBytes l),
   if clear then s.setLine l fun r => { r with counters := Counters.zero } else s)

/-- Sync up (R7): TRAINING to IN_SERVICE with fail count 0; ignored in other states. -/
def State.syncUp (l : LineNo) (s : State) : State :=
  match (s.line l).state with
  | .training _ => (s.setFail l 0).moveLine l .inService .sync
  | _ => s

/-- Sync lost (R8): IN_SERVICE to TRAINING with a new deadline; ignored in other states. -/
def State.syncLost (l : LineNo) (s : State) : State :=
  match (s.line l).state with
  | .inService => s.moveLine l (.training s.newDeadline) .sync
  | _ => s

/-- The state that a deadline expiry leaves a line in, by its raised fail count (R9). -/
def afterExpiry (count limit : Nat) : LineState := if limit ≤ count then .quarantined .training else .idle

/-- The training deadline of line l expires (R9): the fail count gains 1, at most 7. -/
def State.deadlineExpires (l : LineNo) (s : State) : State :=
  match (s.line l).state with
  | .training d =>
    if d ≤ s.now then
      let count := min 7 ((s.line l).failCount + 1)
      ((s.setFail l count).moveLine l (afterExpiry count s.params.failLimit) .timeout).settleChange s.committed
    else s
  | _ => s

end Sys2Proof.Machine
end

