-- ==== Sys2Proof/Machine/Operands.lean ====
section
/-! DEFINITION. The operand forms of requests: kind codes, the layouts that a body is read by, the dispatcher's
length, group, permission and field-range checks (R178 to R181, R184, R196, R197, R199) and a step's fields (R102). -/

namespace Sys2Proof.Machine

/-! ### Kinds (R197) -/

/-- The kind code of a request (R197). -/
def reqKind : Req → Byte
  | .ident => 0x01
  | .status _ => 0x02
  | .setParameter _ _ => 0x03
  | .getParameter _ => 0x04
  | .saveSettings => 0x05
  | .restart => 0x06
  | .fetchNotices => 0x07
  | .batch _ => 0x08
  | .lineStart _ => 0x10
  | .lineStop _ => 0x11
  | .lineProfile _ _ _ _ _ _ => 0x12
  | .lineClear _ => 0x13
  | .lineQuery _ _ => 0x14
  | .lineEquip _ _ => 0x15
  | .flowPut _ _ => 0x20
  | .flowPlace _ => 0x21
  | .flowDrop _ => 0x22
  | .flowFind _ _ _ => 0x23
  | .flowRead _ => 0x24
  | .flowClear _ => 0x25
  | .testOrder _ _ _ _ _ => 0x30
  | .testCancel _ => 0x31
  | .testResult _ _ => 0x32
  | .testList => 0x33
  | .testHalt => 0x34
  | .supply _ => 0x40
  | .budgetSet _ _ => 0x41
  | .energyQuery => 0x42
  | .pointAssign _ _ _ => 0x50
  | .pointRead => 0x51
  | .pointDrive _ _ => 0x52

/-- What the first two checks of R178 make of a body: an unknown kind, a length that does not fit, or a request. -/
inductive Parsed where
  | unknown
  | badLength
  | req (r : Req)
  deriving DecidableEq, Repr

/-! ### Layouts (R195, R197, R199) -/

/-- A two-byte number from its bytes, least significant first (R195). -/
def half (lo hi : Byte) : Half := hi ++ lo

/-- A set of lines from its three bytes (R196). -/
def lineSet (b0 b1 b2 : Byte) : LineSet := b2 ++ b1 ++ b0

/-- The steps of a TEST ORDER, 15 bytes each (R199); bytes after the last whole step are dropped. -/
def readSteps : List Byte → List RawStep
  | k :: f0 :: f1 :: h0 :: h1 :: e :: p :: w0 :: w1 :: lp :: l0 :: l1 :: up :: u0 :: u1 :: rest =>
    { kind := k, first := half f0 f1, high := half h0 h1, exp := e, period := p, window := half w0 w1,
      lowerPresent := lp, lower := half l0 l1, upperPresent := up, upper := half u0 u1 } :: readSteps rest
  | _ => []

/-- `n` sub-requests that fill the bytes exactly, each with its declared length (R184). -/
def readSubs : Nat → List Byte → Option (List RawSub)
  | 0, [] => some []
  | 0, _ :: _ => none
  | n + 1, kind :: len :: rest =>
    if len.toNat ≤ rest.length then
      (readSubs n (rest.drop len.toNat)).map fun subs => RawSub.mk kind (rest.take len.toNat) :: subs
    else none
  | _ + 1, _ => none

/-- Flow entry content from its 12 bytes (R199). -/
def readContent : List Byte → Option FlowContent
  | [k, u, d, o, l0, l1, u0, u1, sp, m0, m1, m2] =>
    some { kept := k, up := u, down := d, owner := o, lineBase := half l0 l1, uplinkBase := half u0 u1, span := sp,
           members := lineSet m0 m1 m2 }
  | _ => none

/-- A request when the layout fits, the status LENGTH otherwise (R178 check 2). -/
def fits (r : Option Req) : Parsed :=
  match r with
  | some q => .req q
  | none => .badLength

/-- The kind and payload of a request read by the layouts of R197: checks 1 and 2 of R178. -/
def parse (kind : Byte) (payload : List Byte) : Parsed :=
  match kind.toNat with
  | 0x01 => fits (match payload with | [] => some .ident | _ => none)
  | 0x02 => fits (match payload with | [c] => some (.status c) | _ => none)
  | 0x03 => fits (match payload with | [i, v0, v1] => some (.setParameter i (half v0 v1)) | _ => none)
  | 0x04 => fits (match payload with | [i] => some (.getParameter i) | _ => none)
  | 0x05 => fits (match payload with | [] => some .saveSettings | _ => none)
  | 0x06 => fits (match payload with | [] => some .restart | _ => none)
  | 0x07 => fits (match payload with | [] => some .fetchNotices | _ => none)
  | 0x08 => fits (match payload with | n :: rest => (readSubs n.toNat rest).map .batch | _ => none)
  | 0x10 => fits (match payload with | [l] => some (.lineStart l) | _ => none)
  | 0x11 => fits (match payload with | [l] => some (.lineStop l) | _ => none)
  | 0x12 => fits (match payload with | [l, w, k, c, g, p] => some (.lineProfile l w k c g p) | _ => none)
  | 0x13 => fits (match payload with | [l] => some (.lineClear l) | _ => none)
  | 0x14 => fits (match payload with | [l, c] => some (.lineQuery l c) | _ => none)
  | 0x15 => fits (match payload with | [l, c] => some (.lineEquip l c) | _ => none)
  | 0x20 => fits (match payload with | i :: rest => (readContent rest).map (.flowPut i) | _ => none)
  | 0x21 => fits ((readContent payload).map .flowPlace)
  | 0x22 => fits (match payload with | [i] => some (.flowDrop i) | _ => none)
  | 0x23 => fits (match payload with | [c, l, t0, t1] => some (.flowFind c l (half t0 t1)) | _ => none)
  | 0x24 => fits (match payload with | [i] => some (.flowRead i) | _ => none)
  | 0x25 => fits (match payload with | [c] => some (.flowClear c) | _ => none)
  | 0x30 =>
    fits (match payload with
      | l :: i :: q :: c :: n :: rest =>
        if rest.length = 15 * n.toNat then some (.testOrder l i q c (readSteps rest)) else none
      | _ => none)
  | 0x31 => fits (match payload with | [i] => some (.testCancel i) | _ => none)
  | 0x32 => fits (match payload with | [c, i] => some (.testResult c i) | _ => none)
  | 0x33 => fits (match payload with | [] => some .testList | _ => none)
  | 0x34 => fits (match payload with | [] => some .testHalt | _ => none)
  | 0x40 => fits (match payload with | [st] => some (.supply st) | _ => none)
  | 0x41 => fits (match payload with | [st, b] => some (.budgetSet st b) | _ => none)
  | 0x42 => fits (match payload with | [] => some .energyQuery | _ => none)
  | 0x50 => fits (match payload with | [p, f, pol] => some (.pointAssign p f pol) | _ => none)
  | 0x51 => fits (match payload with | [] => some .pointRead | _ => none)
  | 0x52 => fits (match payload with | [p, st] => some (.pointDrive p st) | _ => none)
  | _ => .unknown

/-! ### Group, permission, batch (R178 to R181, R184) -/

/-- The kinds that a group message may carry (R178 check 3, R181). -/
def groupKind : Req → Bool
  | .supply _ => true
  | .restart => true
  | .testHalt => true
  | _ => false

/-- The kinds of the craft port's open-door row, with its two options refused (R179). -/
def craftKind : Req → Bool
  | .ident | .restart | .lineStart _ | .lineStop _ | .lineClear _ | .testOrder _ _ _ _ _ | .testCancel _
  | .testResult _ _ | .testList | .pointRead | .energyQuery | .flowFind _ _ _ | .flowRead _ | .batch _ => true
  | .status clear => clear != 1
  | .lineQuery _ clear => clear != 1
  | _ => false

/-- The permission table for a port under the door-open condition (R179). -/
def permitted (p : PortId) (door : Bool) (r : Req) : Bool :=
  match p with
  | .main => true
  | .craft => if door then craftKind r else r == .ident

/-- The kind codes allowed as sub-requests (R184). -/
def batchKinds : List Byte :=
  [0x10, 0x11, 0x12, 0x13, 0x15, 0x20, 0x21, 0x22, 0x25, 0x30, 0x31, 0x50, 0x52, 0x41, 0x40, 0x03]

/-! ### Field ranges (R178 check 5, R196) -/

/-- A flag or option is 0 or 1 (R196). -/
def flagOk (b : Byte) : Bool := b.toNat ≤ 1

/-- A line number is 0 to 23 (R178). -/
def lineOk (b : Byte) : Bool := b.toNat < 24

/-- The codes and presences of a step that every kind uses (R196); the engine checks the ranges (R103). -/
def stepCodesOk (r : RawStep) : Bool := r.kind.toNat ≤ 3 && flagOk r.lowerPresent && flagOk r.upperPresent

/-- The flags and the owner code of flow content (R196). -/
def contentCodesOk (c : FlowContent) : Bool :=
  flagOk c.kept && flagOk c.up && flagOk c.down && (ownerOfByte c.owner).isSome

/-- The dispatcher's field check (R178 check 5): numbers of lines, points and entries, tags, flags and listed codes.
Ranges that only the owning block states (profiles, parameters, bases, budgets, step fields) are judged there. -/
def fieldsOk : Req → Bool
  | .ident | .saveSettings | .restart | .fetchNotices | .testList | .testHalt | .energyQuery | .pointRead => true
  | .setParameter _ _ => true
  | .getParameter _ => true
  | .status c => flagOk c
  | .batch subs => 1 ≤ subs.length && subs.length ≤ 8
  | .lineStart l => lineOk l
  | .lineStop l => lineOk l
  | .lineClear l => lineOk l
  | .lineProfile l _ _ _ _ park => lineOk l && flagOk park
  | .lineQuery l c => lineOk l && flagOk c
  | .lineEquip l c => lineOk l && flagOk c
  | .flowPut i c => i.toNat < 64 && contentCodesOk c
  | .flowPlace c => contentCodesOk c
  | .flowDrop i => i.toNat < 64
  | .flowRead i => i.toNat < 64
  | .flowFind c l tag => flagOk c && (c == 1 || lineOk l) && tag.toNat ≤ 4095
  | .flowClear c => flagOk c
  | .testOrder l i q c steps => lineOk l && flagOk i && flagOk q && flagOk c && steps.all stepCodesOk
  | .testCancel i => i != 0
  | .testResult c i => flagOk c && (c == 1 || i != 0)
  | .supply st => st.toNat ≤ 4
  | .budgetSet st _ => st.toNat ≤ 4
  | .pointAssign p f pol => p.toNat < 12 && f.toNat ≤ 11 && flagOk pol
  | .pointDrive p st => p.toNat < 12 && flagOk st

/-! ### Values of fields -/

/-- The line a byte names. -/
def lineOfByte (b : Byte) : Option LineNo := if h : b.toNat < 24 then some ⟨b.toNat, h⟩ else none

/-- The point a byte names. -/
def pointOfByte (b : Byte) : Option PointNo := if h : b.toNat < 12 then some ⟨b.toNat, h⟩ else none

/-- The flow entry a byte names. -/
def flowOfByte (b : Byte) : Option FlowIdx := if h : b.toNat < 64 then some ⟨b.toNat, h⟩ else none

/-- The supply state of a code that SUPPLY and BUDGET SET may carry: UNKNOWN and unlisted codes are none (R145, R147). -/
def supplyOfByte (b : Byte) : Option Supply :=
  match b.toNat with
  | 1 => some .mains
  | 2 => some .battHigh
  | 3 => some .battLow
  | 4 => some .battCrit
  | _ => none

/-- A level of a step in its range (R102). -/
def levelOk (v : Int) : Bool := -2048 ≤ v && v ≤ 2047

/-- An optional limit from its presence and value (R102, R196). R196 writes the value bytes of an absent limit as 0xFFFF
and does not say what a request with presence 0 and other bytes is: the model's choice is to accept it and to ignore
them (DESIGN CHOICE, log 34). -/
def limitOf (present : Byte) (v : Half) : Option Nat := if present = 1 then some v.toNat else none

/-- The limits of a step are in order when both are present (R103). -/
def limitsOk (lo up : Option Nat) : Bool :=
  match lo, up with
  | some a, some b => a ≤ b
  | _, _ => true

/-- The stimulus of a step from the fields its kind uses, none when one is out of its range (R102, R103). -/
def RawStep.stimulus (r : RawStep) : Option Stimulus :=
  match r.kind.toNat with
  | 0 => if levelOk r.first.toInt then some (.loop r.first.toInt) else none
  | 1 => if levelOk r.first.toInt then some (.leak r.first.toInt) else none
  | 2 =>
    if levelOk r.first.toInt && levelOk r.high.toInt && r.first.toInt < r.high.toInt then
      some (.cap r.first.toInt r.high.toInt) else none
  | 3 => if 0 ≤ r.first.toInt && r.first.toInt ≤ 2047 then some (.term r.first.toNat) else none
  | _ => none

/-- The ranges of the fields that every step uses (R102). -/
def RawStep.commonOk (r : RawStep) : Bool :=
  r.exp.toNat ≤ 7 && 1 ≤ r.period.toNat && 10 ≤ r.window.toNat && r.window.toNat ≤ 2000 &&
  limitsOk (limitOf r.lowerPresent r.lower) (limitOf r.upperPresent r.upper)

/-- The host step that a step of a TEST ORDER makes, none for a RANGE refusal (R102, R103 check 4). -/
def RawStep.host (r : RawStep) : Option HostStep :=
  match RawStep.stimulus r with
  | none => none
  | some stim =>
    if RawStep.commonOk r then
      some { stim, exp := r.exp.toNat, period := r.period.toNat, window := r.window.toNat,
             lower := limitOf r.lowerPresent r.lower, upper := limitOf r.upperPresent r.upper }
    else none

/-- The host steps of a TEST ORDER, none when one of them is refused (R103 check 4). -/
def hostSteps : List RawStep → Option (List HostStep)
  | [] => some []
  | r :: rest =>
    match RawStep.host r, hostSteps rest with
    | some st, some more => some (st :: more)
    | _, _ => none

end Sys2Proof.Machine
end

