-- ==== Sys2Proof/Machine/Owners.lean ====
section
/-! DEFINITION. Each request at its owning block (check 6 of R178): what it answers and what it changes. Requests that
end in another event than their own (SAVE SETTINGS, RESTART, BATCH) are in Machine/Requests.lean. -/

namespace Sys2Proof.Machine

/-! ### General (R183, R187, R190, R194) -/

/-- Both ports' fault counts and the uplink drop count set to 0 (R183). -/
def State.clearStatus (s : State) : State :=
  { s with
    pool := { s.pool with uplinkDrops := 0 }
    ports := { s.ports with
      main := { s.ports.main with faults := FaultCounts.zero }
      craft := { s.ports.craft with faults := FaultCounts.zero } } }

/-- STATUS (R183). -/
def State.statusRequest (clear : Bool) (s : State) : Reply × State :=
  (Reply.ok s.statusBytes, if clear then s.clearStatus else s)

/-- The id and value of a parameter as a reply carries them (R190). -/
def State.parameterBytes (s : State) (id : Nat) : List Byte := byte id :: le2 (s.params.get id)

/-- The parameter table set at an id, with the cap ceiling's effect on the energy manager (R190, R149). -/
def State.putParameter (id value : Nat) (s : State) : State :=
  let s' := { s with params := s.params.put id value }
  if id = 10 then s'.ceilingSet s.params.capCeiling else s'

/-- SET PARAMETER (R190). -/
def State.setParameter (id value : Nat) (s : State) : Reply × State :=
  if !paramOk id value then (Reply.bad .range, s)
  else if s.params.get id = value then (Reply.ok (s.parameterBytes id), s)
  else (Reply.ok (byte id :: le2 value), s.putParameter id value)

/-- GET PARAMETER (R190). -/
def State.getParameter (id : Nat) (s : State) : Reply × State :=
  if paramIds.contains id then (Reply.ok (s.parameterBytes id), s) else (Reply.bad .range, s)

/-- FETCH NOTICES (R187). -/
def State.fetchNotices (s : State) : Reply × State :=
  let taken := s.notices.queue.take Config.fetchLimit
  (Reply.ok (byte taken.length :: byte s.notices.lost :: taken.flatMap Notice.bytes),
   { s with notices := { queue := s.notices.queue.drop Config.fetchLimit, lost := 0 } })

/-! ### Flows (R49 to R55) -/

/-- The entry that content makes against the live equipped set (R49). -/
def State.entryOf (s : State) (c : FlowContent) : Option FlowEntry := FlowContent.entry s.equipped c

/-- An install at an index: the entry is written and its release pass runs (R50, R51, R62). -/
def State.install (k : FlowIdx) (e : FlowEntry) (s : State) : State × Nat × Nat :=
  (s.setFlow k (some e)).releasePass k e

/-- FLOW PUT at the flow table (R50). -/
def State.flowPut (k : FlowIdx) (c : FlowContent) (s : State) : Reply × State :=
  match s.entryOf c with
  | none => (Reply.bad .range, s)
  | some e =>
    if overlapsAny s.flows (fun j => j != k) e then (Reply.bad .overlap, s)
    else
      let done := s.install k e
      (Reply.ok [byte done.2.1, byte done.2.2], done.1)

/-- The lowest invalid index (R51). -/
def State.freeFlow (s : State) : Option FlowIdx := allFlows.find? fun k => s.flows[k].isNone

/-- FLOW PLACE at the flow table (R51). -/
def State.flowPlace (c : FlowContent) (s : State) : Reply × State :=
  match s.entryOf c with
  | none => (Reply.bad .range, s)
  | some e =>
    if overlapsAny s.flows (fun _ => true) e then (Reply.bad .overlap, s)
    else
      match s.freeFlow with
      | none => (Reply.bad .full, s)
      | some k =>
        let done := s.install k e
        (Reply.ok [byte k.val, byte done.2.1, byte done.2.2], done.1)

/-- FLOW DROP (R52). -/
def State.flowDrop (k : FlowIdx) (s : State) : Reply × State :=
  if s.flows[k].isSome then (Reply.ok [], s.setFlow k none) else (Reply.bad .notFound, s)

/-- An entry is made invalid by a FLOW CLEAR: all, or those not kept (R53). -/
def FlowEntry.cleared (notKept : Bool) (e : FlowEntry) : Bool := !notKept || !e.kept

/-- What a FLOW CLEAR leaves at an index (R53). -/
def clearEntry (notKept : Bool) (e : Option FlowEntry) : Option FlowEntry :=
  e.filter fun f => !f.cleared notKept

/-- FLOW CLEAR (R53). -/
def State.flowClear (notKept : Bool) (s : State) : Reply × State :=
  let gone := allFlows.countP fun k => s.flows[k].any (FlowEntry.cleared notKept)
  (Reply.ok [byte gone], { s with flows := s.flows.map (clearEntry notKept) })

/-- The reply of FLOW FIND for a search's result (R54). -/
def foundReply (r : Option (FlowIdx × Nat)) : Reply :=
  match r with
  | some (k, tag) => Reply.ok (byte k.val :: le2 tag)
  | none => Reply.bad .notFound

/-- FLOW FIND upstream (R54): the line's state does not enter. -/
def State.flowFindUp (l : LineNo) (tag : Nat) (s : State) : Reply × State :=
  (foundReply ((s.findUp l tag).map fun m => (m.1, m.2.toUplink tag)), s)

/-- FLOW FIND downstream (R54). -/
def State.flowFindDown (tag : Nat) (s : State) : Reply × State :=
  (foundReply ((s.findDown tag).map fun m => (m.1, m.2.toLine tag)), s)

/-- FLOW READ (R55). -/
def State.flowRead (k : FlowIdx) (s : State) : Reply × State := (Reply.ok (s.flowBytes k), s)

/-! ### Tests (R103, R106, R124 to R126) -/

/-- An order joins the tail of the queue under the id given to it (R103, R104, R105). -/
def State.enqueue (o : TestOrder) (s : State) : State :=
  { s with engine := { s.engine with queue := s.engine.queue ++ [o], lastId := o.id } }

/-- TEST ORDER at the engine (R103). -/
def State.testOrder (p : PortId) (l : LineNo) (intr quar clr : Bool) (steps : List RawStep) (s : State) :
    Reply × State :=
  if p = .craft ∧ s.doorOpen = false then (Reply.bad .denied, s)
  else if !s.equipped l then (Reply.bad .range, s)
  else if steps.length = 0 ∨ 5 < steps.length then (Reply.bad .range, s)
  else
    match hostSteps steps with
    | none => (Reply.bad .range, s)
    | some hs =>
      if Config.orderCapacity ≤ s.engine.queue.length then (Reply.bad .full, s)
      else
        let o : TestOrder := { id := s.engine.nextId, origin := p, line := l, interrupt := intr,
                               quarantineOnFail := quar, clearOnPass := clr, steps := hs }
        (Reply.ok [byte o.id], (s.enqueue o).attempt)

/-- TEST CANCEL at the engine (R125). -/
def State.testCancel (p : PortId) (id : Nat) (s : State) : Reply × State :=
  match s.engine.queue.find? fun o => o.id == id with
  | some o =>
    if p = .craft ∧ o.origin = .main then (Reply.bad .denied, s)
    else (Reply.ok [], (State.removeOrder .cancel s o).attempt)
  | none =>
    match s.engine.current with
    | none => (Reply.bad .notFound, s)
    | some cur =>
      if cur.order.id ≠ id then (Reply.bad .notFound, s)
      else if p = .craft ∧ cur.order.origin = .main then (Reply.bad .denied, s)
      else if cur.phase.early then (Reply.ok [], s.beginExit .cancel)
      else (Reply.bad .state, s)

/-- The read mark of a record for a port (R122, R124). -/
def Result.readBy (p : PortId) (r : Result) : Bool :=
  match p with
  | .main => r.readMain
  | .craft => r.readCraft

/-- The read mark of the asking port set (R124). -/
def Result.markRead (p : PortId) (r : Result) : Result :=
  match p with
  | .main => { r with readMain := true }
  | .craft => { r with readCraft := true }

/-- The record that TEST RESULT is to return (R124). -/
def State.askedResult (p : PortId) (oldest : Bool) (id : Nat) (s : State) : Option Result :=
  s.engine.results.find? fun r => if oldest then !r.readBy p else r.id == id

/-- TEST RESULT (R124). -/
def State.testResult (p : PortId) (oldest : Bool) (id : Nat) (s : State) : Reply × State :=
  match s.askedResult p oldest id with
  | none => (Reply.bad .notFound, s)
  | some r =>
    (Reply.ok r.bytes,
     { s with engine := { s.engine with
         results := s.engine.results.map fun q => if q.id = r.id then q.markRead p else q } })

/-- TEST HALT (R126, R139). -/
def State.testHalt (s : State) : Reply × State :=
  let removed := byte s.engine.queue.length
  let s' := s.engine.queue.foldl (State.removeOrder .halt) s
  match s.engine.current with
  | none => (Reply.ok [removed], s')
  | some cur =>
    if cur.phase.early then (Reply.ok [removed], s'.beginExit .halt)
    else ({ status := .state, payload := [removed] }, s')

/-! ### Energy (R145, R147, R157) -/

/-- SUPPLY at the energy manager (R145). -/
def State.supplyRequest (st : Option Supply) (s : State) : Reply × State :=
  match st with
  | none => (Reply.bad .range, s)
  | some new =>
    let s' := s.setSupply new .request
    (Reply.ok [s'.energy.supply.code, byte s'.budget], s')

/-- BUDGET SET at the energy manager (R147). -/
def State.budgetSet (st : Option Supply) (n : Nat) (s : State) : Reply × State :=
  match st with
  | none => (Reply.bad .range, s)
  | some which =>
    if !budgetOk n then (Reply.bad .range, s)
    else
      let s' := s.putBudget which n
      (Reply.ok [byte s'.budget], s')

/-! ### Points (R161, R166) -/

/-- POINT ASSIGN at the cabinet point unit (R161, R162). -/
def State.pointAssign (p : PointNo) (f : PointFn) (pol : Polarity) (s : State) : Reply × State :=
  if !(pointGroup p).permits f then (Reply.bad .range, s)
  else if (s.point p).fn = .testPower ∧ s.engine.current.isSome then (Reply.bad .state, s)
  else if s.heldElsewhere p f then (Reply.bad .overlap, s)
  else
    let s' := s.assignFn p f pol
    (Reply.ok (s'.pointBytes p), s')

/-- POINT DRIVE at the cabinet point unit (R166). -/
def State.pointDrive (p : PointNo) (active : Bool) (s : State) : Reply × State :=
  match (s.point p).fn with
  | .lamp => (Reply.ok [], s.setPoint p fun r => { r with driven := active })
  | .fan => (Reply.ok [], s.setPoint p fun r => { r with driven := active })
  | _ => (Reply.bad .state, s)

/-! ### The owning block of a request (R178 check 6) -/

/-- An owner's rule for the line a byte names; a byte that names none was refused RANGE before. -/
def onLine (b : Byte) (f : LineNo → State → Reply × State) (s : State) : Reply × State :=
  match lineOfByte b with
  | some l => f l s
  | none => (Reply.bad .range, s)

/-- An owner's rule for the point a byte names. -/
def onPoint (b : Byte) (f : PointNo → State → Reply × State) (s : State) : Reply × State :=
  match pointOfByte b with
  | some p => f p s
  | none => (Reply.bad .range, s)

/-- An owner's rule for the flow entry a byte names. -/
def onFlow (b : Byte) (f : FlowIdx → State → Reply × State) (s : State) : Reply × State :=
  match flowOfByte b with
  | some k => f k s
  | none => (Reply.bad .range, s)

/-- The profile that a LINE PROFILE carries (R21). -/
def profileOf (weight keep cost limit park : Byte) : Profile :=
  { weight := weight.toNat, keep := keep.toNat, cost := cost.toNat, limit := limit.toNat,
    park := parkOfCode park.toNat }

/-- A request from port p at its owning block. SAVE SETTINGS, RESTART and BATCH, which end in another event or are
made of sub-requests, are taken by the dispatcher itself and answer UNKNOWN as sub-requests (R185). -/
def own (p : PortId) (r : Req) (s : State) : Reply × State :=
  match r with
  | .ident => (Reply.ok s.identBytes, s)
  | .status clear => s.statusRequest (clear == 1)
  | .setParameter id value => s.setParameter id.toNat value.toNat
  | .getParameter id => s.getParameter id.toNat
  | .saveSettings => (Reply.bad .unknown, s)
  | .restart => (Reply.bad .unknown, s)
  | .batch _ => (Reply.bad .unknown, s)
  | .fetchNotices => s.fetchNotices
  | .lineStart l => onLine l State.lineStart s
  | .lineStop l => onLine l State.lineStop s
  | .lineProfile l w k c g park => onLine l (fun l => State.lineProfile l (profileOf w k c g park)) s
  | .lineClear l => onLine l State.lineClear s
  | .lineQuery l clear => onLine l (fun l => State.lineQuery l (clear == 1)) s
  | .lineEquip l sel => onLine l (if sel = 1 then State.lineEquip else State.lineUnequip) s
  | .flowPut i c => onFlow i (fun k => State.flowPut k c) s
  | .flowPlace c => s.flowPlace c
  | .flowDrop i => onFlow i State.flowDrop s
  | .flowFind sel l tag =>
    if sel = 1 then s.flowFindDown tag.toNat else onLine l (fun l => State.flowFindUp l tag.toNat) s
  | .flowRead i => onFlow i State.flowRead s
  | .flowClear sel => s.flowClear (sel == 1)
  | .testOrder l i q c steps => onLine l (fun l => State.testOrder p l (i == 1) (q == 1) (c == 1) steps) s
  | .testCancel id => s.testCancel p id.toNat
  | .testResult sel id => s.testResult p (sel == 1) id.toNat
  | .testList => (Reply.ok s.testListBytes, s)
  | .testHalt => s.testHalt
  | .supply st => s.supplyRequest (supplyOfByte st)
  | .budgetSet st n => s.budgetSet (supplyOfByte st) n.toNat
  | .energyQuery => (Reply.ok s.energyBytes, s)
  | .pointAssign pt f pol =>
    match fnOfCode f.toNat with
    | some fn => onPoint pt (fun q => State.pointAssign q fn (polarityOfCode pol.toNat)) s
    | none => (Reply.bad .range, s)
  | .pointRead => (Reply.ok s.pointReadBytes, s)
  | .pointDrive pt st => onPoint pt (fun q => State.pointDrive q (st == 1)) s

end Sys2Proof.Machine
end

