-- ==== Sys2Proof/Machine/Requests.lean ====
section
/-! DEFINITION. The request dispatcher (chapter 10.4 to 10.6): the checks of R178, answering, group messages, SAVE
SETTINGS, RESTART, batches, and a good message at its port. -/

namespace Sys2Proof.Machine

/-! ### Answering (R176, R177, R181) -/

/-- The transmission of a reply begins: the port goes on EXECUTING, and on the main link a partial message in TAKE is
discarded with OVERLAP (R176). `restart` marks the reply of an answered RESTART (R193). -/
def State.transmit (p : PortId) (body : List Byte) (restart : Bool) (s : State) : State :=
  let s := s.setJob p (some (.sending body restart))
  match p, s.ports.main.recv with
  | .main, .take _ => (s.countFault .main .overlap).setRecv .main .hunt
  | _, _ => s

/-- Whether a group message counts as discarded: refused at a check or by its owning block (R181). A TEST HALT that
acts and has status STATE is not discarded (log 12). -/
def Reply.discarded (r : Reply) : Bool := r.status != .ok && r.payload.isEmpty

/-- A group message ends: no reply, READY, and GROUP gains 1 when it was discarded (R181). -/
def State.endGroup (discarded : Bool) (s : State) : State :=
  (if discarded then s.countFault .main .group else s).setJob .main none

/-- The end of execution: a group message sends no reply, any other is answered on its port (R177, R181). -/
def State.answer (h : Header) (kind : Byte) (r : Reply) (s : State) : State :=
  if h.group then s.endGroup r.discarded else s.transmit h.port (r.body kind h.tag) false

/-! ### Batches (R180, R184, R185) -/

/-- One sub-request of a BATCH on port p at its turn: sub-kind, length, permission, ranges, owning block (R185). -/
def subRun (p : PortId) (sub : RawSub) (s : State) : Reply × State :=
  if !batchKinds.contains sub.kind then (Reply.bad .unknown, s)
  else
    match parse sub.kind sub.payload with
    | .unknown => (Reply.bad .unknown, s)
    | .badLength => (Reply.bad .length, s)
    | .req r =>
      if !permitted p s.doorOpen r then (Reply.bad .denied, s)
      else if !fieldsOk r then (Reply.bad .range, s)
      else own p r s

/-- The result value of a sub-request that succeeded: the index of a FLOW PLACE, the id of a TEST ORDER, otherwise 0
(R185, R197). -/
def resultValue (kind : Byte) (r : Reply) : Byte := if kind = 0x21 ∨ kind = 0x30 then r.payload.headD 0 else 0

/-- Up to `n` further sub-requests of a batch on port p; `done` holds the result values so far. The batch ends when
none is left or one fails; otherwise the port keeps what is left (R185, log 5). -/
def batchGo (p : PortId) (tag : Byte) : Nat → List RawSub → List Byte → State → State
  | _, [], done, s => s.transmit p ((batchOk done).body 0x08 tag) false
  | 0, sub :: rest, done, s => s.setJob p (some (.batch tag (sub :: rest) done))
  | n + 1, sub :: rest, done, s =>
    let out := subRun p sub s
    if out.1.status = .ok then batchGo p tag n rest (done ++ [resultValue sub.kind out.1]) out.2
    else out.2.transmit p ((batchPartial done out.1.status).body 0x08 tag) false

/-- The batch in execution on port p goes on for up to `n` sub-requests (log 5). -/
def State.batchOn (p : PortId) (n : Nat) (s : State) : State :=
  match (s.port p).job with
  | some (.batch tag rest done) => batchGo p tag n rest done s
  | _ => s

/-! ### Requests that end in another event (R191, R193) -/

/-- SAVE SETTINGS at the settings store: the snapshot is taken, the write mark set and the write begins; the main link
stays EXECUTING (R191). -/
def State.beginSave (p : PortId) (tag : Byte) (s : State) : State :=
  ({ s with store := { s.store with mark := true } }).setJob p (some (.save tag s.liveSettings.image))

/-- RESTART: a group message starts the part at once, any other is answered OK and the start follows the reply
(R193, R181). -/
def State.beginRestart (h : Header) (s : State) : State :=
  if h.group then s.start .request else s.transmit h.port ((Reply.ok []).body 0x06 h.tag) true

/-- A request past the dispatcher's checks is carried out; `n` bounds the sub-requests that a BATCH takes now. -/
def State.perform (h : Header) (r : Req) (n : Nat) (s : State) : State :=
  match r with
  | .saveSettings => s.beginSave h.port h.tag
  | .restart => s.beginRestart h
  | .batch subs => batchGo h.port h.tag n subs [] s
  | other =>
    let out := own h.port other s
    out.2.answer h (reqKind other) out.1

/-! ### The dispatcher (R178) -/

/-- The dispatcher's checks in their order, then the owning block (R178). A group message of another kind than the
group kinds is discarded at check 3 (R181). -/
def State.judge (h : Header) (kind : Byte) (req : Parsed) (n : Nat) (s : State) : State :=
  match req with
  | .unknown => s.answer h kind (Reply.bad .unknown)
  | .badLength => s.answer h kind (Reply.bad .length)
  | .req r =>
    if h.group && !groupKind r then s.endGroup true
    else if !permitted h.port s.doorOpen r then s.answer h kind (Reply.bad .denied)
    else if !fieldsOk r then s.answer h kind (Reply.bad .range)
    else s.perform h r n

/-- A good message at its port: OVERLAP while EXECUTING, otherwise EXECUTING and dispatched (R176). -/
def State.dispatch (h : Header) (kind : Byte) (req : Parsed) (n : Nat) (s : State) : State :=
  if s.executing h.port then s.countFault h.port .overlap
  else (s.setJob h.port (some .running)).judge h kind req n

/-- The port takes characters: the part runs, and the main link is not transmitting (R176, R193). -/
def State.receiving (p : PortId) (s : State) : Bool := s.running && !(p == .main && s.transmitting p)

/-- The craft port has no group messages: a group mark on it says nothing (R172, log 30). -/
def plainHeader (h : Header) : Header := { h with group := h.group && h.port == .main }

/-- A whole good message completes on its port: HUNT, then R176 (R174, log 4). -/
def State.message (h : Header) (kind : Byte) (req : Parsed) (n : Nat) (s : State) : State :=
  if s.receiving h.port then (s.setRecv h.port .hunt).dispatch (plainHeader h) kind req n else s

/-- A request that is not a BATCH, as a whole good message (log 4). -/
def State.request (t : Nat) (h : Header) (r : Req) (s : State) : State :=
  (s.advance t).message h (reqKind r) (.req r) 0

end Sys2Proof.Machine
end

