-- ==== Sys2Proof/Machine/Receive.lean ====
section
/-! DEFINITION. Receiving characters (R170 to R176), the end of a reply (R176, R190, R193), the end of a settings write
(R191), power and the RESET pin (R193). -/

namespace Sys2Proof.Machine

/-! ### Characters and breaks (R172 to R175) -/

/-- An address value addresses the part (R172). -/
def State.addressed (p : PortId) (data : Byte) (s : State) : Bool :=
  p == .craft || data.toNat == s.ports.dropInForce || data.toNat == Config.groupAddress

/-- The new partial message of an address character (R173); its arrival starts the wait (log 16). -/
def State.newPartial (p : PortId) (data : Byte) (s : State) : Partial :=
  { addr := data, group := p == .main && data.toNat == Config.groupAddress, body := [], expected := none,
    damaged := false, last := s.now, wait := ms s.params.charTimeout }

/-- An undamaged address character: it abandons a partial message with TIMEOUT, then starts one or sends the port to
SKIP (R173, R175). -/
def State.takeAddress (p : PortId) (data : Byte) (s : State) : State :=
  let s := match (s.port p).recv with
    | .take _ => s.countFault p .timeout
    | _ => s
  if s.addressed p data then s.setRecv p (.take (s.newPartial p data)) else s.setRecv p .skip

/-- A complete message is judged: damaged, check, good (R174). The sub-requests of a BATCH that came in so are taken
by the row BATCH, each an event of its own (R185, log 5). -/
def State.complete (p : PortId) (msg : Partial) (s : State) : State :=
  let s := s.setRecv p .hunt
  if msg.damaged then s.countFault p .char
  else if msg.body.sum ≠ 0 then s.countFault p .check
  else
    match msg.body with
    | _ :: kind :: tag :: rest =>
      s.dispatch { port := p, group := msg.group, tag } kind (parse kind rest.dropLast) 0
    | _ => s

/-- The partial message with one more body byte (R174). -/
def Partial.add (data : Byte) (damaged : Bool) (now wait : Nat) (msg : Partial) : Partial :=
  { msg with body := msg.body ++ [data], damaged := msg.damaged || damaged, last := now, wait }

/-- A body or damaged character in TAKE: the LEN byte is judged, and the message completes at LEN + 1 bytes (R174). -/
def State.takeInto (p : PortId) (msg : Partial) (data : Byte) (damaged : Bool) (s : State) : State :=
  let next := msg.add data damaged s.now (ms s.params.charTimeout)
  match msg.expected with
  | none =>
    if 3 ≤ data.toNat && data.toNat ≤ 250 then s.setRecv p (.take { next with expected := some (data.toNat + 1) })
    else (s.countFault p .length).setRecv p .skip
  | some n => if next.body.length = n then s.complete p next else s.setRecv p (.take next)

/-- A body or damaged character (R173, R174). -/
def State.takeBody (p : PortId) (data : Byte) (damaged : Bool) (s : State) : State :=
  match (s.port p).recv with
  | .take msg => s.takeInto p msg data damaged
  | _ => s

/-- A character at a port: an address character, or a body or damaged one (R170, R173, R174). -/
def State.takeChar (p : PortId) (c : SerialChar) (s : State) : State :=
  if s.receiving p then
    if c.isAddress then s.takeAddress p c.data else s.takeBody p c.data c.damaged
  else s

/-- A break at a port (R173, R175). -/
def State.takeBreak (p : PortId) (s : State) : State :=
  if s.receiving p then
    match (s.port p).recv with
    | .hunt => s
    | .skip => s.setRecv p .hunt
    | .take _ => (s.countFault p .brk).setRecv p .hunt
  else s

/-- The character time-out at a port: more than the wait has passed since the last character (R175, log 3). -/
def State.charTimeout (p : PortId) (s : State) : State :=
  match (s.port p).recv with
  | .take msg => if s.running && msg.last + msg.wait < s.now then (s.countFault p .timeout).setRecv p .hunt else s
  | _ => s

/-! ### The end of a reply (R176, R190, R193) -/

/-- The pending drop address and rate come into force as the main link's reply ends (R190). -/
def State.pendingInForce (s : State) : State :=
  { s with ports := { s.ports with dropInForce := s.params.drop, rateInForce := s.params.rate } }

/-- The last character of a reply has been sent: a RESTART starts the part; otherwise the port is READY, and the main
link is in HUNT with the pending values in force (R176, R190, R193). -/
def State.replyEnds (p : PortId) (s : State) : State :=
  match (s.port p).job with
  | some (.sending _ true) => s.start .request
  | some (.sending _ false) =>
    match p with
    | .main => ((s.setJob .main none).setRecv .main .hunt).pendingInForce
    | .craft => s.setJob .craft none
  | _ => s

/-! ### The end of a settings write (R191) -/

/-- The write of a save ends with the store holding `held`: the mark is cleared and the image compared (R191). -/
def State.writeEnds (held : Option (List Half)) (s : State) : State :=
  match s.ports.main.job with
  | some (.save tag words) =>
    let written := held.getD words
    let s := { s with store := { words := written, mark := false } }
    let h : Header := { port := .main, group := false, tag }
    if written = words then ({ s with status := .good }).answer h 0x05 (Reply.ok [])
    else s.answer h 0x05 (Reply.bad .storeFail)
  | _ => s

/-! ### Power and the RESET pin (R193) -/

/-- Power is applied: a start with cause POWER, unless the pin holds the part stopped (R193, log 11). -/
def State.applyPower (s : State) : State :=
  if s.resetLow then { s with powered := true } else ({ s with powered := true }).start .power

/-- Power is lost: the part stops (R193). -/
def State.losePower (s : State) : State := { s.halt with powered := false }

/-- The RESET pin has been low for 10 microseconds: the part stops (R193). -/
def State.pinLow (s : State) : State := { s.halt with resetLow := true }

/-- The RESET pin returns high after a stop: a start with cause PIN (R193, log 11). -/
def State.pinHigh (s : State) : State :=
  if s.resetLow then
    if s.powered then ({ s with resetLow := false }).start .pin else { s with resetLow := false }
  else s

end Sys2Proof.Machine
end

