-- ==== Sys2Proof/Machine/EventCommands.lean ====
section
/-! DEFINITION. The meanings of the rows that are not requests: characters, ends of replies and writes, indications,
arrivals, takes, timers, readings, levels, power and the RESET pin. -/

namespace Sys2Proof.Machine

/-- An event at a time: taken while the part runs, lost while it is stopped (R193). -/
def State.event (t : Nat) (f : State → State) (s : State) : State :=
  if (s.advance t).running then f (s.advance t) else s.advance t

/-! ### Message ports and the settings store -/

/-- An address character (R173, R175). -/
def execAddressCharacter (t : Nat) (p : PortId) (c : SerialChar) (s : State) : Outcome :=
  .next (s.event t (State.takeChar p c))

/-- A body or damaged character (R173, R174). -/
def execBodyCharacter (t : Nat) (p : PortId) (c : SerialChar) (s : State) : Outcome :=
  .next (s.event t (State.takeChar p c))

/-- A break (R170, R173, R175). -/
def execBreak (t : Nat) (p : PortId) (s : State) : Outcome := .next (s.event t (State.takeBreak p))

/-- The character time-out (R175). -/
def execCharacterTimeout (t : Nat) (p : PortId) (s : State) : Outcome := .next (s.event t (State.charTimeout p))

/-- The end of a reply's transmission (R176, R190, R193). -/
def execReplySent (t : Nat) (p : PortId) (s : State) : Outcome := .next (s.event t (State.replyEnds p))

/-- The end of a settings write (R191). -/
def execSaveWriteEnd (t : Nat) (held : Option (List Half)) (s : State) : Outcome :=
  .next (s.event t (State.writeEnds held))

/-! ### Lines -/

/-- Sync up (R7). -/
def execSyncUp (t : Nat) (l : LineNo) (s : State) : Outcome := .next (s.event t (State.syncUp l))

/-- Sync lost (R8). -/
def execSyncLost (t : Nat) (l : LineNo) (s : State) : Outcome := .next (s.event t (State.syncLost l))

/-- The expiry of a training deadline (R9). -/
def execTrainingDeadlineExpiry (t : Nat) (l : LineNo) (s : State) : Outcome :=
  .next (s.event t (State.deadlineExpires l))

/-! ### Traffic -/

/-- An upstream arrival (R29); a length that is never presented faults (R26, log 14). -/
def execUpstreamArrival (t : Nat) (l : LineNo) (tag : Fin 4096) (len : Nat) (s : State) : Outcome :=
  if frameLengthOk len then .next (s.event t (State.arriveUp l tag.val len)) else .fault .frameNeverPresented

/-- A downstream arrival (R32); a length that is never presented faults (R26, log 14). -/
def execDownstreamArrival (t : Nat) (tag : Fin 4096) (len : Nat) (s : State) : Outcome :=
  if frameLengthOk len then .next (s.event t (State.arriveDown tag.val len)) else .fault .frameNeverPresented

/-- A transceiver takes a frame (R34). -/
def execTransceiverTake (t : Nat) (l : LineNo) (s : State) : Outcome := .next (s.event t (State.takeDown l))

/-- The uplink port takes a frame (R37). -/
def execUplinkTake (t : Nat) (s : State) : Outcome := .next (s.event t State.takeUp)

/-- The expiry of a held frame (R61). -/
def execHoldExpiry (t : Nat) (l : LineNo) (tag : Fin 4096) (s : State) : Outcome :=
  .next (s.event t (State.expireHeld l tag.val))

/-- A scheduler decision (R70). -/
def execSchedulerDecision (t : Nat) (s : State) : Outcome := .next (s.event t State.decide)

/-- A status report of the uplink equipment (R77). -/
def execUplinkStatusReport (t : Nat) (r : Option RateClass) (s : State) : Outcome :=
  .next (s.event t (State.uplinkReport r))

/-! ### Generator and test engine -/

/-- A step event of the generator (R89). -/
def execStepEvent (t : Nat) (s : State) : Outcome := .next (s.event t State.stepGen)

/-- The warm-up timer (R112). -/
def execWarmupTimerExpiry (t : Nat) (s : State) : Outcome := .next (s.event t State.endWarmup)

/-- The first settle timer (R113). -/
def execFirstSettleExpiry (t : Nat) (s : State) : Outcome := .next (s.event t State.endFirstSettle)

/-- The second settle timer (R113). -/
def execSecondSettleExpiry (t : Nat) (s : State) : Outcome := .next (s.event t State.endSecondSettle)

/-- A reading of the front end (R114). -/
def execMeasurementReading (t : Nat) (r : Reading) (s : State) : Outcome := .next (s.event t (State.takeReading r))

/-- A hazard crossing (R114, R131, R137). -/
def execHazardCrossing (t : Nat) (s : State) : Outcome := .next (s.event t State.takeHazard)

/-- The settle timer of RELEASE (R118). -/
def execReleaseSettleExpiry (t : Nat) (s : State) : Outcome := .next (s.event t State.endRelease)

/-- The dwell timer (R135). -/
def execDwellExpiry (t : Nat) (s : State) : Outcome := .next (s.event t State.endDwell)

/-- The settle timer of an exit (R136). -/
def execExitSettleExpiry (t : Nat) (s : State) : Outcome := .next (s.event t State.endExit)

/-! ### Cabinet points -/

/-- A change of an input's level (R163, R164); the level itself is recorded in a stopped part too (log 18). -/
def execInputLevelChange (t : Nat) (p : PointNo) (lvl : Level) (s : State) : Outcome :=
  .next ((s.advance t).inputChange p lvl)

/-- The expiry of a debounce window (R163). -/
def execDebounceExpiry (t : Nat) (p : PointNo) (s : State) : Outcome := .next (s.event t (State.endDebounce p))

/-- The expiry of the surge clear window (R164). -/
def execSurgeClearExpiry (t : Nat) (s : State) : Outcome := .next (s.event t State.endSurgeClear)

/-- The expiry of the quiet time (R164). -/
def execQuietExpiry (t : Nat) (s : State) : Outcome := .next (s.event t State.endQuiet)

/-! ### Power and reset -/

/-- Power is applied (R193). -/
def execPowerOn (t : Nat) (s : State) : Outcome := .next (s.advance t).applyPower

/-- Power is lost (R193). -/
def execPowerLoss (t : Nat) (s : State) : Outcome := .next (s.advance t).losePower

/-- The RESET pin has been held low (R193). -/
def execResetPinLow (t : Nat) (s : State) : Outcome := .next (s.advance t).pinLow

/-- The RESET pin returns high (R193). -/
def execResetPinRelease (t : Nat) (s : State) : Outcome := .next (s.advance t).pinHigh

end Sys2Proof.Machine
end

