-- ==== Sys2Proof/Machine/RequestCommands.lean ====
section
/-! DEFINITION. The meanings of the request rows: a whole good message on a port at a time (R176 to R181, log 4). -/

namespace Sys2Proof.Machine

/-! ### General -/

/-- IDENT (R194). -/
def execIdent (t : Nat) (h : Header) (s : State) : Outcome := .next (s.request t h .ident)

/-- STATUS (R183). -/
def execStatus (t : Nat) (h : Header) (clear : Byte) (s : State) : Outcome := .next (s.request t h (.status clear))

/-- SET PARAMETER (R190). -/
def execSetParameter (t : Nat) (h : Header) (id : Byte) (value : Half) (s : State) : Outcome :=
  .next (s.request t h (.setParameter id value))

/-- GET PARAMETER (R190). -/
def execGetParameter (t : Nat) (h : Header) (id : Byte) (s : State) : Outcome :=
  .next (s.request t h (.getParameter id))

/-- SAVE SETTINGS (R191). -/
def execSaveSettings (t : Nat) (h : Header) (s : State) : Outcome := .next (s.request t h .saveSettings)

/-- RESTART (R193). -/
def execRestart (t : Nat) (h : Header) (s : State) : Outcome := .next (s.request t h .restart)

/-- FETCH NOTICES (R187). -/
def execFetchNotices (t : Nat) (h : Header) (s : State) : Outcome := .next (s.request t h .fetchNotices)

/-- BATCH (R184, R185): the message with the sub-requests it takes now, or the batch in execution going on (log 5). -/
def execBatch (t : Nat) (run : BatchRun) (s : State) : Outcome :=
  match run with
  | .begin h subs n => .next ((s.advance t).message h 0x08 (.req (.batch subs)) n)
  | .go p n => .next (if (s.advance t).running then (s.advance t).batchOn p n else s.advance t)

/-- A request of unknown kind (R177, R178 check 1). -/
def execUnknownKindRequest (t : Nat) (h : Header) (kind : Byte) (payload : List Byte) (s : State) : Outcome :=
  .next ((s.advance t).message h kind (parse kind payload) 0)

/-! ### Lines -/

/-- LINE START (R16). -/
def execLineStart (t : Nat) (h : Header) (line : Byte) (s : State) : Outcome :=
  .next (s.request t h (.lineStart line))

/-- LINE STOP (R17). -/
def execLineStop (t : Nat) (h : Header) (line : Byte) (s : State) : Outcome := .next (s.request t h (.lineStop line))

/-- LINE PROFILE (R21). -/
def execLineProfile (t : Nat) (h : Header) (line weight keep cost limit park : Byte) (s : State) : Outcome :=
  .next (s.request t h (.lineProfile line weight keep cost limit park))

/-- LINE CLEAR (R18). -/
def execLineClear (t : Nat) (h : Header) (line : Byte) (s : State) : Outcome :=
  .next (s.request t h (.lineClear line))

/-- LINE QUERY (R22). -/
def execLineQuery (t : Nat) (h : Header) (line clear : Byte) (s : State) : Outcome :=
  .next (s.request t h (.lineQuery line clear))

/-- LINE EQUIP with the equip option (R19); its selector is 1 (R196). -/
def execLineEquipEquip (t : Nat) (h : Header) (line : Byte) (s : State) : Outcome :=
  .next (s.request t h (.lineEquip line 1))

/-- LINE EQUIP with the unequip option (R20); its selector is 0 (R196). -/
def execLineEquipUnequip (t : Nat) (h : Header) (line : Byte) (s : State) : Outcome :=
  .next (s.request t h (.lineEquip line 0))

/-! ### Flows -/

/-- FLOW PUT (R50). -/
def execFlowPut (t : Nat) (h : Header) (index : Byte) (content : FlowContent) (s : State) : Outcome :=
  .next (s.request t h (.flowPut index content))

/-- FLOW PLACE (R51). -/
def execFlowPlace (t : Nat) (h : Header) (content : FlowContent) (s : State) : Outcome :=
  .next (s.request t h (.flowPlace content))

/-- FLOW DROP (R52). -/
def execFlowDrop (t : Nat) (h : Header) (index : Byte) (s : State) : Outcome :=
  .next (s.request t h (.flowDrop index))

/-- FLOW FIND (R54). -/
def execFlowFind (t : Nat) (h : Header) (sel line : Byte) (tag : Half) (s : State) : Outcome :=
  .next (s.request t h (.flowFind sel line tag))

/-- FLOW READ (R55). -/
def execFlowRead (t : Nat) (h : Header) (index : Byte) (s : State) : Outcome :=
  .next (s.request t h (.flowRead index))

/-- FLOW CLEAR (R53). -/
def execFlowClear (t : Nat) (h : Header) (sel : Byte) (s : State) : Outcome := .next (s.request t h (.flowClear sel))

/-! ### Tests -/

/-- TEST ORDER (R103). -/
def execTestOrder (t : Nat) (h : Header) (line intr quar clr : Byte) (steps : List RawStep) (s : State) : Outcome :=
  .next (s.request t h (.testOrder line intr quar clr steps))

/-- TEST CANCEL (R125). -/
def execTestCancel (t : Nat) (h : Header) (id : Byte) (s : State) : Outcome := .next (s.request t h (.testCancel id))

/-- TEST RESULT (R124). -/
def execTestResult (t : Nat) (h : Header) (sel id : Byte) (s : State) : Outcome :=
  .next (s.request t h (.testResult sel id))

/-- TEST LIST (R106). -/
def execTestList (t : Nat) (h : Header) (s : State) : Outcome := .next (s.request t h .testList)

/-- TEST HALT (R126). -/
def execTestHalt (t : Nat) (h : Header) (s : State) : Outcome := .next (s.request t h .testHalt)

/-! ### Energy -/

/-- SUPPLY (R145). -/
def execSupply (t : Nat) (h : Header) (state : Byte) (s : State) : Outcome := .next (s.request t h (.supply state))

/-- BUDGET SET (R147). -/
def execBudgetSet (t : Nat) (h : Header) (state budget : Byte) (s : State) : Outcome :=
  .next (s.request t h (.budgetSet state budget))

/-- ENERGY QUERY (R157). -/
def execEnergyQuery (t : Nat) (h : Header) (s : State) : Outcome := .next (s.request t h .energyQuery)

/-! ### Points -/

/-- POINT ASSIGN (R161). -/
def execPointAssign (t : Nat) (h : Header) (point fn pol : Byte) (s : State) : Outcome :=
  .next (s.request t h (.pointAssign point fn pol))

/-- POINT READ (R167). -/
def execPointRead (t : Nat) (h : Header) (s : State) : Outcome := .next (s.request t h .pointRead)

/-- POINT DRIVE (R166). -/
def execPointDrive (t : Nat) (h : Header) (point state : Byte) (s : State) : Outcome :=
  .next (s.request t h (.pointDrive point state))

end Sys2Proof.Machine
end

