-- ==== Sys2Proof/Machine/Dispatch.lean ====
section
/-! DEFINITION. One arm for each command, each a direct call of its meaning. -/

namespace Sys2Proof.Machine

def exec (i : Instr) (s : State) : Host.Outcome State Fault Refusal :=
  match i with
  | .ident t h => Sys2Proof.Machine.execIdent t h s
  | .status t h clear => Sys2Proof.Machine.execStatus t h clear s
  | .setParameter t h id value => Sys2Proof.Machine.execSetParameter t h id value s
  | .getParameter t h id => Sys2Proof.Machine.execGetParameter t h id s
  | .saveSettings t h => Sys2Proof.Machine.execSaveSettings t h s
  | .saveWriteEnd t held => Sys2Proof.Machine.execSaveWriteEnd t held s
  | .restart t h => Sys2Proof.Machine.execRestart t h s
  | .fetchNotices t h => Sys2Proof.Machine.execFetchNotices t h s
  | .batch t run => Sys2Proof.Machine.execBatch t run s
  | .unknownKindRequest t h kind payload => Sys2Proof.Machine.execUnknownKindRequest t h kind payload s
  | .lineStart t h line => Sys2Proof.Machine.execLineStart t h line s
  | .lineStop t h line => Sys2Proof.Machine.execLineStop t h line s
  | .lineProfile t h line weight keep cost limit park => Sys2Proof.Machine.execLineProfile t h line weight keep cost limit park s
  | .lineClear t h line => Sys2Proof.Machine.execLineClear t h line s
  | .lineQuery t h line clear => Sys2Proof.Machine.execLineQuery t h line clear s
  | .lineEquipEquip t h line => Sys2Proof.Machine.execLineEquipEquip t h line s
  | .lineEquipUnequip t h line => Sys2Proof.Machine.execLineEquipUnequip t h line s
  | .flowPut t h index content => Sys2Proof.Machine.execFlowPut t h index content s
  | .flowPlace t h content => Sys2Proof.Machine.execFlowPlace t h content s
  | .flowDrop t h index => Sys2Proof.Machine.execFlowDrop t h index s
  | .flowFind t h sel line tag => Sys2Proof.Machine.execFlowFind t h sel line tag s
  | .flowRead t h index => Sys2Proof.Machine.execFlowRead t h index s
  | .flowClear t h sel => Sys2Proof.Machine.execFlowClear t h sel s
  | .testOrder t h line intr quar clr steps => Sys2Proof.Machine.execTestOrder t h line intr quar clr steps s
  | .testCancel t h id => Sys2Proof.Machine.execTestCancel t h id s
  | .testResult t h sel id => Sys2Proof.Machine.execTestResult t h sel id s
  | .testList t h => Sys2Proof.Machine.execTestList t h s
  | .testHalt t h => Sys2Proof.Machine.execTestHalt t h s
  | .supply t h state => Sys2Proof.Machine.execSupply t h state s
  | .budgetSet t h state budget => Sys2Proof.Machine.execBudgetSet t h state budget s
  | .energyQuery t h => Sys2Proof.Machine.execEnergyQuery t h s
  | .pointAssign t h point fn pol => Sys2Proof.Machine.execPointAssign t h point fn pol s
  | .pointRead t h => Sys2Proof.Machine.execPointRead t h s
  | .pointDrive t h point state => Sys2Proof.Machine.execPointDrive t h point state s
  | .addressCharacter t p c => Sys2Proof.Machine.execAddressCharacter t p c s
  | .bodyCharacter t p c => Sys2Proof.Machine.execBodyCharacter t p c s
  | .breakSeen t p => Sys2Proof.Machine.execBreak t p s
  | .characterTimeout t p => Sys2Proof.Machine.execCharacterTimeout t p s
  | .replySent t p => Sys2Proof.Machine.execReplySent t p s
  | .syncUp t l => Sys2Proof.Machine.execSyncUp t l s
  | .syncLost t l => Sys2Proof.Machine.execSyncLost t l s
  | .trainingDeadlineExpiry t l => Sys2Proof.Machine.execTrainingDeadlineExpiry t l s
  | .upstreamArrival t l tag len => Sys2Proof.Machine.execUpstreamArrival t l tag len s
  | .downstreamArrival t tag len => Sys2Proof.Machine.execDownstreamArrival t tag len s
  | .transceiverTake t l => Sys2Proof.Machine.execTransceiverTake t l s
  | .uplinkTake t => Sys2Proof.Machine.execUplinkTake t s
  | .holdExpiry t l tag => Sys2Proof.Machine.execHoldExpiry t l tag s
  | .schedulerDecision t => Sys2Proof.Machine.execSchedulerDecision t s
  | .uplinkStatusReport t r => Sys2Proof.Machine.execUplinkStatusReport t r s
  | .stepEvent t => Sys2Proof.Machine.execStepEvent t s
  | .warmupTimerExpiry t => Sys2Proof.Machine.execWarmupTimerExpiry t s
  | .firstSettleExpiry t => Sys2Proof.Machine.execFirstSettleExpiry t s
  | .secondSettleExpiry t => Sys2Proof.Machine.execSecondSettleExpiry t s
  | .measurementReading t r => Sys2Proof.Machine.execMeasurementReading t r s
  | .hazardCrossing t => Sys2Proof.Machine.execHazardCrossing t s
  | .releaseSettleExpiry t => Sys2Proof.Machine.execReleaseSettleExpiry t s
  | .dwellExpiry t => Sys2Proof.Machine.execDwellExpiry t s
  | .exitSettleExpiry t => Sys2Proof.Machine.execExitSettleExpiry t s
  | .inputLevelChange t p lvl => Sys2Proof.Machine.execInputLevelChange t p lvl s
  | .debounceExpiry t p => Sys2Proof.Machine.execDebounceExpiry t p s
  | .surgeClearExpiry t => Sys2Proof.Machine.execSurgeClearExpiry t s
  | .quietExpiry t => Sys2Proof.Machine.execQuietExpiry t s
  | .powerOn t => Sys2Proof.Machine.execPowerOn t s
  | .powerLoss t => Sys2Proof.Machine.execPowerLoss t s
  | .resetPinLow t => Sys2Proof.Machine.execResetPinLow t s
  | .resetPinRelease t => Sys2Proof.Machine.execResetPinRelease t s

end Sys2Proof.Machine
end

