-- ==== Sys2Proof/Machine/Step.lean ====
section
/-! DEFINITION. One step: the command at the front of the queue on the state with the queue's rest; an empty queue
idles (log 2). The words of the table spell no command, so withFetchWord leaves the state as it is (log 25). -/

namespace Sys2Proof.Machine

/-- The state without its queue's front command. -/
def State.withPending (cs : List Instr) (s : State) : State := { s with pending := cs }

/-- One step of the block. -/
def step (s : State) : Host.Outcome State Fault Refusal :=
  match s.pending with
  | [] => .next s
  | c :: rest => exec c (s.withPending rest)

/-- The command that a word spells put at the front of the queue; the state unchanged where it spells none. -/
def State.withFetchWord (s : State) (nbits w : Nat) : State :=
  match decodeTableWord nbits w with
  | some c => s.withPending (c :: s.pending)
  | none => s

end Sys2Proof.Machine
end

