-- ==== Sys2Proof/WellFormed.lean ====
section
/-! DEFINITION. Which commands the outside can give at all: each check quotes the rule that limits the sender.
The ranges that the part itself checks and answers with RANGE are not here: refusing them is its meaning. -/

namespace Sys2Proof

/-- The craft port has no group address (R172). -/
def Header.wf (h : Header) : Bool := !(h.group && h.port == .craft)

/-- A sub-request's declared length is one byte (R197). -/
def RawSub.wf (r : RawSub) : Bool := r.payload.length ≤ 255

/-- A request payload is at most 247 bytes (R195): the count byte, then 2 bytes and the payload of each. -/
def subsWf (subs : List RawSub) : Bool :=
  subs.all RawSub.wf && 1 + (subs.map fun r => 2 + r.payload.length).sum ≤ 247

/-- The kind codes the part accepts (R197). -/
def acceptedKinds : List Byte :=
  [0x01, 0x02, 0x03, 0x04, 0x05, 0x06, 0x07, 0x08, 0x10, 0x11, 0x12, 0x13, 0x14, 0x15, 0x20, 0x21, 0x22, 0x23,
   0x24, 0x25, 0x30, 0x31, 0x32, 0x33, 0x34, 0x40, 0x41, 0x42, 0x50, 0x51, 0x52]

/-- A header is well formed in every request row; the rows below add their own limits. -/
def Instr.wf : Instr → Bool
  | .ident _ h | .status _ h _ | .setParameter _ h _ _ | .getParameter _ h _ | .saveSettings _ h
  | .restart _ h | .fetchNotices _ h | .lineStart _ h _ | .lineStop _ h _ | .lineProfile _ h _ _ _ _ _ _
  | .lineClear _ h _ | .lineQuery _ h _ _ | .lineEquipEquip _ h _ | .lineEquipUnequip _ h _
  | .flowPut _ h _ _ | .flowPlace _ h _ | .flowDrop _ h _ | .flowFind _ h _ _ _ | .flowRead _ h _
  | .flowClear _ h _ | .testCancel _ h _ | .testResult _ h _ _ | .testList _ h | .testHalt _ h
  | .supply _ h _ | .budgetSet _ h _ _ | .energyQuery _ h | .pointAssign _ h _ _ _ | .pointRead _ h
  | .pointDrive _ h _ _ => h.wf
  | .testOrder _ h _ _ _ _ steps => h.wf && 5 + 15 * steps.length ≤ 247
  | .batch _ (.begin h subs _) => h.wf && subsWf subs
  | .batch _ (.go _ n) => 1 ≤ n
  | .unknownKindRequest _ h kind payload => h.wf && !acceptedKinds.contains kind && payload.length ≤ 247
  | .addressCharacter _ _ c => c.isAddress
  | .bodyCharacter _ _ c => !c.isAddress
  | .upstreamArrival _ _ _ len => frameLengthOk len
  | .downstreamArrival _ _ len => frameLengthOk len
  | .saveWriteEnd _ _ | .breakSeen _ _ | .characterTimeout _ _ | .replySent _ _ | .syncUp _ _ | .syncLost _ _
  | .trainingDeadlineExpiry _ _ | .transceiverTake _ _ | .uplinkTake _ | .holdExpiry _ _ _
  | .schedulerDecision _ | .uplinkStatusReport _ _ | .stepEvent _ | .warmupTimerExpiry _
  | .firstSettleExpiry _ | .secondSettleExpiry _ | .measurementReading _ _ | .hazardCrossing _
  | .releaseSettleExpiry _ | .dwellExpiry _ | .exitSettleExpiry _ | .inputLevelChange _ _ _
  | .debounceExpiry _ _ | .surgeClearExpiry _ | .quietExpiry _ | .powerOn _ | .powerLoss _
  | .resetPinLow _ | .resetPinRelease _ => true

end Sys2Proof
end

