-- ==== Sys2Proof/Safety.lean ====
section
/-! DEFINITION. What the spec says holds of the CL24 at all times, one predicate for each law: the pool's cells and
positions (R25, R28), the flow table (R48), the shed list and withdrawn lines (R12, R20, R151), the energy account
(R150), capacities and ranges, the scheduler (R67), the test bench (R88, R97, R100, R166) and order ids (R104). Before
them, the words in which the statements speak: a port that is ready, a message handed over, an answer, the layouts and
ranges of requests, what flow content and entries must satisfy, what a cabinet point may hold. -/

namespace Sys2Proof.Machine

/-! ### The course of a request (R174, R176, R177) -/

/-- A good message that completes on port p is handed to the dispatcher: the part runs and the port is READY (R176). -/
abbrev Ready (p : PortId) (s : State) : Prop := s.running = true ∧ (s.port p).job = none

/-- The request is addressed to this part alone, not to the group (R172, R181). -/
abbrev Direct (h : Header) : Prop := h.group = false

/-- The port has the rights of the main link, or of the craft port with the door open (R179). -/
abbrev Entitled (p : PortId) (s : State) : Prop := p = .main ∨ s.doorOpen = true

/-- The machine with a good message handed over on port p at time t: the receive state is HUNT, and the port
EXECUTING (R174, R176). -/
def State.taken (t : Nat) (p : PortId) (s : State) : State :=
  ((s.advance t).setRecv p .hunt).setJob p (some .running)

/-- The machine with the reply to a request going out on its port (R176, R177). -/
def State.answers (h : Header) (kind : Byte) (st : Status) (payload : List Byte) (s : State) : State :=
  s.setJob h.port (some (.sending (({ status := st, payload } : Reply).body kind h.tag) false))

/-- The request that a request row carries, with its header; none for BATCH, unknown kinds and the other rows. -/
def requestOf : Instr → Option (Header × Req)
  | .ident _ h => some (h, .ident)
  | .status _ h c => some (h, .status c)
  | .setParameter _ h i v => some (h, .setParameter i v)
  | .getParameter _ h i => some (h, .getParameter i)
  | .saveSettings _ h => some (h, .saveSettings)
  | .restart _ h => some (h, .restart)
  | .fetchNotices _ h => some (h, .fetchNotices)
  | .lineStart _ h l => some (h, .lineStart l)
  | .lineStop _ h l => some (h, .lineStop l)
  | .lineProfile _ h l w k c g p => some (h, .lineProfile l w k c g p)
  | .lineClear _ h l => some (h, .lineClear l)
  | .lineQuery _ h l c => some (h, .lineQuery l c)
  | .lineEquipEquip _ h l => some (h, .lineEquip l 1)
  | .lineEquipUnequip _ h l => some (h, .lineEquip l 0)
  | .flowPut _ h i c => some (h, .flowPut i c)
  | .flowPlace _ h c => some (h, .flowPlace c)
  | .flowDrop _ h i => some (h, .flowDrop i)
  | .flowFind _ h d l g => some (h, .flowFind d l g)
  | .flowRead _ h i => some (h, .flowRead i)
  | .flowClear _ h d => some (h, .flowClear d)
  | .testOrder _ h l i q c st => some (h, .testOrder l i q c st)
  | .testCancel _ h i => some (h, .testCancel i)
  | .testResult _ h d i => some (h, .testResult d i)
  | .testList _ h => some (h, .testList)
  | .testHalt _ h => some (h, .testHalt)
  | .supply _ h v => some (h, .supply v)
  | .budgetSet _ h v b => some (h, .budgetSet v b)
  | .energyQuery _ h => some (h, .energyQuery)
  | .pointAssign _ h p f v => some (h, .pointAssign p f v)
  | .pointRead _ h => some (h, .pointRead)
  | .pointDrive _ h p v => some (h, .pointDrive p v)
  | _ => none

/-! ### The layouts of requests (R184, R195, R196, R197, R199) -/

/-- A two-byte number, least significant byte first (R195). -/
def Half.laid (v : Half) : List Byte := [BitVec.ofNat 8 v.toNat, BitVec.ofNat 8 (v.toNat / 256)]

/-- Flow entry content, 12 bytes: four flags and codes, the two bases, the span exponent, the member set with L0 to L7
in its first byte (R199, R196). -/
def FlowContent.laid (c : FlowContent) : List Byte :=
  [c.kept, c.up, c.down, c.owner] ++ Half.laid c.lineBase ++ Half.laid c.uplinkBase ++
  [c.span, BitVec.ofNat 8 c.members.toNat, BitVec.ofNat 8 (c.members.toNat / 256),
   BitVec.ofNat 8 (c.members.toNat / 65536)]

/-- A step of a TEST ORDER, 15 bytes (R199). -/
def RawStep.laid (x : RawStep) : List Byte :=
  [x.kind] ++ Half.laid x.first ++ Half.laid x.high ++ [x.exp, x.period] ++ Half.laid x.window ++
  [x.lowerPresent] ++ Half.laid x.lower ++ [x.upperPresent] ++ Half.laid x.upper

/-- A sub-request of a BATCH: kind, length, payload (R184, R197). -/
def RawSub.laid (x : RawSub) : List Byte := x.kind :: BitVec.ofNat 8 x.payload.length :: x.payload

/-- The table of R197: the kind code of a request, and its payload byte by byte. -/
def Req.laid : Req → Byte × List Byte
  | .ident => (0x01, [])
  | .status clear => (0x02, [clear])
  | .setParameter id value => (0x03, id :: Half.laid value)
  | .getParameter id => (0x04, [id])
  | .saveSettings => (0x05, [])
  | .restart => (0x06, [])
  | .fetchNotices => (0x07, [])
  | .batch subs => (0x08, BitVec.ofNat 8 subs.length :: subs.flatMap RawSub.laid)
  | .lineStart line => (0x10, [line])
  | .lineStop line => (0x11, [line])
  | .lineProfile line weight keep cost limit park => (0x12, [line, weight, keep, cost, limit, park])
  | .lineClear line => (0x13, [line])
  | .lineQuery line clear => (0x14, [line, clear])
  | .lineEquip line sel => (0x15, [line, sel])
  | .flowPut index content => (0x20, index :: FlowContent.laid content)
  | .flowPlace content => (0x21, FlowContent.laid content)
  | .flowDrop index => (0x22, [index])
  | .flowFind sel line tag => (0x23, sel :: line :: Half.laid tag)
  | .flowRead index => (0x24, [index])
  | .flowClear sel => (0x25, [sel])
  | .testOrder line intr quar clr steps =>
    (0x30, [line, intr, quar, clr, BitVec.ofNat 8 steps.length] ++ steps.flatMap RawStep.laid)
  | .testCancel id => (0x31, [id])
  | .testResult sel id => (0x32, [sel, id])
  | .testList => (0x33, [])
  | .testHalt => (0x34, [])
  | .supply state => (0x40, [state])
  | .budgetSet state budget => (0x41, [state, budget])
  | .energyQuery => (0x42, [])
  | .pointAssign point fn pol => (0x50, [point, fn, pol])
  | .pointRead => (0x51, [])
  | .pointDrive point state => (0x52, [point, state])

/-- The counts and lengths that a request declares fit their one byte (R184, R197, R199). -/
def Declares : Req → Prop
  | .batch subs => subs.length ≤ 255 ∧ ∀ x ∈ subs, x.payload.length ≤ 255
  | .testOrder _ _ _ _ steps => steps.length ≤ 255
  | _ => True

/-! ### The ranges of request fields (R178 check 5, R184, R196) -/

/-- Flags of 0 and 1, and an owner of 0 to 23 or 0x80 (R196). -/
def ContentCodes (c : FlowContent) : Prop :=
  c.kept.toNat ≤ 1 ∧ c.up.toNat ≤ 1 ∧ c.down.toNat ≤ 1 ∧ (c.owner.toNat ≤ 23 ∨ c.owner = 0x80)

/-- A step kind of 0 to 3 and presences of 0 and 1 (R196). -/
def StepCodes (x : RawStep) : Prop := x.kind.toNat ≤ 3 ∧ x.lowerPresent.toNat ≤ 1 ∧ x.upperPresent.toNat ≤ 1

/-- What the dispatcher asks of a request's fields: a line of 0 to 23, a point of 0 to 11, an index of 0 to 63, a tag of
0 to 4095, 1 to 8 sub-requests, an order id other than 0, the listed codes of a named value; the line of a downstream
FLOW FIND and the id of an OLDEST_UNREAD TEST RESULT are ignored (R178, R184, R196, R197). The other fields are judged
by the owning blocks (log 20). -/
def InRange : Req → Prop
  | .status clear => clear.toNat ≤ 1
  | .batch subs => 1 ≤ subs.length ∧ subs.length ≤ 8
  | .lineStart line => line.toNat ≤ 23
  | .lineStop line => line.toNat ≤ 23
  | .lineProfile line _ _ _ _ park => line.toNat ≤ 23 ∧ park.toNat ≤ 1
  | .lineClear line => line.toNat ≤ 23
  | .lineQuery line clear => line.toNat ≤ 23 ∧ clear.toNat ≤ 1
  | .lineEquip line sel => line.toNat ≤ 23 ∧ sel.toNat ≤ 1
  | .flowPut index content => index.toNat ≤ 63 ∧ ContentCodes content
  | .flowPlace content => ContentCodes content
  | .flowDrop index => index.toNat ≤ 63
  | .flowFind sel line tag => sel.toNat ≤ 1 ∧ (sel = 1 ∨ line.toNat ≤ 23) ∧ tag.toNat ≤ 4095
  | .flowRead index => index.toNat ≤ 63
  | .flowClear sel => sel.toNat ≤ 1
  | .testOrder line intr quar clr steps =>
    line.toNat ≤ 23 ∧ intr.toNat ≤ 1 ∧ quar.toNat ≤ 1 ∧ clr.toNat ≤ 1 ∧ ∀ x ∈ steps, StepCodes x
  | .testCancel id => id ≠ 0
  | .testResult sel id => sel.toNat ≤ 1 ∧ (sel = 1 ∨ id ≠ 0)
  | .supply state => state.toNat ≤ 4
  | .budgetSet state _ => state.toNat ≤ 4
  | .pointAssign point fn pol => point.toNat ≤ 11 ∧ fn.toNat ≤ 11 ∧ pol.toNat ≤ 1
  | .pointDrive point state => point.toNat ≤ 11 ∧ state.toNat ≤ 1
  | .ident | .setParameter _ _ | .getParameter _ | .saveSettings | .restart | .fetchNotices | .testList | .testHalt
  | .energyQuery | .pointRead => True

/-- The code of a supply state (R196). -/
def supplyCode : Supply → Byte
  | .unknown => 0
  | .mains => 1
  | .battHigh => 2
  | .battLow => 3
  | .battCrit => 4

/-- The code of a function (R196). -/
def fnCode : PointFn → Byte
  | .unassigned => 0
  | .door => 1
  | .surge => 2
  | .mains => 3
  | .battLow => 4
  | .battCrit => 5
  | .spareIn => 6
  | .testPower => 7
  | .capA => 8
  | .capB => 9
  | .lamp => 10
  | .fan => 11

/-- The code of a polarity (R196). -/
def polarityCode : Polarity → Byte
  | .activeHigh => 0
  | .activeLow => 1

/-- The time at which a command is taken (log 1). -/
def timeOf : Instr → Nat
  | .ident t _ | .status t _ _ | .setParameter t _ _ _ | .getParameter t _ _ | .saveSettings t _
  | .saveWriteEnd t _ | .restart t _ | .fetchNotices t _ | .batch t _ | .unknownKindRequest t _ _ _
  | .lineStart t _ _ | .lineStop t _ _ | .lineProfile t _ _ _ _ _ _ _ | .lineClear t _ _ | .lineQuery t _ _ _
  | .lineEquipEquip t _ _ | .lineEquipUnequip t _ _ | .flowPut t _ _ _ | .flowPlace t _ _ | .flowDrop t _ _
  | .flowFind t _ _ _ _ | .flowRead t _ _ | .flowClear t _ _ | .testOrder t _ _ _ _ _ _ | .testCancel t _ _
  | .testResult t _ _ _ | .testList t _ | .testHalt t _ | .supply t _ _ | .budgetSet t _ _ _ | .energyQuery t _
  | .pointAssign t _ _ _ _ | .pointRead t _ | .pointDrive t _ _ _ | .addressCharacter t _ _ | .bodyCharacter t _ _
  | .breakSeen t _ | .characterTimeout t _ | .replySent t _ | .syncUp t _ | .syncLost t _
  | .trainingDeadlineExpiry t _ | .upstreamArrival t _ _ _ | .downstreamArrival t _ _ | .transceiverTake t _
  | .uplinkTake t | .holdExpiry t _ _ | .schedulerDecision t | .uplinkStatusReport t _ | .stepEvent t
  | .warmupTimerExpiry t | .firstSettleExpiry t | .secondSettleExpiry t | .measurementReading t _
  | .hazardCrossing t | .releaseSettleExpiry t | .dwellExpiry t | .exitSettleExpiry t | .inputLevelChange t _ _
  | .debounceExpiry t _ | .surgeClearExpiry t | .quietExpiry t | .powerOn t | .powerLoss t | .resetPinLow t
  | .resetPinRelease t => t

/-! ### The words of the flow table (R43, R45, R48, R49) -/

/-- Content that R49 does not refuse, under an equipped set: span, bases, directions, owner and member set. -/
def ContentFits (equipped : LineNo → Bool) (c : FlowContent) : Prop :=
  c.span.toNat ≤ 6 ∧ c.lineBase.toNat ≤ 4095 ∧ c.uplinkBase.toNat ≤ 4095 ∧
  2 ^ c.span.toNat ∣ c.lineBase.toNat ∧ 2 ^ c.span.toNat ∣ c.uplinkBase.toNat ∧ (c.up = 1 ∨ c.down = 1) ∧
  ((∃ l, c.owner = lineByte l ∧ equipped l = true ∧ c.members = 0) ∨
    (c.owner = 0x80 ∧ c.down = 1 ∧ c.members ≠ 0 ∧ ∀ l, LineSet.has c.members l = true → equipped l = true) ∨
    (c.owner = 0x80 ∧ c.down ≠ 1 ∧ c.members = 0))

/-- The owner that a content's owner byte names: a line, or 0x80 for SHARED (R196). -/
def OwnerNamed (c : FlowContent) (o : Owner) : Prop :=
  (∃ l, c.owner = lineByte l ∧ o = .line l) ∨ (c.owner = 0x80 ∧ o = .shared)

/-- The entry that content with a known owner makes: its fields, match counts 0 (R47, R50). -/
def FlowContent.written (o : Owner) (c : FlowContent) : FlowEntry :=
  { kept := c.kept == 1, owner := o, lineBase := c.lineBase.toNat, uplinkBase := c.uplinkBase.toNat,
    spanExp := c.span.toNat, up := c.up == 1, down := c.down == 1, members := c.members, matchUp := 0, matchDown := 0 }

/-- Two entries overlap, upstream or downstream (R48). -/
def EntriesMeet (e f : FlowEntry) : Prop :=
  (e.up = true ∧ f.up = true ∧ (e.owner = f.owner ∨ e.owner = .shared ∨ f.owner = .shared) ∧
    e.lineBase < f.lineBase + 2 ^ f.spanExp ∧ f.lineBase < e.lineBase + 2 ^ e.spanExp) ∨
  (e.down = true ∧ f.down = true ∧ e.uplinkBase < f.uplinkBase + 2 ^ f.spanExp ∧
    f.uplinkBase < e.uplinkBase + 2 ^ e.spanExp)

/-! ### The words of the cabinet points (R159, R160) -/

/-- The input functions of R160's table. -/
def inputFns : List PointFn := [.door, .surge, .mains, .battLow, .battCrit, .spareIn]

/-- The output functions of R160's table. -/
def outputFns : List PointFn := [.testPower, .capA, .capB, .lamp, .fan]

/-- What a point's group permits: CP0 and CP1 the input functions, CP2 and CP3 those but SURGE, CP4 to CP7 all but
SURGE, CP8 to CP11 the output functions, and NONE on every point (R160). -/
def Permits (p : PointNo) (f : PointFn) : Prop :=
  f = .unassigned ∨ (p.val < 2 ∧ f ∈ inputFns) ∨ (2 ≤ p.val ∧ p.val < 4 ∧ f ∈ inputFns ∧ f ≠ .surge) ∨
  (4 ≤ p.val ∧ p.val < 8 ∧ f ≠ .surge) ∨ (8 ≤ p.val ∧ f ∈ outputFns)

/-- The point is the one that holds a function, the lowest where more than one does, which no run reaches (R161). -/
def Holds (s : State) (f : PointFn) (p : PointNo) : Prop := (s.point p).fn = f ∧ ∀ q, q < p → (s.point q).fn ≠ f

/-- A point with this function drives its terminal: CP8 to CP11, and CP4 to CP7 with an output function (R159). -/
def Drives (p : PointNo) (f : PointFn) : Prop := 8 ≤ p.val ∨ (4 ≤ p.val ∧ f ∈ outputFns)

/-! ### The buffer pool (R25 to R28, R38) -/

/-- The number of queue positions that a frame handle stands in (R28). -/
def State.positions (s : State) (id : Nat) : Nat :=
  (s.hold.map Held.frame).count id + (allLines.map fun l => s.sched.ingress[l].count id).sum
  + s.sched.launch.count id + (allLines.map fun l => s.egress[l].count id).sum

/-- The pool's laws: free cells and the cells of the records make 768 (R25), a record's cells follow from its length
(R26, R27), its reference count is the number of its positions and is not 0 (R28), every position is of a record, and
a held frame stands in the hold list once (R38). `fresh` and `distinct` are the model's handles (log 6). -/
structure PoolOk (s : State) : Prop where
  conserved : s.pool.free + (s.pool.frames.map fun e => e.2.cells).sum = Config.poolCells
  distinct : (s.pool.frames.map Prod.fst).Nodup
  fresh : ∀ e ∈ s.pool.frames, e.1 < s.pool.nextId
  sized : ∀ e ∈ s.pool.frames, e.2.cells = cellsFor e.2.length ∧ 64 ≤ e.2.length ∧ e.2.length ≤ 1536
  counted : ∀ e ∈ s.pool.frames, e.2.refs = s.positions e.1 ∧ 1 ≤ e.2.refs
  recorded : ∀ id, 0 < s.positions id → ∃ e ∈ s.pool.frames, e.1 = id
  heldOnce : (s.hold.map Held.frame).Nodup

/-! ### The flow table (R48) -/

/-- No line and tag is matched upstream by two entries, and no uplink tag downstream by two (R48). -/
structure FlowsOk (s : State) : Prop where
  up : ∀ (l : LineNo) (tag : Nat) (j k : FlowIdx) (e f : FlowEntry), s.flows[j] = some e → s.flows[k] = some f →
    e.matchesUp l tag = true → f.matchesUp l tag = true → j = k
  down : ∀ (tag : Nat) (j k : FlowIdx) (e f : FlowEntry), s.flows[j] = some e → s.flows[k] = some f →
    e.matchesDown tag = true → f.matchesDown tag = true → j = k

/-! ### Lines, shed list and withdrawals (R12, R13, R20, R151) -/

/-- The shed list holds each SHED line once and no other (R151), the WITHDRAWN line is the current order's (R12, R13),
and every line that a flow entry or a queued order names is equipped (R20). -/
structure LinesOk (s : State) : Prop where
  shedOnce : s.energy.shed.Nodup
  shedExactly : ∀ l, l ∈ s.energy.shed ↔ (s.line l).state = .shed
  withdrawnExactly : ∀ l, (s.line l).state.kind = .withdrawn ↔ ∃ c, s.engine.current = some c ∧ c.order.line = l
  equippedNames : ∀ l, s.referenced l = true → s.equipped l = true

/-! ### The energy account (R142, R149, R150) -/

/-- Committed consumption is within the budget in force, except in an exit that is energy held, and then by at most 6
(R150); the cap class lies between 1 and the ceiling, and the budgets in their range (R142, R149). -/
structure EnergyOk (s : State) : Prop where
  cap : 1 ≤ s.energy.cap ∧ s.energy.cap ≤ s.params.capCeiling ∧ s.params.capCeiling ≤ 4
  budgets : ∀ st, 4 ≤ s.energy.budgets.of st ∧ s.energy.budgets.of st ≤ 255
  within : s.committed ≤ s.budget ∨ (s.energyHeld = true ∧ s.committed ≤ s.budget + Config.engineCost)

/-! ### Capacities and ranges -/

/-- The fault counts of a port saturate at 65535 (R171). -/
structure FaultsOk (c : FaultCounts) : Prop where
  char : c.char ≤ Config.faultLimit
  check : c.check ≤ Config.faultLimit
  length : c.length ≤ Config.faultLimit
  timeout : c.timeout ≤ Config.faultLimit
  brk : c.brk ≤ Config.faultLimit
  overlap : c.overlap ≤ Config.faultLimit
  group : c.group ≤ Config.faultLimit

/-- The main link rates of R190. -/
def linkRates : List Nat := [9600, 19200, 38400, 115200]

/-- Every list stays within its capacity and every setting and count within its range: R1, R2, R33, R30, R36, R58,
R105, R123, R171, R186, R190. -/
structure RangesOk (s : State) : Prop where
  notices : s.notices.queue.length ≤ 32
  lost : s.notices.lost ≤ 255
  orders : s.engine.queue.length ≤ 8
  results : s.engine.results.length ≤ 16
  launch : s.sched.launch.length ≤ 4
  hold : s.hold.length ≤ 8
  egress : ∀ l : LineNo, s.egress[l].length ≤ 24
  ingress : ∀ l : LineNo, s.sched.ingress[l].length ≤ 48
  fails : ∀ l, (s.line l).failCount ≤ 7
  profiles : ∀ l, profileOk (s.line l).profile.weight (s.line l).profile.keep (s.line l).profile.cost
    (s.line l).profile.limit = true
  params : ∀ id ∈ paramIds, paramOk id (s.params.get id) = true
  rate : s.params.rate ∈ linkRates
  dropInForce : 1 ≤ s.ports.dropInForce ∧ s.ports.dropInForce ≤ 30
  rateInForce : s.ports.rateInForce ∈ linkRates
  mainFaults : FaultsOk s.ports.main.faults
  craftFaults : FaultsOk s.ports.craft.faults

/-! ### The share scheduler (R67 to R73) -/

/-- The active list holds exactly the lines whose ingress queue is not empty, each once (R67, R68); a line not listed
has deficit 0, a line that waits for its turn less than one largest frame, and the current line at most 4607 (R67). -/
structure SchedOk (s : State) : Prop where
  listedOnce : s.sched.active.Nodup
  listedExactly : ∀ l : LineNo, l ∈ s.sched.active ↔ s.sched.ingress[l] ≠ []
  unlisted : ∀ l : LineNo, l ∉ s.sched.active → s.sched.deficit[l] = 0
  waiting : ∀ l ∈ s.sched.active.tail, s.sched.deficit[l] ≤ 1535
  current : ∀ l ∈ s.sched.active.head?, s.sched.deficit[l] ≤ 4607

/-! ### The test bench (R87, R97, R100, R112, R113, R118, R129, R166) -/

/-- The generator stands at rest with drive OFF and no step event due (R96, R100). -/
structure GenAtRest (g : Generator) : Prop where
  code : g.code = Config.restCode
  drive : g.drive = false
  program : g.program = .rest
  motion : g.motion = .settled
  noStep : g.next = none

/-- The driver acts on the pair through the closed test relay of the line under test. -/
structure Driving (s : State) : Prop where
  drive : s.gen.drive = true
  bus : s.onBus = true

/-- What the phase of the current order says of the generator and of the test relay. -/
def phaseOk (s : State) : Phase → Prop
  | .warmup _ => GenAtRest s.gen ∧ s.onBus = false
  | .firstSettle _ => GenAtRest s.gen ∧ s.onBus = false
  | .secondSettle _ => GenAtRest s.gen ∧ s.onBus = true
  | .foreign _ => Driving s ∧ s.gen.program = .rest
  | .step _ _ => Driving s
  | .releaseRamp => Driving s ∧ s.gen.program = .rest
  | .releaseSettle _ => GenAtRest s.gen ∧ s.onBus = false
  | .exit x =>
    match x.stage with
    | .ramp => Driving s ∧ s.gen.program = .rest
    | .dwell _ => GenAtRest s.gen ∧ s.onBus = true
    | .settle _ => GenAtRest s.gen ∧ s.onBus = false

/-- Test power is requested exactly while an order is current (R112, R118, R136, R166); with no current order the
generator is at rest with drive OFF (R99, R100); with one, its phase decides. -/
structure BenchOk (s : State) : Prop where
  power : s.points.testPower = s.engine.current.isSome
  idle : s.engine.current = none → GenAtRest s.gen
  phase : ∀ c, s.engine.current = some c → phaseOk s c.phase

/-! ### Order ids (R104) -/

/-- The ids in use: of the queue, of the current order and of the result store (R104). -/
def Engine.ids (e : Engine) : List Nat :=
  e.queue.map TestOrder.id ++ (e.current.map fun c => c.order.id).toList ++ e.results.map Result.id

/-- Order ids are distinct across the queue, the current order and the result store, and are 1 to 255 (R104). -/
structure IdsOk (s : State) : Prop where
  distinct : s.engine.ids.Nodup
  range : ∀ id ∈ s.engine.ids, 1 ≤ id ∧ id ≤ 255
  last : s.engine.lastId ≤ 255

end Sys2Proof.Machine
end

