-- ==== Sys2Proof/Certificates/Slice0/Obligations.lean ====
section
/-! DEFINITION. The statements for the provers, by family: the step and the queue, the ports and the dispatcher,
settings and restart, lines, flows, traffic, tests, energy, points, power, and the laws that every step keeps. A
command's statement gives the whole next state, so that everything it does not name is unchanged. -/

section
open Sys2Proof Sys2Proof.Machine

/-! ### The step and the queue -/

/-- Step is exec of the command at the front of the queue on the state with the queue's rest (log 2). -/
def Obligations.StepRunsFrontCommand : Prop :=
  ∀ (c : Instr) (rest : List Instr) (s : State),
    step { s with pending := c :: rest } = exec c { s with pending := rest }

/-- An empty queue idles; exec leaves the queue alone and never turns time back; and exec answers a next state for
every command but an arrival of fewer than 64 or more than 1536 bytes, which faults (R26; log 1, 2, 14). -/
def Obligations.EveryCommandCompletes : Prop :=
  (∀ s : State, s.pending = [] → step s = .next s) ∧
  (∀ (c : Instr) (s u : State), exec c s = .next u → u.pending = s.pending ∧ u.now = max s.now (timeOf c)) ∧
  (∀ (t : Nat) (l : LineNo) (tag : Fin 4096) (len : Nat) (s : State), ¬(64 ≤ len ∧ len ≤ 1536) →
    exec (.upstreamArrival t l tag len) s = .fault .frameNeverPresented ∧
    exec (.downstreamArrival t tag len) s = .fault .frameNeverPresented) ∧
  (∀ (c : Instr) (s : State),
    (∀ t l tag len, c = .upstreamArrival t l tag len → 64 ≤ len ∧ len ≤ 1536) →
    (∀ t tag len, c = .downstreamArrival t tag len → 64 ≤ len ∧ len ≤ 1536) → ∃ u, exec c s = .next u)

/-- A stopped part takes no event (R193): a command other than power, pin and input level moves the time alone, an
input level is recorded on its terminal alone (log 18); and its outputs are safe. That it asks the uplink for nothing
is the model's choice (log 31). -/
def Obligations.StoppedPart : Prop :=
  (∀ (c : Instr) (s : State), s.running = false → c.wf = true →
    (∀ t, c ≠ .powerOn t) → (∀ t, c ≠ .powerLoss t) → (∀ t, c ≠ .resetPinLow t) → (∀ t, c ≠ .resetPinRelease t) →
    (∀ t p v, c ≠ .inputLevelChange t p v) → exec c s = .next (s.advance (timeOf c))) ∧
  (∀ (t : Nat) (p : PointNo) (v : Level) (s : State), s.running = false →
    exec (.inputLevelChange t p v) s = .next ((s.advance t).setPoint p fun r => { r with input := v })) ∧
  (∀ s : State, s.running = false →
    (∀ l, s.transceiverPower l = false ∧ s.serviceRelay l = false ∧ s.testRelay l = false ∧
      s.signatureSwitch l = false) ∧
    s.stimulusCode = 2048 ∧ s.driveEnable = false ∧ (∀ p, s.terminal p = none) ∧ s.attnLow = false ∧
    s.asksUplink = false)

/-- The state after reset: a start with cause POWER at time 0 under the factory defaults, which the model takes
because its store holds no image (log 9, 10, 23); the values are those of the start rules of each block (R24, R41,
R65, R66, R76, R82, R100, R128, R158, R169, R188, R190, R194). -/
def Obligations.ResetState : Prop :=
  let r := State.reset
  r.running = true ∧ r.pending = [] ∧
  (∀ l, r.line l = { state := .idle, profile := { weight := 4, keep := 1, cost := 3, limit := 16, park := .open },
                     failCount := 0, counters := Counters.zero }) ∧
  r.pool.free = 768 ∧ r.pool.frames = [] ∧ r.pool.uplinkDrops = 0 ∧
  (∀ l : LineNo, r.egress[l] = [] ∧ r.sched.ingress[l] = [] ∧ r.sched.deficit[l] = 0) ∧ r.sched.active = [] ∧
  r.sched.launch = [] ∧ r.hold = [] ∧ (∀ k : FlowIdx, r.flows[k] = none) ∧ r.uplink.status = none ∧
  r.asksUplink = true ∧
  r.gen = { code := 2048, drive := false, program := .rest, exp := 0, period := 1, motion := .settled,
            sine := none, dir := none, next := none } ∧
  r.engine = { queue := [], current := none, results := [], lastId := 0 } ∧
  r.energy = { supply := .unknown, source := .start,
               budgets := { mains := 255, battHigh := 90, battLow := 50, battCrit := 20 }, cap := 4, shed := [] } ∧
  r.committed = 16 ∧ r.budget = 50 ∧ r.points.surge = .calm ∧ r.points.testPower = false ∧ r.doorOpen = false ∧
  (∀ p, (r.point p).fn = .unassigned ∧ (r.point p).polarity = .activeHigh ∧ (r.point p).debounced = none ∧
    (r.point p).window = (if p.val < 8 then some 20000 else none)) ∧
  r.ports = { main := PortRec.fresh, craft := PortRec.fresh, dropInForce := 7, rateInForce := 19200 } ∧
  r.notices = { queue := [.start .power .defaulted], lost := 0 } ∧ r.attnLow = true ∧
  r.params = { drop := 7, rate := 19200, charTimeout := 20, holdTime := 1000, trainTimeout := 90, failLimit := 3,
               hazardLimit := 60, exitMode := .ramp, quietTime := 5, capCeiling := 4 } ∧
  r.status = .defaulted ∧ r.cause = .power

/-! ### Characters, breaks and replies -/

/-- ADDRESS_CHARACTER on a port that receives: a partial message in TAKE is abandoned with TIMEOUT; an address of the
part starts a partial message, any other sends the port to SKIP (R172, R173, R175; log 16). The craft port receives
while the part runs, the main link while the part runs and it sends no reply; a character at a main link that does
send one is not taken (R176). -/
def Obligations.AddressCharacter : Prop :=
  (∀ s : State, s.receiving .craft = s.running ∧
    (s.receiving .main = true ↔
      s.running = true ∧ ∀ body restart, s.ports.main.job ≠ some (.sending body restart))) ∧
  (∀ (t : Nat) (c : SerialChar) (body : List Byte) (restart : Bool) (s : State), s.running = true →
    s.ports.main.job = some (.sending body restart) → exec (.addressCharacter t .main c) s = .next (s.advance t)) ∧
  ∀ (t : Nat) (p : PortId) (c : SerialChar) (s : State), s.receiving p = true → c.isAddress = true →
    let a := s.advance t
    let b := match (s.port p).recv with
      | .take _ => a.countFault p .timeout
      | _ => a
    exec (.addressCharacter t p c) s = .next
      (if p = .craft ∨ c.data.toNat = s.ports.dropInForce ∨ c.data.toNat = 31 then
        b.setRecv p (.take { addr := c.data, group := p == .main && c.data.toNat == 31, body := [], expected := none,
                             damaged := false, last := max s.now t, wait := 1000 * s.params.charTimeout })
       else b.setRecv p .skip)

/-- BODY_CHARACTER, a body or damaged character, on a port that receives: ignored in HUNT and SKIP; in TAKE the first
is the LEN byte, 3 to 250 or else LENGTH and SKIP; a later one that does not complete the message is added (R173,
R174). At a main link that sends a reply it is not taken (R176). -/
def Obligations.BodyCharacterTaken : Prop :=
  (∀ (t : Nat) (c : SerialChar) (body : List Byte) (restart : Bool) (s : State), s.running = true →
    s.ports.main.job = some (.sending body restart) → exec (.bodyCharacter t .main c) s = .next (s.advance t)) ∧
  ∀ (t : Nat) (p : PortId) (c : SerialChar) (s : State), s.receiving p = true → c.isAddress = false →
    let a := s.advance t
    let add (m : Partial) : Partial :=
      { m with body := m.body ++ [c.data], damaged := m.damaged || c.damaged, last := max s.now t,
               wait := 1000 * s.params.charTimeout }
    ((s.port p).recv = .hunt ∨ (s.port p).recv = .skip → exec (.bodyCharacter t p c) s = .next a) ∧
    (∀ m, (s.port p).recv = .take m → m.expected = none →
      exec (.bodyCharacter t p c) s = .next
        (if 3 ≤ c.data.toNat ∧ c.data.toNat ≤ 250 then
          a.setRecv p (.take { add m with expected := some (c.data.toNat + 1) })
         else (a.countFault p .length).setRecv p .skip)) ∧
    (∀ m n, (s.port p).recv = .take m → m.expected = some n → m.body.length + 1 ≠ n →
      exec (.bodyCharacter t p c) s = .next (a.setRecv p (.take (add m))))

/-- BODY_CHARACTER that completes a message (R174): damaged counts CHAR, a body that does not sum to 0 counts CHECK,
and a good one is handed over exactly as the same request is by its own row (log 4); of a BATCH no sub-request is
taken in this event, and the row BATCH takes each (R185; log 5). -/
def Obligations.BodyCharacterCompletes : Prop :=
  ∀ (t : Nat) (p : PortId) (c : SerialChar) (s : State) (m : Partial), s.receiving p = true → c.isAddress = false →
    (s.port p).recv = .take m → m.expected = some (m.body.length + 1) →
    let a := s.advance t
    (m.damaged = true ∨ c.damaged = true →
      exec (.bodyCharacter t p c) s = .next ((a.setRecv p .hunt).countFault p .char)) ∧
    (m.damaged = false → c.damaged = false → (m.body ++ [c.data]).sum ≠ 0 →
      exec (.bodyCharacter t p c) s = .next ((a.setRecv p .hunt).countFault p .check)) ∧
    (∀ len kind tag payload, m.damaged = false → c.damaged = false → (m.body ++ [c.data]).sum = 0 →
      m.body = len :: kind :: tag :: payload → (p = .craft → m.group = false) →
      exec (.bodyCharacter t p c) s =
        .next (a.message { port := p, group := m.group, tag } kind (parse kind payload) 0))

/-- BREAK on a port that receives ends a partial message with the BREAK count, and SKIP without a count (R173, R175);
CHARACTER_TIMEOUT ends one with TIMEOUT once more than its wait has passed since its last character (R175; log 3).
That a main link which sends a reply takes no break either is the model's choice (log 17). -/
def Obligations.BreakAndTimeout : Prop :=
  (∀ (t : Nat) (body : List Byte) (restart : Bool) (s : State), s.running = true →
    s.ports.main.job = some (.sending body restart) → exec (.breakSeen t .main) s = .next (s.advance t)) ∧
  ∀ (t : Nat) (p : PortId) (s : State),
    let a := s.advance t
    (s.receiving p = true →
      exec (.breakSeen t p) s = .next
        (match (s.port p).recv with
         | .hunt => a
         | .skip => a.setRecv p .hunt
         | .take _ => (a.countFault p .brk).setRecv p .hunt)) ∧
    (s.running = true →
      exec (.characterTimeout t p) s = .next
        (match (s.port p).recv with
         | .take m => if m.last + m.wait < max s.now t then (a.countFault p .timeout).setRecv p .hunt else a
         | _ => a))

/-- REPLY_SENT (R176, R190, R193): the port is READY; the main link is in HUNT with the pending drop address and rate
in force; the reply of an answered RESTART starts the part; with no reply going out nothing ends. -/
def Obligations.ReplyEnds : Prop :=
  ∀ (t : Nat) (s : State), s.running = true →
    let a := s.advance t
    (∀ body, s.ports.main.job = some (.sending body false) →
      exec (.replySent t .main) s = .next
        { a with ports := { s.ports with
            main := { s.ports.main with recv := .hunt, job := none }
            dropInForce := s.params.drop, rateInForce := s.params.rate } }) ∧
    (∀ body, s.ports.craft.job = some (.sending body false) →
      exec (.replySent t .craft) s =
        .next { a with ports := { s.ports with craft := { s.ports.craft with job := none } } }) ∧
    (∀ p body, (s.port p).job = some (.sending body true) → exec (.replySent t p) s = .next (a.start .request)) ∧
    (∀ p, (∀ body restart, (s.port p).job ≠ some (.sending body restart)) → exec (.replySent t p) s = .next a)

/-- The body of a reply (R177): LEN counts the bytes after itself, KIND and TAG are echoed, and all bytes sum to 0; as
its transmission begins on the main link, a partial message in TAKE there is discarded with OVERLAP (R176). Every byte
of it is sent as one undamaged body character: mark 0, even parity, stop bit high, in twelve bit times (R170, R195).
And the status codes (R197). -/
def Obligations.ReplyBegins : Prop :=
  (∀ (kind tag : Byte) (st : Status) (payload : List Byte), payload.length ≤ 251 →
    ∃ check, Reply.body kind tag { status := st, payload } =
        BitVec.ofNat 8 (payload.length + 4) :: kind :: tag :: st.code :: payload ++ [check] ∧
      (Reply.body kind tag { status := st, payload }).sum = 0) ∧
  (∀ (p : PortId) (body : List Byte) (restart : Bool) (s : State),
    s.transmit p body restart =
      (match p, s.ports.main.recv with
       | .main, .take _ =>
         { s with ports := { s.ports with main :=
             { recv := .hunt, job := some (.sending body restart), faults := s.ports.main.faults.add .overlap } } }
       | _, _ => s.setJob p (some (.sending body restart))) ∧
    (s.transmit p body restart).sentChars p = body.map sentChar) ∧
  (∀ b : Byte,
    let c := sentChar b
    c.data = b ∧ c.mark = false ∧ c.stop = true ∧ c.damaged = false ∧
    c.bits = [false, b.getLsbD 0, b.getLsbD 1, b.getLsbD 2, b.getLsbD 3, b.getLsbD 4, b.getLsbD 5, b.getLsbD 6,
      b.getLsbD 7, false, c.parity, true] ∧
    ((c.bits.drop 1).take 10).count true % 2 = 0) ∧
  ([.ok, .denied, .unknown, .length, .range, .state, .full, .overlap, .notFound, .budget, .stopped, .storeFail] :
      List Status).map Status.code = [0, 1, 2, 3, 4, 5, 6, 7, 8, 9, 10, 11]

/-! ### The dispatcher -/

/-- A good message that completes while its port is EXECUTING is discarded with OVERLAP, its port going to HUNT, and
nothing else happens (R176), for every request row, BATCH and unknown kinds included. That a main link which transmits
does not receive a whole message either is the model's choice (log 17). -/
def Obligations.MessageWhileExecuting : Prop :=
  ∀ (c : Instr) (h : Header) (s : State), s.running = true → (s.port h.port).job ≠ none →
    ((∃ r, requestOf c = some (h, r)) ∨ (∃ t subs n, c = .batch t (.begin h subs n)) ∨
      (∃ t kind payload, c = .unknownKindRequest t h kind payload)) →
    let a := s.advance (timeOf c)
    exec c s = .next
      (if h.port = .main ∧ s.transmitting .main = true then a
       else (a.setRecv h.port .hunt).countFault h.port .overlap)

/-- The dispatcher's refusals on a READY port (R177, R178): UNKNOWN for a kind it does not accept, LENGTH for a
payload that does not fit the kind's layout, DENIED for a kind the port may not use, RANGE for a field out of range;
each is answered with an empty payload and changes nothing else. What the two ports may use, with the door open and
shut, is the permission table (R179). And the layouts and ranges themselves: a request is read from exactly the kind
and payload that the table lays it out as (R184, R195, R197, R199), another payload of an accepted kind is LENGTH, and
the fields in range are those of InRange (R178, R196); which fields the dispatcher judges and which it leaves to the
owning block is the model's reading (log 20). -/
def Obligations.DispatcherChecks : Prop :=
  (∀ (t : Nat) (h : Header) (kind : Byte) (payload : List Byte) (s : State), Ready h.port s → Direct h →
    (acceptedKinds.contains kind = false →
      exec (.unknownKindRequest t h kind payload) s = .next ((s.taken t h.port).answers h kind .unknown [])) ∧
    (parse kind payload = .badLength →
      (s.advance t).message h kind (parse kind payload) 0 = (s.taken t h.port).answers h kind .length [])) ∧
  (∀ (c : Instr) (h : Header) (r : Req) (s : State), requestOf c = some (h, r) → Ready h.port s → Direct h →
    (permitted h.port s.doorOpen r = false →
      exec c s = .next ((s.taken (timeOf c) h.port).answers h (reqKind r) .denied [])) ∧
    (permitted h.port s.doorOpen r = true → fieldsOk r = false →
      exec c s = .next ((s.taken (timeOf c) h.port).answers h (reqKind r) .range []))) ∧
  (∀ (door : Bool) (r : Req), permitted .main door r = true ∧ (permitted .craft false r = true ↔ r = .ident) ∧
    (permitted .craft true r = true ↔
      (Req.laid r).1 ∈ ([0x01, 0x02, 0x06, 0x08, 0x10, 0x11, 0x13, 0x14, 0x23, 0x24, 0x30, 0x31, 0x32, 0x33, 0x42, 0x51] :
        List Byte) ∧ r ≠ .status 1 ∧ ∀ l, r ≠ .lineQuery l 1)) ∧
  (∀ r : Req, reqKind r = (Req.laid r).1 ∧ (Declares r → parse (Req.laid r).1 (Req.laid r).2 = .req r) ∧
    (fieldsOk r = true ↔ InRange r)) ∧
  (∀ (kind : Byte) (payload : List Byte),
    (∀ r, parse kind payload = .req r → Declares r ∧ Req.laid r = (kind, payload)) ∧
    (acceptedKinds.contains kind = true ↔ ∃ r : Req, (Req.laid r).1 = kind) ∧
    (parse kind payload = .unknown ↔ acceptedKinds.contains kind = false))

/-- Group messages on a READY main link (R181; log 12): no reply is sent and the port is READY after; a kind other
than SUPPLY, TEST HALT and RESTART, BATCH included (R184), a kind the part does not accept, a length that does not fit
its kind, or a SUPPLY whose state is refused, is discarded and counted GROUP. -/
def Obligations.GroupMessages : Prop :=
  let discarded (u : State) : State := (u.countFault .main .group).setJob .main none
  (∀ (c : Instr) (tag : Byte) (r : Req) (s : State),
    requestOf c = some ({ port := .main, group := true, tag }, r) → Ready .main s →
    let u := s.taken (timeOf c) .main
    ((∀ v, r ≠ .supply v) → r ≠ .testHalt → r ≠ .restart → exec c s = .next (discarded u)) ∧
    (∀ v, r = .supply v → v = 0 ∨ 4 < v.toNat → exec c s = .next (discarded u)) ∧
    (∀ v new, r = .supply v → new ≠ .unknown → v = supplyCode new →
      exec c s = .next ((u.setSupply new .request).setJob .main none)) ∧
    (r = .testHalt → exec c s = .next (u.testHalt.2.setJob .main none)) ∧
    (r = .restart → exec c s = .next (u.start .request))) ∧
  (∀ (t : Nat) (tag kind : Byte) (payload : List Byte) (subs : List RawSub) (n : Nat) (s : State), Ready .main s →
    let h : Header := { port := .main, group := true, tag }
    let u := s.taken t .main
    exec (.batch t (.begin h subs n)) s = .next (discarded u) ∧
    (acceptedKinds.contains kind = false →
      exec (.unknownKindRequest t h kind payload) s = .next (discarded u)) ∧
    (parse kind payload = .badLength → (s.advance t).message h kind (parse kind payload) 0 = discarded u))

/-! ### Reports, parameters, notices, settings -/

/-- IDENT, from either port with or without the door (R179, R194; log 21), and the reports STATUS and LINE QUERY
without their clear option, FLOW READ, TEST LIST, ENERGY QUERY, POINT READ and GET PARAMETER: each is answered OK with
its record as it stands, and changes nothing but its port (R22, R55, R106, R157, R167, R183, R190). The clear options
report, then set both ports' fault counts and the uplink drop count, or the line's counters, to 0. And the records
field by field, in the layouts and codes of chapter 12 (R196, R198, R199, R200), with their lengths: 74, 76, 22 and 11
bytes, 18 and one for each shed line, 89, 37 for a result and 6 for a notice. The revision 3 is the model's reading of
the example of R195 (log 21), and that a time past due reads 0 its choice (log 27). -/
def Obligations.Reports : Prop :=
  let b (n : Nat) : Byte := BitVec.ofNat 8 n
  let n2 (n : Nat) : List Byte := [b n, b (n / 256)]
  let n4 (n : Nat) : List Byte := [b n, b (n / 256), b (n / 65536), b (n / 16777216)]
  let flag (x : Bool) : Byte := if x then 1 else 0
  let opt (x : Option Byte) : Byte := x.getD 0xFF
  let origin (p : PortId) : Byte := if p = .main then 0 else 1
  let class_ (c : Option RateClass) : Byte := match c with
    | none => 0xFF
    | some .one => 1
    | some .two => 2
    | some .three => 3
    | some .four => 4
  let quar (q : QCause) : Byte := if q = .test then 0 else 1
  let kind (st : LineKind) : Byte := match st with
    | .unequipped => 0
    | .idle => 1
    | .training => 2
    | .inService => 3
    | .withdrawn => 4
    | .shed => 5
    | .quarantined => 6
  let supply (st : Supply) : Byte := match st with
    | .unknown => 0
    | .mains => 1
    | .battHigh => 2
    | .battLow => 3
    | .battCrit => 4
  let source (x : SupplySource) : Byte := match x with
    | .start => 0
    | .inputs => 1
    | .request => 2
    | .budget => 3
  let fn (f : PointFn) : Byte := match f with
    | .unassigned => 0
    | .door => 1
    | .surge => 2
    | .mains => 3
    | .battLow => 4
    | .battCrit => 5
    | .spareIn => 6
    | .testPower => 7
    | .capA => 8
    | .capB => 9
    | .lamp => 10
    | .fan => 11
  let outcome (x : TestOutcome) : Byte := match x with
    | .pass => 0
    | .fail => 1
    | .hazard => 2
    | .aborted => 3
    | .refused => 4
  let cause (x : Cause) : Byte := match x with
    | .inService => 0
    | .hazard => 1
    | .surge => 2
    | .cancel => 3
    | .halt => 4
    | .door => 5
    | .energy => 6
  let settings (x : SettingsStatus) : Byte := if x = .good then 0 else 1
  let started (x : StartCause) : Byte := match x with
    | .power => 0
    | .pin => 1
    | .request => 2
  (∀ u : State,
    let port (p : PortRec) : List Byte :=
      [match p.recv with
        | .hunt => 0
        | .take _ => 1
        | .skip => 2, flag p.job.isSome] ++ n2 p.faults.char ++ n2 p.faults.check ++ n2 p.faults.length ++
      n2 p.faults.timeout ++ n2 p.faults.brk ++ n2 p.faults.overlap ++ n2 p.faults.group
    let current : Nat := match u.sched.active with
      | l :: _ => u.sched.deficit[l]
      | [] => 0
    u.statusBytes = n2 u.pool.free ++ n2 u.pool.frames.length ++ [b u.sched.launch.length, b u.hold.length] ++
      n4 u.pool.uplinkDrops.toNat ++ [b u.sched.active.length] ++ u.sched.active.map (fun l => b l.val) ++
      List.replicate (24 - u.sched.active.length) 0xFF ++ n2 current ++
      [flag (u.sched.active != [] && u.sched.launch.length == 4), flag u.uplink.status.isSome,
        class_ u.uplink.status, b u.notices.queue.length, b u.notices.lost] ++ port u.ports.main ++ port u.ports.craft ∧
    (u.sched.active.length ≤ 24 → u.statusBytes.length = 74)) ∧
  (∀ (u : State) (l : LineNo),
    let r := u.line l
    let c := r.counters
    let target : List Byte := match r.state with
      | .withdrawn .idle k => [1, 0xFF, if k = .onBus then 1 else 0]
      | .withdrawn .training k => [2, 0xFF, if k = .onBus then 1 else 0]
      | .withdrawn (.quarantined q) k => [6, quar q, if k = .onBus then 1 else 0]
      | _ => [0xFF, 0xFF, 0xFF]
    let deadline : Byte := match r.state with
      | .training d => b ((d - u.now + 999999) / 1000000)
      | _ => 0xFF
    let reason : Byte := match r.state with
      | .quarantined q => quar q
      | _ => 0xFF
    u.lineBytes l = [b l.val, flag (r.state != .unequipped), kind r.state.kind] ++ target ++
      [b r.profile.weight, b r.profile.keep, b r.profile.cost, b r.profile.limit,
        if r.profile.park = .open then 0 else 1, b r.failCount, deadline, reason, b u.sched.ingress[l].length,
        b u.egress[l].length] ++ n2 u.sched.deficit[l] ++
      [flag (u.sched.active.contains l), if r.state = .shed then b (u.energy.shed.idxOf l) else 0xFF] ++
      [c.framesUp, c.framesDown, c.bytesUp, c.bytesDown, c.dropsUp, c.dropsDown, c.pool, c.ingressFull, c.egressFull,
        c.notInService, c.missDup, c.holdFull, c.holdExpired, c.holdReleaseFull].flatMap (fun x => n4 x.toNat) ∧
    (u.lineBytes l).length = 76) ∧
  (∀ (u : State) (k : FlowIdx),
    (u.flows[k] = none → u.flowBytes k = [b k.val, 0] ++ List.replicate 20 0xFF) ∧
    (∀ e, u.flows[k] = some e → u.flowBytes k =
      [b k.val, 1, flag e.kept, flag e.up, flag e.down, match e.owner with
        | .line l => b l.val
        | .shared => 0x80] ++ n2 e.lineBase ++ n2 e.uplinkBase ++ [b e.spanExp, e.members.extractLsb' 0 8,
        e.members.extractLsb' 8 8, e.members.extractLsb' 16 8] ++ n4 e.matchUp.toNat ++ n4 e.matchDown.toNat) ∧
    (u.flowBytes k).length = 22) ∧
  (∀ u : State,
    let order (o : TestOrder) : List Byte := [b o.id, origin o.origin, b o.line.val]
    let block : List Byte := match u.engine.current with
      | none => [0, 0xFF, 0xFF, 0xFF, 0xFF, 0xFF, 0x00, 0x08, 0, 0xFF, 0xFF]
      | some c => (1 : Byte) :: order c.order ++ ((match c.phase with
          | .warmup _ => [0, 0xFF]
          | .firstSettle _ | .secondSettle _ => [1, 0xFF]
          | .foreign _ => [2, 0xFF]
          | .step k _ => [3, b k]
          | .releaseRamp | .releaseSettle _ => [4, 0xFF]
          | .exit _ => [5, 0xFF] : List Byte)) ++ n2 u.gen.code ++ [flag u.gen.drive, (match u.gen.program with
          | .rest => 0
          | .level _ => 1
          | .triangle _ _ => 2
          | .sine _ _ => 3 : Byte), if u.gen.motion = .ramping then 0 else 1]
    u.testListBytes = b u.engine.queue.length :: u.engine.queue.flatMap order ++ block ∧ block.length = 11) ∧
  (∀ u : State,
    u.energyBytes = [supply u.energy.supply, source u.energy.source, b u.budget, b u.energy.budgets.mains,
        b u.energy.budgets.battHigh, b u.energy.budgets.battLow, b u.energy.budgets.battCrit] ++ n2 u.committed ++
      n2 u.linePart ++ [if u.engine.current.isSome then 6 else 0, b u.capPart, b u.energy.cap, b u.params.capCeiling,
        class_ u.uplink.status, flag u.energyHeld, b u.energy.shed.length] ++ u.energy.shed.map (fun l => b l.val) ∧
    u.energyBytes.length = 18 + u.energy.shed.length) ∧
  (∀ u : State,
    let point (p : PointNo) : List Byte :=
      let r := u.point p
      [b p.val, if p.val < 2 then 0 else if p.val < 4 then 1 else if p.val < 8 then 2 else 3, fn r.fn,
        if r.polarity = .activeHigh then 0 else 1, match r.debounced with
          | none => 0xFF
          | some .low => 0
          | some .high => 1, opt ((u.driven p).map flag), flag (r.window.isSome && !u.drives p)]
    (∀ p, u.pointBytes p = point p ∧ (point p).length = 7) ∧
    u.pointReadBytes = allPoints.flatMap point ++ (match u.points.surge with
      | .calm => [0, 0, 0]
      | .asserted => [1, 0, 0]
      | .quiet e => 2 :: n2 ((e - u.now + 999) / 1000)) ++ [flag u.doorOpen, flag u.points.testPower] ∧
    u.pointReadBytes.length = 89) ∧
  (∀ r : Result,
    let step (x : StepResult) : List Byte :=
      [(match x.kind with
        | .loop => 0
        | .leak => 1
        | .cap => 2
        | .term => 3 : Byte)] ++ n2 x.value ++ [(match x.verdict with
        | .pass => 0
        | .fail => 1
        | .none => 2 : Byte)]
    r.bytes = [b r.id, origin r.origin, b r.line.val, outcome r.outcome, opt (r.cause.map cause)] ++
      (match r.foreignValue with
        | some v => 1 :: n2 v
        | none => [0, 0xFF, 0xFF]) ++ [b r.steps.length] ++ r.steps.flatMap step ++
      List.replicate (20 - 4 * r.steps.length) 0xFF ++
      (match r.exit with
        | some x => [1, cause x.cause, opt (x.second.map cause), match x.mode with
            | .cut => 0
            | .ramp => 1
            | .dwell => 2]
        | none => [0, 0xFF, 0xFF, 0xFF]) ++
      (match r.returned with
        | none => [0xFF, 0xFF]
        | some .idle => [1, 0xFF]
        | some .training => [2, 0xFF]
        | some .shed => [5, 0xFF]
        | some (.quarantined q) => [6, quar q]) ++ [flag r.readMain, flag r.readCraft] ∧
    (r.steps.length ≤ 5 → r.bytes.length = 37)) ∧
  (∀ n : Notice, n.bytes.length = 6 ∧ n.bytes = match n with
    | .start c st => [1, started c, settings st, 0xFF, 0xFF, 0xFF]
    | .line l st c => [2, b l.val, kind st, match c with
        | .request => 0
        | .sync => 1
        | .timeout => 2
        | .test => 3
        | .energy => 4
        | .restore => 5, 0xFF, 0xFF]
    | .miss l tag => [3, b l.val, 0xFF, b tag, b (tag / 256), 0xFF]
    | .test id o r => [4, b id, origin o, outcome r, 0xFF, 0xFF]
    | .supply st n r => [5, supply st, b n, source r, 0xFF, 0xFF]
    | .uplink c cap => [6, flag c.isSome, class_ c, b cap, 0xFF, 0xFF]
    | .point p f a => [7, b p.val, fn f, flag a, 0xFF, 0xFF]) ∧
  ∀ (t : Nat) (h : Header) (s : State), Ready h.port s → Direct h →
    let u := s.taken t h.port
    exec (.ident t h) s = .next (u.answers h 0x01 .ok
      [0x43, 0x4C, 0x32, 0x34, 3, b s.ports.dropInForce, settings s.status, started s.cause]) ∧
    (Entitled h.port s →
      exec (.status t h 0) s = .next (u.answers h 0x02 .ok u.statusBytes) ∧
      (∀ l, exec (.lineQuery t h (lineByte l) 0) s = .next (u.answers h 0x14 .ok (u.lineBytes l))) ∧
      (∀ k : FlowIdx, exec (.flowRead t h (BitVec.ofNat 8 k.val)) s = .next (u.answers h 0x24 .ok (u.flowBytes k))) ∧
      exec (.testList t h) s = .next (u.answers h 0x33 .ok u.testListBytes) ∧
      exec (.energyQuery t h) s = .next (u.answers h 0x42 .ok u.energyBytes) ∧
      exec (.pointRead t h) s = .next (u.answers h 0x51 .ok u.pointReadBytes)) ∧
    (h.port = .main → ∀ id : Byte,
      exec (.getParameter t h id) s = .next
        (if 1 ≤ id.toNat ∧ id.toNat ≤ 10 then u.answers h 0x04 .ok (id :: n2 (s.params.get id.toNat))
         else u.answers h 0x04 .range [])) ∧
    (h.port = .main →
      exec (.status t h 1) s = .next (({ u with
        pool := { u.pool with uplinkDrops := 0 }
        ports := { u.ports with
          main := { u.ports.main with faults := FaultCounts.zero }
          craft := { u.ports.craft with faults := FaultCounts.zero } } }).answers h 0x02 .ok u.statusBytes) ∧
      (∀ l, exec (.lineQuery t h (lineByte l) 1) s =
        .next ((u.setLine l fun r => { r with counters := Counters.zero }).answers h 0x14 .ok (u.lineBytes l))))

/-- SET PARAMETER (R190, R149): an id or value out of range is RANGE; the value held already changes nothing; another
value is stored, and a cap ceiling acts on the cap class at once. That a raised ceiling is followed by the engine's
attempt only where the restoring pass moved committed consumption is the model's choice (log 26). And the table
itself: the ten ranges, the parameter that each id names in its encoding, what storing a value changes, and that it
changes no other (R190, R198). -/
def Obligations.SetParameter : Prop :=
  (∀ id v : Nat, paramOk id v = true ↔
    (id = 1 ∧ 1 ≤ v ∧ v ≤ 30) ∨ (id = 2 ∧ v ∈ [96, 192, 384, 1152]) ∨ (id = 3 ∧ 5 ≤ v ∧ v ≤ 255) ∨
    (id = 4 ∧ 50 ≤ v ∧ v ≤ 5000 ∧ 50 ∣ v) ∨ (id = 5 ∧ 10 ≤ v ∧ v ≤ 250) ∨ (id = 6 ∧ 1 ≤ v ∧ v ≤ 7) ∨
    (id = 7 ∧ 10 ≤ v ∧ v ≤ 120) ∨ (id = 8 ∧ v ≤ 2) ∨ (id = 9 ∧ 1 ≤ v ∧ v ≤ 60) ∨ (id = 10 ∧ 1 ≤ v ∧ v ≤ 4)) ∧
  (∀ p : Params, [1, 2, 3, 4, 5, 6, 7, 8, 9, 10].map p.get =
    [p.drop, p.rate / 100, p.charTimeout, p.holdTime, p.trainTimeout, p.failLimit, p.hazardLimit,
      (match p.exitMode with
        | .cut => 0
        | .ramp => 1
        | .dwell => 2), p.quietTime, p.capCeiling]) ∧
  (∀ (p : Params) (v : Nat),
    p.put 1 v = { p with drop := v } ∧ p.put 2 v = { p with rate := 100 * v } ∧
    p.put 3 v = { p with charTimeout := v } ∧ p.put 4 v = { p with holdTime := v } ∧
    p.put 5 v = { p with trainTimeout := v } ∧ p.put 6 v = { p with failLimit := v } ∧
    p.put 7 v = { p with hazardLimit := v } ∧ p.put 8 0 = { p with exitMode := .cut } ∧
    p.put 8 1 = { p with exitMode := .ramp } ∧ p.put 8 2 = { p with exitMode := .dwell } ∧
    p.put 9 v = { p with quietTime := v } ∧ p.put 10 v = { p with capCeiling := v }) ∧
  (∀ (p : Params) (id v : Nat), paramOk id v = true →
    (p.put id v).get id = v ∧ ∀ other, other ≠ id → (p.put id v).get other = p.get other) ∧
  ∀ (t : Nat) (h : Header) (id : Byte) (value : Half) (s : State), Ready h.port s → Direct h → h.port = .main →
    let u := s.taken t h.port
    let stored : State := { u with params := s.params.put id.toNat value.toNat }
    let reply : List Byte := id :: Half.laid value
    (paramOk id.toNat value.toNat = false →
      exec (.setParameter t h id value) s = .next (u.answers h 0x03 .range [])) ∧
    (paramOk id.toNat value.toNat = true → s.params.get id.toNat = value.toNat →
      exec (.setParameter t h id value) s = .next (u.answers h 0x03 .ok reply)) ∧
    (paramOk id.toNat value.toNat = true → s.params.get id.toNat ≠ value.toNat → id ≠ 10 →
      exec (.setParameter t h id value) s = .next (stored.answers h 0x03 .ok reply)) ∧
    (paramOk id.toNat value.toNat = true → s.params.get id.toNat ≠ value.toNat → id = 10 →
      exec (.setParameter t h id value) s = .next
        ((if value.toNat < s.energy.cap then
            ({ stored with energy := { s.energy with cap := value.toNat } }).restoringPass.attempt
          else if s.params.capCeiling < value.toNat then
            (if stored.restoringPass.committed = stored.committed then stored.restoringPass
             else stored.restoringPass.attempt)
          else stored).answers h 0x03 .ok reply))

/-- FETCH NOTICES (R187): up to 8 oldest notices leave the queue and the reply carries their number, the lost count as
it stood and the notices; the lost count is then 0, and ATTN is high when the queue has become empty. The craft port
is refused it. -/
def Obligations.FetchNotices : Prop :=
  ∀ (t : Nat) (h : Header) (s : State), Ready h.port s → Direct h →
    let u := s.taken t h.port
    let v : State := { u with notices := { queue := s.notices.queue.drop 8, lost := 0 } }
    (h.port = .craft → exec (.fetchNotices t h) s = .next (u.answers h 0x07 .denied [])) ∧
    (h.port = .main →
      exec (.fetchNotices t h) s = .next (v.answers h 0x07 .ok
        (BitVec.ofNat 8 (min 8 s.notices.queue.length) :: BitVec.ofNat 8 s.notices.lost ::
          (s.notices.queue.take 8).flatMap Notice.bytes)) ∧
      (s.notices.queue.length ≤ 8 → v.attnLow = false) ∧ (8 < s.notices.queue.length → v.attnLow = true))

/-- SAVE SETTINGS sets the write mark and takes the snapshot, the main link staying EXECUTING; SAVE_WRITE_END clears
the mark, and answers OK with status GOOD when the store holds the snapshot, STORE_FAIL otherwise (R189, R191; log 7,
22). The check word makes the image's words sum to 65535. -/
def Obligations.SaveSettings : Prop :=
  (∀ (t : Nat) (h : Header) (s : State), Ready h.port s → Direct h → h.port = .main →
    let u := s.taken t h.port
    exec (.saveSettings t h) s = .next
      (({ u with store := { s.store with mark := true } }).setJob .main (some (.save h.tag u.liveSettings.image)))) ∧
  (∀ (t : Nat) (held : Option (List Half)) (tag : Byte) (words : List Half) (s : State), s.running = true →
    s.ports.main.job = some (.save tag words) →
    let a := s.advance t
    exec (.saveWriteEnd t held) s = .next
      (if held = none ∨ held = some words then
        ({ a with store := { words, mark := false }, status := .good }).transmit .main
          (Reply.body 0x05 tag { status := .ok, payload := [] }) false
       else
        ({ a with store := { words := held.getD [], mark := false } }).transmit .main
          (Reply.body 0x05 tag { status := .storeFail, payload := [] }) false)) ∧
  (∀ st : Settings, st.image.sum = 0xFFFF)

/-- RESTART (R193): answered OK on its port, the start following that reply; from the craft port only with the door
open. -/
def Obligations.Restart : Prop :=
  ∀ (t : Nat) (h : Header) (s : State), Ready h.port s → Direct h →
    (Entitled h.port s →
      exec (.restart t h) s = .next ((s.taken t h.port).setJob h.port
        (some (.sending (Reply.body 0x06 h.tag { status := .ok, payload := [] }) true)))) ∧
    (h.port = .craft → s.doorOpen = false →
      exec (.restart t h) s = .next ((s.taken t h.port).answers h 0x06 .denied []))

/-- BATCH (R179, R180, R184, R185; log 5): from the craft port with the door shut it is DENIED; a count of 0 or above
8 is RANGE; sub-requests are taken in order, each by its kind, length, permission, ranges and owning block; the first
that fails ends the batch PARTIAL with the entries before it, its index and its status; when none is left the batch
ends OK. -/
def Obligations.Batch : Prop :=
  let entries (vs : List Byte) : List Byte := BitVec.ofNat 8 vs.length :: vs.flatMap fun v => [0x00, v]
  let kinds : List Byte :=
    [0x10, 0x11, 0x12, 0x13, 0x15, 0x20, 0x21, 0x22, 0x25, 0x30, 0x31, 0x50, 0x52, 0x41, 0x40, 0x03]
  (∀ (t : Nat) (h : Header) (subs : List RawSub) (n : Nat) (s : State), Ready h.port s → Direct h →
    Entitled h.port s →
    (subs.length = 0 ∨ 8 < subs.length →
      exec (.batch t (.begin h subs n)) s = .next ((s.taken t h.port).answers h 0x08 .range [])) ∧
    (1 ≤ subs.length → subs.length ≤ 8 →
      exec (.batch t (.begin h subs n)) s = .next (batchGo h.port h.tag n subs [] (s.taken t h.port)))) ∧
  (∀ (t : Nat) (h : Header) (subs : List RawSub) (n : Nat) (s : State), Ready h.port s → Direct h →
    h.port = .craft → s.doorOpen = false →
    exec (.batch t (.begin h subs n)) s = .next ((s.taken t h.port).answers h 0x08 .denied [])) ∧
  (∀ (t n : Nat) (p : PortId) (tag : Byte) (rest : List RawSub) (done : List Byte) (s : State),
    s.running = true → (s.port p).job = some (.batch tag rest done) →
    exec (.batch t (.go p n)) s = .next (batchGo p tag n rest done (s.advance t))) ∧
  (∀ (p : PortId) (tag : Byte) (n : Nat) (sub : RawSub) (rest : List RawSub) (done : List Byte) (s : State),
    batchGo p tag n [] done s =
      s.transmit p (Reply.body 0x08 tag { status := .ok, payload := entries done }) false ∧
    batchGo p tag 0 (sub :: rest) done s = s.setJob p (some (.batch tag (sub :: rest) done)) ∧
    ((subRun p sub s).1.status ≠ .ok →
      batchGo p tag (n + 1) (sub :: rest) done s = (subRun p sub s).2.transmit p (Reply.body 0x08 tag
        { status := .stopped,
          payload := entries done ++ [BitVec.ofNat 8 done.length, (subRun p sub s).1.status.code] }) false) ∧
    ((subRun p sub s).1.status = .ok →
      batchGo p tag (n + 1) (sub :: rest) done s = batchGo p tag n rest (done ++
        [if sub.kind = 0x21 ∨ sub.kind = 0x30 then (subRun p sub s).1.payload.headD 0 else 0]) (subRun p sub s).2)) ∧
  (∀ (p : PortId) (sub : RawSub) (s : State),
    (sub.kind ∉ kinds → subRun p sub s = (Reply.bad .unknown, s)) ∧
    (sub.kind ∈ kinds → parse sub.kind sub.payload = .badLength →
      subRun p sub s = (Reply.bad .length, s)) ∧
    (∀ r, sub.kind ∈ kinds → parse sub.kind sub.payload = .req r →
      subRun p sub s =
        (if permitted p s.doorOpen r = false then (Reply.bad .denied, s)
         else if fieldsOk r = false then (Reply.bad .range, s) else own p r s)))

/-! ### Lines -/

/-- LINE START (R16, R14, R148, R108): an IDLE line whose cost fits goes to TRAINING with a deadline, and the engine
is told; one that does not fit, and a SHED line, is BUDGET; a line already started is OK; a WITHDRAWN line's return
target becomes TRAINING unless it is QUARANTINED. -/
def Obligations.LineStart : Prop :=
  ∀ (t : Nat) (h : Header) (l : LineNo) (s : State), Ready h.port s → Direct h → Entitled h.port s →
    1 ≤ (s.line l).profile.cost →
    let u := s.taken t h.port
    let done (st : Status) (v : State) : Prop := exec (.lineStart t h (lineByte l)) s = .next (v.answers h 0x10 st [])
    match (s.line l).state with
    | .idle =>
      (s.committed + (s.line l).profile.cost ≤ s.budget →
        done .ok (u.moveLine l (.training (max s.now t + 1000000 * s.params.trainTimeout)) .request).attempt) ∧
      (s.budget < s.committed + (s.line l).profile.cost → done .budget u)
    | .training _ | .inService => done .ok u
    | .shed => done .budget u
    | .withdrawn .idle c | .withdrawn .training c => done .ok (u.setLineState l (.withdrawn .training c))
    | .withdrawn (.quarantined _) _ | .quarantined _ | .unequipped => done .state u

/-- LINE STOP (R17, R14, R148, R108): a TRAINING or IN_SERVICE line goes to IDLE, the restoring pass runs and the
engine is told; a SHED line leaves the shed list; a WITHDRAWN line's return target becomes IDLE unless it is
QUARANTINED. -/
def Obligations.LineStop : Prop :=
  ∀ (t : Nat) (h : Header) (l : LineNo) (s : State), Ready h.port s → Direct h → Entitled h.port s →
    1 ≤ (s.line l).profile.cost →
    let u := s.taken t h.port
    let done (st : Status) (v : State) : Prop := exec (.lineStop t h (lineByte l)) s = .next (v.answers h 0x11 st [])
    match (s.line l).state with
    | .training _ | .inService => done .ok (u.moveLine l .idle .request).restoringPass.attempt
    | .idle => done .ok u
    | .shed =>
      done .ok (({ u with energy := { u.energy with shed := s.energy.shed.filter fun k => k != l } }).moveLine l .idle
        .request)
    | .withdrawn .idle c | .withdrawn .training c => done .ok (u.setLineState l (.withdrawn .idle c))
    | .withdrawn (.quarantined _) _ | .quarantined _ | .unequipped => done .state u

/-- LINE CLEAR (R18, R14) releases a QUARANTINED line, or a QUARANTINED return target, to IDLE with fail count 0; LINE
EQUIP (R19, R20) brings an unequipped line to IDLE, and unequips an IDLE or QUARANTINED line that no flow entry and no
queued order names. Every other case is STATE, or OK with nothing changed for a line equipped already. -/
def Obligations.LineClearAndEquip : Prop :=
  ∀ (t : Nat) (h : Header) (l : LineNo) (s : State), Ready h.port s → Direct h →
    let u := s.taken t h.port
    let zero := u.setLine l fun r => { r with failCount := 0 }
    (Entitled h.port s →
      exec (.lineClear t h (lineByte l)) s = .next
        (match (s.line l).state with
         | .quarantined _ => (zero.moveLine l .idle .request).answers h 0x13 .ok []
         | .withdrawn (.quarantined _) c => (zero.setLineState l (.withdrawn .idle c)).answers h 0x13 .ok []
         | _ => u.answers h 0x13 .state [])) ∧
    (h.port = .main →
      ((s.line l).state = .unequipped → exec (.lineEquipEquip t h (lineByte l)) s =
        .next ((zero.moveLine l .idle .request).answers h 0x15 .ok [])) ∧
      ((s.line l).state ≠ .unequipped →
        exec (.lineEquipEquip t h (lineByte l)) s = .next (u.answers h 0x15 .ok [])) ∧
      (((s.line l).state = .idle ∨ ∃ q, (s.line l).state = .quarantined q) →
        (∀ (k : FlowIdx) e, s.flows[k] = some e → e.owner ≠ .line l ∧ LineSet.has e.members l = false) →
        (∀ o ∈ s.engine.queue, o.line ≠ l) →
        exec (.lineEquipUnequip t h (lineByte l)) s =
          .next ((zero.moveLine l .unequipped .request).answers h 0x15 .ok [])) ∧
      (((s.line l).state ≠ .idle ∧ ∀ q, (s.line l).state ≠ .quarantined q) ∨
          (∃ (k : FlowIdx) (e : FlowEntry), s.flows[k] = some e ∧
            (e.owner = .line l ∨ LineSet.has e.members l = true)) ∨
          (∃ o ∈ s.engine.queue, o.line = l) →
        exec (.lineEquipUnequip t h (lineByte l)) s = .next (u.answers h 0x15 .state [])))

/-- LINE PROFILE (R21, R148; log 20): STATE on an unequipped line, RANGE outside the ranges of R2, otherwise the
profile is replaced; a counted line whose cost rises has the shedding pass, one whose cost falls the restoring pass,
and the engine is told. -/
def Obligations.LineProfile : Prop :=
  ∀ (t : Nat) (h : Header) (l : LineNo) (w k c g park : Byte) (s : State), Ready h.port s → Direct h →
    h.port = .main → park.toNat ≤ 1 →
    let u := s.taken t h.port
    let ok := 1 ≤ w.toNat ∧ w.toNat ≤ 12 ∧ k.toNat ≤ 3 ∧ 1 ≤ c.toNat ∧ c.toNat ≤ 15 ∧ 1 ≤ g.toNat ∧ g.toNat ≤ 48
    let v := u.setLine l fun r => { r with profile :=
      { weight := w.toNat, keep := k.toNat, cost := c.toNat, limit := g.toNat,
        park := if park = 0 then .open else .signature } }
    let old := (s.line l).profile.cost
    let counted := (∃ d, (s.line l).state = .training d) ∨ (s.line l).state = .inService
    let done (st : Status) (x : State) : Prop :=
      exec (.lineProfile t h (lineByte l) w k c g park) s = .next (x.answers h 0x12 st [])
    ((s.line l).state = .unequipped → done .state u) ∧
    ((s.line l).state ≠ .unequipped → ¬ok → done .range u) ∧
    ((s.line l).state ≠ .unequipped → ok →
      (counted → old < c.toNat → done .ok v.sheddingPass.attempt) ∧
      (counted → c.toNat < old → done .ok v.restoringPass.attempt) ∧
      (¬counted ∨ c.toNat = old → done .ok v))

/-- SYNC_UP and SYNC_LOST (R7, R8), and TRAINING_DEADLINE_EXPIRY when the deadline has been reached (R9; log 3), with
the restoring pass and the engine's attempt that follow it (R148, R108): the states in which each acts, the fail
count, and what it does in every other state: nothing. -/
def Obligations.SyncAndDeadline : Prop :=
  ∀ (t : Nat) (l : LineNo) (s : State), s.running = true →
    let a := s.advance t
    exec (.syncUp t l) s = .next
      (match (s.line l).state with
       | .training _ => (a.setLine l fun r => { r with failCount := 0 }).moveLine l .inService .sync
       | _ => a) ∧
    exec (.syncLost t l) s = .next
      (match (s.line l).state with
       | .inService => a.moveLine l (.training (max s.now t + 1000000 * s.params.trainTimeout)) .sync
       | _ => a) ∧
    (∀ d, (s.line l).state = .training d → d ≤ max s.now t → 1 ≤ (s.line l).profile.cost →
      let n := min 7 ((s.line l).failCount + 1)
      let left : LineState := if s.params.failLimit ≤ n then .quarantined .training else .idle
      exec (.trainingDeadlineExpiry t l) s = .next
        ((a.setLine l fun r => { r with failCount := n }).moveLine l left .timeout).restoringPass.attempt) ∧
    ((∀ d, (s.line l).state = .training d → max s.now t < d) →
      exec (.trainingDeadlineExpiry t l) s = .next a)

/-- A change of a line's state (R4, R5, R35): the record takes the state, one LINE notice joins the queue, and when
the line leaves IN_SERVICE its egress queue is emptied, each frame counted as a drop down with NOT_IN_SERVICE and
giving up its position. And the drive of the line ports in each state of a running part (R3, R13). -/
def Obligations.LineMoves : Prop :=
  (∀ (l : LineNo) (st : LineState) (cause : LineCause) (s : State),
    let u := s.moveLine l st cause
    let n : Count32 := BitVec.ofNat 32 s.egress[l].length
    let leaves := (s.line l).state = .inService ∧ st ≠ .inService
    (¬leaves → u = (s.setLineState l st).notify (.line l st.kind cause)) ∧
    (leaves →
      u.line l = { s.line l with state := st, counters := { (s.line l).counters with
        dropsDown := (s.line l).counters.dropsDown + n
        notInService := (s.line l).counters.notInService + n } } ∧
      (∀ k, k ≠ l → u.line k = s.line k) ∧ u.egress = s.egress.set l [] ∧
      u.pool = s.egress[l].foldl (fun p id => p.giveUp id) s.pool ∧
      u = { s.notify (.line l st.kind cause) with lines := u.lines, pool := u.pool, egress := u.egress })) ∧
  (∀ (l : LineNo) (s : State), s.running = true →
    let sig := (s.line l).profile.park == .signature
    (s.transceiverPower l, s.serviceRelay l, s.testRelay l, s.signatureSwitch l) =
      match (s.line l).state with
      | .unequipped => (false, false, false, false)
      | .idle => (false, true, false, sig)
      | .training _ => (true, true, false, false)
      | .inService => (true, true, false, false)
      | .withdrawn _ .offBus => (false, false, false, false)
      | .withdrawn _ .onBus => (false, false, true, false)
      | .shed => (false, true, false, sig)
      | .quarantined _ => (false, true, false, sig))

/-! ### The flow table -/

/-- FLOW PUT and FLOW PLACE (R48 to R51, R62): content outside the rules of its fields is RANGE; an entry that would
overlap another is OVERLAP; FLOW PLACE with no free index is FULL; otherwise the entry stands at its index with match
counts 0, the release pass runs and its two counts are in the reply. -/
def Obligations.FlowWrite : Prop :=
  ∀ (t : Nat) (h : Header) (c : FlowContent) (s : State), Ready h.port s → Direct h → h.port = .main →
    ContentCodes c →
    let u := s.taken t h.port
    (¬ContentFits s.equipped c →
      (∀ k : FlowIdx, exec (.flowPut t h (BitVec.ofNat 8 k.val) c) s = .next (u.answers h 0x20 .range [])) ∧
      exec (.flowPlace t h c) s = .next (u.answers h 0x21 .range [])) ∧
    (ContentFits s.equipped c → ∀ o, OwnerNamed c o →
      let e := FlowContent.written o c
      let put (k : FlowIdx) := ({ u with flows := s.flows.set k (some e) }).releasePass k e
      (∀ k : FlowIdx,
        ((∃ (j : FlowIdx) (f : FlowEntry), j ≠ k ∧ s.flows[j] = some f ∧ EntriesMeet e f) →
          exec (.flowPut t h (BitVec.ofNat 8 k.val) c) s = .next (u.answers h 0x20 .overlap [])) ∧
        ((∀ (j : FlowIdx) (f : FlowEntry), j ≠ k → s.flows[j] = some f → ¬EntriesMeet e f) →
          exec (.flowPut t h (BitVec.ofNat 8 k.val) c) s =
            .next ((put k).1.answers h 0x20 .ok [BitVec.ofNat 8 (put k).2.1, BitVec.ofNat 8 (put k).2.2]))) ∧
      ((∃ (j : FlowIdx) (f : FlowEntry), s.flows[j] = some f ∧ EntriesMeet e f) →
        exec (.flowPlace t h c) s = .next (u.answers h 0x21 .overlap [])) ∧
      ((∀ (j : FlowIdx) (f : FlowEntry), s.flows[j] = some f → ¬EntriesMeet e f) →
        ((∀ j : FlowIdx, s.flows[j] ≠ none) → exec (.flowPlace t h c) s = .next (u.answers h 0x21 .full [])) ∧
        (∀ k : FlowIdx, s.flows[k] = none → (∀ j : FlowIdx, j < k → s.flows[j] ≠ none) →
          exec (.flowPlace t h c) s = .next ((put k).1.answers h 0x21 .ok
            [BitVec.ofNat 8 k.val, BitVec.ofNat 8 (put k).2.1, BitVec.ofNat 8 (put k).2.2]))))

/-- FLOW DROP (R52): an index above 63 is RANGE, an invalid index NOT_FOUND with nothing changed; a valid entry
becomes invalid and is a reference to its lines no longer, and everything else, queued and held frames included,
stays. -/
def Obligations.FlowDrop : Prop :=
  ∀ (t : Nat) (h : Header) (index : Byte) (s : State), Ready h.port s → Direct h → h.port = .main →
    let u := s.taken t h.port
    (64 ≤ index.toNat → exec (.flowDrop t h index) s = .next (u.answers h 0x22 .range [])) ∧
    (∀ k : FlowIdx, index.toNat = k.val →
      (s.flows[k] = none → exec (.flowDrop t h index) s = .next (u.answers h 0x22 .notFound [])) ∧
      (s.flows[k] ≠ none → exec (.flowDrop t h index) s =
        .next (({ u with flows := s.flows.set k none }).answers h 0x22 .ok [])))

/-- FLOW CLEAR (R53): with ALL every valid entry becomes invalid, with NOT_KEPT every valid entry that is not kept;
the reply carries their number. -/
def Obligations.FlowClear : Prop :=
  ∀ (t : Nat) (h : Header) (sel : Byte) (s : State), Ready h.port s → Direct h → h.port = .main → sel.toNat ≤ 1 →
    let u := s.taken t h.port
    let goes (e : FlowEntry) : Bool := sel == 0 || !e.kept
    ∃ flows : Vector (Option FlowEntry) 64,
      (∀ k : FlowIdx, flows[k] = match s.flows[k] with
        | some e => if goes e then none else some e
        | none => none) ∧
      exec (.flowClear t h sel) s = .next (({ u with flows := flows }).answers h 0x25 .ok
        [BitVec.ofNat 8 (allFlows.filter fun k => match s.flows[k] with
          | some e => goes e
          | none => false).length])

/-- FLOW FIND (R54): the entry that a frame with the key would match, with the translated tag; NOT_FOUND when none
does; RANGE outside the ranges of line and tag. Nothing changes, match counts included, and the line's state does not
enter. -/
def Obligations.FlowFind : Prop :=
  ∀ (t : Nat) (h : Header) (tag : Half) (s : State), Ready h.port s → Direct h → Entitled h.port s → FlowsOk s →
    let u := s.taken t h.port
    let n2 (n : Nat) : List Byte := [BitVec.ofNat 8 n, BitVec.ofNat 8 (n / 256)]
    (∀ l : LineNo, tag.toNat ≤ 4095 →
      (∀ (k : FlowIdx) e, s.flows[k] = some e → e.up = true → (e.owner = .line l ∨ e.owner = .shared) →
        e.lineBase ≤ tag.toNat → tag.toNat < e.lineBase + 2 ^ e.spanExp →
        exec (.flowFind t h 0 (lineByte l) tag) s = .next (u.answers h 0x23 .ok
          (BitVec.ofNat 8 k.val :: n2 (e.uplinkBase + (tag.toNat - e.lineBase))))) ∧
      ((∀ (k : FlowIdx) e, s.flows[k] = some e → ¬(e.up = true ∧ (e.owner = .line l ∨ e.owner = .shared) ∧
          e.lineBase ≤ tag.toNat ∧ tag.toNat < e.lineBase + 2 ^ e.spanExp)) →
        exec (.flowFind t h 0 (lineByte l) tag) s = .next (u.answers h 0x23 .notFound []))) ∧
    (∀ line : Byte, tag.toNat ≤ 4095 →
      (∀ (k : FlowIdx) e, s.flows[k] = some e → e.down = true → e.uplinkBase ≤ tag.toNat →
        tag.toNat < e.uplinkBase + 2 ^ e.spanExp →
        exec (.flowFind t h 1 line tag) s = .next (u.answers h 0x23 .ok
          (BitVec.ofNat 8 k.val :: n2 (e.lineBase + (tag.toNat - e.uplinkBase))))) ∧
      ((∀ (k : FlowIdx) e, s.flows[k] = some e → ¬(e.down = true ∧ e.uplinkBase ≤ tag.toNat ∧
          tag.toNat < e.uplinkBase + 2 ^ e.spanExp)) →
        exec (.flowFind t h 1 line tag) s = .next (u.answers h 0x23 .notFound []))) ∧
    (∀ sel line : Byte, 4095 < tag.toNat ∨ 1 < sel.toNat ∨ (sel = 0 ∧ 24 ≤ line.toNat) →
      exec (.flowFind t h sel line tag) s = .next (u.answers h 0x23 .range []))

/-! ### Traffic -/

/-- UPSTREAM_ARRIVAL (R23, R27, R29, R39, R58 to R60): not IN_SERVICE, too few cells, a match placed or INGRESS_FULL,
and with no match MISS_DUP, held with a MISS notice, or HOLD_FULL; each drop counts as a drop up and under its reason. -/
def Obligations.UpstreamArrival : Prop :=
  ∀ (t : Nat) (l : LineNo) (tag : Fin 4096) (len : Nat) (s : State), s.running = true → 64 ≤ len → len ≤ 1536 →
    FlowsOk s →
    let a := s.advance t
    let cells := (len + 127) / 128
    let took (reason : Counters → Counters) (v : State) : State := v.setLine l fun rec => { rec with
      counters := reason { rec.counters with dropsUp := rec.counters.dropsUp + 1 } }
    let inPool (c : Counters) : Counters := { c with pool := c.pool + 1 }
    let outOfService (c : Counters) : Counters := { c with notInService := c.notInService + 1 }
    let ingressFull (c : Counters) : Counters := { c with ingressFull := c.ingressFull + 1 }
    let missDup (c : Counters) : Counters := { c with missDup := c.missDup + 1 }
    let holdFull (c : Counters) : Counters := { c with holdFull := c.holdFull + 1 }
    let born (uptag : Nat) : Pool := { s.pool with
      free := s.pool.free - cells, nextId := s.pool.nextId + 1
      frames := s.pool.frames ++
        [(s.pool.nextId, ({ origin := .line l, tag := uptag, length := len, cells, refs := 1 } : Frame))] }
    let hits (e : FlowEntry) := e.up = true ∧ (e.owner = .line l ∨ e.owner = .shared) ∧ e.lineBase ≤ tag.val ∧
      tag.val < e.lineBase + 2 ^ e.spanExp
    let done (v : State) : Prop := exec (.upstreamArrival t l tag len) s = .next v
    ((s.line l).state ≠ .inService → done (took outOfService a)) ∧
    ((s.line l).state = .inService → s.pool.free < cells → done (took inPool a)) ∧
    ((s.line l).state = .inService → cells ≤ s.pool.free →
      (∀ (k : FlowIdx) e, s.flows[k] = some e → hits e →
        let counted : State := { a with flows := s.flows.set k (some { e with matchUp := e.matchUp + 1 }) }
        (s.sched.ingress[l].length < (s.line l).profile.limit →
          done (({ counted with pool := born (e.uplinkBase + (tag.val - e.lineBase)) }).joinIngress l s.pool.nextId)) ∧
        ((s.line l).profile.limit ≤ s.sched.ingress[l].length → done (took ingressFull counted))) ∧
      ((∀ (k : FlowIdx) e, s.flows[k] = some e → ¬hits e) →
        let same := ∃ h ∈ s.hold, ∃ f, s.pool.find h.frame = some f ∧ f.origin = .line l ∧ f.tag = tag.val
        (same → done (took missDup a)) ∧
        (¬same → s.hold.length < 8 →
          done (({ a with pool := born tag.val
                          hold := s.hold ++
                            [({ frame := s.pool.nextId, expiry := max s.now t + 1000 * s.params.holdTime } : Held)] }).notify
            (.miss l tag.val))) ∧
        (¬same → 8 ≤ s.hold.length → done (took holdFull a))))

/-- DOWNSTREAM_ARRIVAL (R23, R32, R33, R39, R46, R83, R84): with no match the uplink drop count gains 1; with a match
each target line that is not eligible counts its drop, and the eligible lines all take the frame, or all count POOL
when cells are too few. -/
def Obligations.DownstreamArrival : Prop :=
  ∀ (t : Nat) (tag : Fin 4096) (len : Nat) (s : State), s.running = true → 64 ≤ len → len ≤ 1536 → FlowsOk s →
    let a := s.advance t
    let cells := (len + 127) / 128
    let hits (e : FlowEntry) := e.down = true ∧ e.uplinkBase ≤ tag.val ∧ tag.val < e.uplinkBase + 2 ^ e.spanExp
    let drop (reason : Counters → Counters) (rec : LineRec) : LineRec := { rec with
      counters := reason { rec.counters with dropsDown := rec.counters.dropsDown + 1 } }
    let inPool (c : Counters) : Counters := { c with pool := c.pool + 1 }
    let outOfService (c : Counters) : Counters := { c with notInService := c.notInService + 1 }
    let egressFull (c : Counters) : Counters := { c with egressFull := c.egressFull + 1 }
    ((∀ (k : FlowIdx) e, s.flows[k] = some e → ¬hits e) →
      exec (.downstreamArrival t tag len) s =
        .next { a with pool := { s.pool with uplinkDrops := s.pool.uplinkDrops + 1 } }) ∧
    (∀ (k : FlowIdx) e, s.flows[k] = some e → hits e →
      let targets : List LineNo := match e.owner with
        | .line l => [l]
        | .shared => allLines.filter fun l => LineSet.has e.members l
      let takes (l : LineNo) : Bool := (s.line l).state == .inService && s.egress[l].length < 24
      let n := (targets.filter takes).length
      let fits : Bool := cells ≤ s.pool.free
      let born : Frame :=
        { origin := .uplink, tag := e.lineBase + (tag.val - e.uplinkBase), length := len, cells := cells, refs := n }
      ∃ u : State, exec (.downstreamArrival t tag len) s = .next u ∧
        (∀ l, u.line l =
          if l ∈ targets then
            if takes l then (if fits then s.line l else drop inPool (s.line l))
            else if (s.line l).state = .inService then drop egressFull (s.line l)
            else drop outOfService (s.line l)
          else s.line l) ∧
        (∀ l : LineNo, u.egress[l] = if l ∈ targets ∧ takes l = true ∧ fits = true then s.egress[l] ++ [s.pool.nextId]
          else s.egress[l]) ∧
        u.pool = (if 0 < n ∧ fits = true then { s.pool with
            free := s.pool.free - cells, nextId := s.pool.nextId + 1
            frames := s.pool.frames ++ [(s.pool.nextId, born)] } else s.pool) ∧
        u = { a with flows := s.flows.set k (some { e with matchDown := e.matchDown + 1 }), lines := u.lines,
                     egress := u.egress, pool := u.pool })

/-- UPLINK_STATUS_REPORT (R77, R78): a report of the recorded status changes nothing; any other is recorded, with its
class while UP, and queues one UPLINK notice with the cap class; either answers the asking of the start (R82; log 31).
TRANSCEIVER_TAKE and UPLINK_TAKE (R34, R37): the head frame leaves its queue, is counted, and gives up its position;
nothing is taken from an empty queue, by a line out of service, or while the uplink is DOWN. And what giving up a
position does (R28): the last one frees the cells and removes the record, any other lowers the count by 1. -/
def Obligations.UplinkAndTakes : Prop :=
  (∀ (t : Nat) (r : Option RateClass) (s : State), s.running = true →
    let a := s.advance t
    let heard : State := { a with uplink := { status := r, asked := false } }
    (s.uplink.status = r → exec (.uplinkStatusReport t r) s = .next heard) ∧
    (s.uplink.status ≠ r → exec (.uplinkStatusReport t r) s = .next (heard.notify (.uplink r s.energy.cap)))) ∧
  (∀ (t : Nat) (l : LineNo) (s : State), s.running = true →
    let a := s.advance t
    (∀ id rest, (s.line l).state = .inService → s.egress[l] = id :: rest →
      exec (.transceiverTake t l) s = .next
        (({ a with egress := s.egress.set l rest, pool := s.pool.giveUp id }).setLine l fun r =>
          { r with counters := { r.counters with
              framesDown := r.counters.framesDown + 1
              bytesDown := r.counters.bytesDown + BitVec.ofNat 32 (s.frameLength id) } })) ∧
    ((s.line l).state ≠ .inService ∨ s.egress[l] = [] → exec (.transceiverTake t l) s = .next a)) ∧
  (∀ (t : Nat) (s : State), s.running = true →
    let a := s.advance t
    (∀ id rest f l, s.uplink.status ≠ none → s.sched.launch = id :: rest → s.pool.find id = some f → f.origin = .line l →
      exec (.uplinkTake t) s = .next
        (({ a with sched := { s.sched with launch := rest }, pool := s.pool.giveUp id }).setLine l fun r =>
          { r with counters := { r.counters with
              framesUp := r.counters.framesUp + 1, bytesUp := r.counters.bytesUp + BitVec.ofNat 32 f.length } })) ∧
    (s.uplink.status = none ∨ s.sched.launch = [] → exec (.uplinkTake t) s = .next a)) ∧
  (∀ (p : Pool) (id : Nat) (f : Frame), (p.frames.map Prod.fst).Nodup → p.find id = some f →
    let q := p.giveUp id
    (f.refs = 1 → q.free = p.free + f.cells ∧ q.find id = none) ∧
    (1 < f.refs → q.free = p.free ∧ q.find id = some { f with refs := f.refs - 1 }) ∧
    (∀ j, j ≠ id → q.find j = p.find j))

/-- HOLD_EXPIRY (R38, R61; log 3): the held frame of that line and tag whose time has been reached leaves the list,
its cells are freed and HOLD_EXPIRED counts against its line. And the release pass (R62, R64): the held frames that
the entry matches leave the list, each placed or dropped, and each is counted by the entry. Frame by frame, oldest
first: the frame takes its uplink tag and joins the tail of its line's ingress queue while that is shorter than the
line's limit; otherwise it gives up its position and counts HOLD_RELEASE_FULL as a drop up of its line. -/
def Obligations.HeldFramesEnd : Prop :=
  (∀ (t : Nat) (l : LineNo) (tag : Fin 4096) (s : State), s.running = true →
    let a := s.advance t
    (∀ h, s.findHeld l tag.val = some h → h.expiry ≤ max s.now t →
      exec (.holdExpiry t l tag) s = .next (({ a with
        hold := s.hold.filter fun k => k.frame != h.frame, pool := s.pool.giveUp h.frame }).setLine l fun rec =>
          { rec with counters := { rec.counters with
              dropsUp := rec.counters.dropsUp + 1, holdExpired := rec.counters.holdExpired + 1 } })) ∧
    ((∀ h, s.findHeld l tag.val = some h → max s.now t < h.expiry) → exec (.holdExpiry t l tag) s = .next a)) ∧
  (∀ (k : FlowIdx) (e : FlowEntry) (s : State), PoolOk s → s.flows[k] = some e →
    let hit (h : Held) : Bool := match s.heldKey h with
      | some (l, tag) => e.matchesUp l tag
      | none => false
    let out := s.releasePass k e
    out.1.hold = s.hold.filter (fun h => !hit h) ∧ out.2.1 + out.2.2 = (s.hold.filter hit).length ∧
    out.1.flows = s.flows.set k
      (some { e with matchUp := e.matchUp + BitVec.ofNat 32 (s.hold.filter hit).length })) ∧
  (∀ (k : FlowIdx) (e : FlowEntry) (s : State),
    let visit (acc : State × Nat × Nat) (h : Held) : State × Nat × Nat :=
      let v := acc.1
      match v.pool.find h.frame with
      | none => acc
      | some f =>
        match f.origin with
        | .uplink => acc
        | .line l =>
          if e.up = true ∧ (e.owner = .line l ∨ e.owner = .shared) ∧ e.lineBase ≤ f.tag ∧
              f.tag < e.lineBase + 2 ^ e.spanExp then
            let left : State := { v with
              flows := v.flows.set k (v.flows[k].map fun (g : FlowEntry) => { g with matchUp := g.matchUp + 1 })
              hold := v.hold.filter fun g => g.frame != h.frame }
            if v.sched.ingress[l].length < (v.line l).profile.limit then
              (({ left with pool := { v.pool with frames := v.pool.frames.map fun (q : Nat × Frame) =>
                  if q.1 = h.frame then (q.1, { q.2 with tag := e.uplinkBase + (f.tag - e.lineBase) }) else q } }).joinIngress
                l h.frame, acc.2.1 + 1, acc.2.2)
            else
              (({ left with pool := v.pool.giveUp h.frame }).setLine l fun rec => { rec with
                counters := { rec.counters with
                  dropsUp := rec.counters.dropsUp + 1, holdReleaseFull := rec.counters.holdReleaseFull + 1 } },
                acc.2.1, acc.2.2 + 1)
          else acc
    s.releasePass k e = s.hold.foldl visit (s, 0, 0))

/-- SCHEDULER_DECISION (R67, R69 to R73): none with the active list empty or 4 frames in the launch list; a head frame
within the deficit is granted, ending the turn with deficit 0 when it was the last; one beyond it ends the turn, and
the next line's turn begins with its quantum. And a frame that joins an ingress queue lists its line (R30, R68). -/
def Obligations.SchedulerDecision : Prop :=
  (∀ (t : Nat) (s : State), s.running = true → s.sched.active.Nodup →
    let a := s.advance t
    let quantum (l : LineNo) := 256 * (s.line l).profile.weight
    let done (c : Sched) : Prop := exec (.schedulerDecision t) s = .next { a with sched := c }
    let granted (l : LineNo) (id : Nat) (more : List Nat) : Sched := { s.sched with
      ingress := s.sched.ingress.set l more, launch := s.sched.launch ++ [id] }
    (s.sched.active = [] ∨ 4 ≤ s.sched.launch.length → done s.sched) ∧
    (∀ l rest id more, s.sched.launch.length < 4 → s.sched.active = l :: rest → s.sched.ingress[l] = id :: more →
      (s.frameLength id ≤ s.sched.deficit[l] → more ≠ [] → done { granted l id more with
        deficit := s.sched.deficit.set l (s.sched.deficit[l] - s.frameLength id) }) ∧
      (s.frameLength id ≤ s.sched.deficit[l] → more = [] → rest = [] → done { granted l id more with
        active := [], deficit := s.sched.deficit.set l 0 }) ∧
      (∀ m ms, s.frameLength id ≤ s.sched.deficit[l] → more = [] → rest = m :: ms → done { granted l id more with
        active := rest, deficit := (s.sched.deficit.set l 0).set m (s.sched.deficit[m] + quantum m) }) ∧
      (s.sched.deficit[l] < s.frameLength id → rest = [] → done { s.sched with
        deficit := s.sched.deficit.set l (s.sched.deficit[l] + quantum l) }) ∧
      (∀ m ms, s.sched.deficit[l] < s.frameLength id → rest = m :: ms → done { s.sched with
        active := rest ++ [l], deficit := s.sched.deficit.set m (s.sched.deficit[m] + quantum m) }))) ∧
  (∀ (l : LineNo) (id : Nat) (s : State),
    s.joinIngress l id = { s with sched := { s.sched with
      ingress := s.sched.ingress.set l (s.sched.ingress[l] ++ [id])
      active := if s.sched.ingress[l] = [] then s.sched.active ++ [l] else s.sched.active
      deficit := if s.sched.ingress[l] = [] then
          s.sched.deficit.set l (if s.sched.active = [] then 256 * (s.line l).profile.weight else 0)
        else s.sched.deficit } })

/-! ### Test orders -/

/-- TEST ORDER (R103 to R105, R108): the engine's checks in their order, RANGE for the line, the step count and a
step, FULL with 8 orders queued; otherwise the order joins the tail under the engine's next id, the reply carries it,
and the engine makes an attempt. That id is the first number after the last assigned, 255 returning to 1, that no
queued order, current order or result record has (R104). And the host step that a step becomes by the fields its kind
uses, and the program loaded for it (R102); the value bytes of an absent limit do not matter, which is the model's
choice (log 34). -/
def Obligations.TestOrderPlaced : Prop :=
  (∀ (t : Nat) (h : Header) (l : LineNo) (intr quar clr : Bool) (steps : List RawStep) (s : State),
    Ready h.port s → Direct h → Entitled h.port s → (∀ x ∈ steps, StepCodes x) →
    let u := s.taken t h.port
    let done (v : State) : Prop :=
      exec (.testOrder t h (lineByte l) (flagByte intr) (flagByte quar) (flagByte clr) steps) s = .next v
    (s.equipped l = false ∨ steps.length = 0 ∨ 5 < steps.length ∨ hostSteps steps = none →
      done (u.answers h 0x30 .range [])) ∧
    (∀ hs, s.equipped l = true → 1 ≤ steps.length → steps.length ≤ 5 → hostSteps steps = some hs →
      let o : TestOrder := { id := s.engine.nextId, origin := h.port, line := l, interrupt := intr,
                             quarantineOnFail := quar, clearOnPass := clr, steps := hs }
      let v : State := { u with engine := { s.engine with queue := s.engine.queue ++ [o], lastId := o.id } }
      (8 ≤ s.engine.queue.length → done (u.answers h 0x30 .full [])) ∧
      (s.engine.queue.length < 8 → done (v.attempt.answers h 0x30 .ok [BitVec.ofNat 8 o.id])))) ∧
  (∀ r : RawStep, StepCodes r →
    let level (v : Half) : Prop := -2048 ≤ v.toInt ∧ v.toInt ≤ 2047
    let fits : Prop := r.exp.toNat ≤ 7 ∧ 1 ≤ r.period.toNat ∧ 10 ≤ r.window.toNat ∧ r.window.toNat ≤ 2000 ∧
      (r.lowerPresent = 1 → r.upperPresent = 1 → r.lower.toNat ≤ r.upper.toNat)
    let made (stim : Stimulus) : Prop := RawStep.host r = some
      { stim, exp := r.exp.toNat, period := r.period.toNat, window := r.window.toNat
        lower := if r.lowerPresent = 1 then some r.lower.toNat else none
        upper := if r.upperPresent = 1 then some r.upper.toNat else none }
    (¬fits → RawStep.host r = none) ∧
    (r.kind = 0 → (level r.first → fits → made (.loop r.first.toInt)) ∧ (¬level r.first → RawStep.host r = none)) ∧
    (r.kind = 1 → (level r.first → fits → made (.leak r.first.toInt)) ∧ (¬level r.first → RawStep.host r = none)) ∧
    (r.kind = 2 →
      let pair := level r.first ∧ level r.high ∧ r.first.toInt < r.high.toInt
      (pair → fits → made (.cap r.first.toInt r.high.toInt)) ∧ (¬pair → RawStep.host r = none)) ∧
    (r.kind = 3 → (r.first.toNat ≤ 2047 → fits → made (.term r.first.toNat)) ∧
      (2047 < r.first.toNat → RawStep.host r = none))) ∧
  (∀ (rs : List RawStep) (hs : List HostStep), hostSteps rs = some hs ↔ rs.map RawStep.host = hs.map some) ∧
  (∀ (v high : Int) (n : Nat),
    Stimulus.program (.loop v) = .level (2048 + v).toNat ∧ Stimulus.program (.leak v) = .level (2048 + v).toNat ∧
    Stimulus.program (.cap v high) = .triangle (2048 + v).toNat (2048 + high).toNat ∧
    Stimulus.program (.term n) = .sine n 0 ∧
    [Stimulus.loop v, .leak v, .cap v high, .term n].map Stimulus.kind = [.loop, .leak, .cap, .term]) ∧
  (∀ s : State, RangesOk s → s.engine.lastId ≤ 255 →
    let id := s.engine.nextId
    let turns (j : Nat) : Nat := (j + 254 - s.engine.lastId) % 255
    1 ≤ id ∧ id ≤ 255 ∧ id ∉ s.engine.ids ∧
    ∀ j, 1 ≤ j → j ≤ 255 → j ∉ s.engine.ids → turns id ≤ turns j)

/-- TEST CANCEL (R125): a queued order ends ABORTED with cause CANCEL and the engine makes an attempt; a current order
in an early phase begins an exit; in RELEASE or EXIT it is STATE; an id in neither place is NOT_FOUND; a MAIN order is
DENIED to the craft port. -/
def Obligations.TestOrderCancelled : Prop :=
  ∀ (t : Nat) (h : Header) (id : Byte) (s : State), Ready h.port s → Direct h → Entitled h.port s → id ≠ 0 →
    let u := s.taken t h.port
    let done (v : State) : Prop := exec (.testCancel t h id) s = .next v
    let foreign (o : TestOrder) := h.port = .craft ∧ o.origin = .main
    (∀ o, s.engine.queue.find? (fun q => q.id == id.toNat) = some o →
      let r : Result := { id := o.id, origin := o.origin, line := o.line, outcome := .aborted, cause := some .cancel,
                          foreignValue := none, steps := [], exit := none, returned := none, readMain := false,
                          readCraft := false }
      let left : State := { u with engine := { s.engine with queue := s.engine.queue.filter fun q => q.id != o.id } }
      (foreign o → done (u.answers h 0x31 .denied [])) ∧
      (¬foreign o → done ((left.storeResult r).attempt.answers h 0x31 .ok []))) ∧
    ((∀ o ∈ s.engine.queue, o.id ≠ id.toNat) →
      (∀ c, s.engine.current = some c → c.order.id = id.toNat →
        (foreign c.order → done (u.answers h 0x31 .denied [])) ∧
        (¬foreign c.order → c.phase.early = true → done ((u.beginExit .cancel).answers h 0x31 .ok [])) ∧
        (¬foreign c.order → c.phase.early = false → done (u.answers h 0x31 .state []))) ∧
      ((∀ c, s.engine.current = some c → c.order.id ≠ id.toNat) → done (u.answers h 0x31 .notFound [])))

/-- TEST RESULT (R122, R124) answers the oldest record the port has not read, or the record of an id, and sets that
record's read mark for the port; NOT_FOUND when there is none. TEST HALT (R126, R139) removes every queued order,
oldest first, ABORTED with cause HALT, then begins an exit of an early current order; its status is STATE in RELEASE
or EXIT. -/
def Obligations.TestResultAndHalt : Prop :=
  ∀ (t : Nat) (h : Header) (s : State), Ready h.port s → Direct h →
    let u := s.taken t h.port
    (Entitled h.port s → ∀ (oldest : Bool) (id : Byte), oldest = true ∨ id ≠ 0 →
      let mine (r : Result) : Bool := match h.port with
        | .main => r.readMain
        | .craft => r.readCraft
      let mark (r : Result) : Result := match h.port with
        | .main => { r with readMain := true }
        | .craft => { r with readCraft := true }
      let asked := s.engine.results.find? fun r : Result => if oldest then !mine r else r.id == id.toNat
      (asked = none → exec (.testResult t h (flagByte oldest) id) s = .next (u.answers h 0x32 .notFound [])) ∧
      (∀ r, asked = some r → exec (.testResult t h (flagByte oldest) id) s = .next
        (({ u with engine := { s.engine with
            results := s.engine.results.map fun q : Result => if q.id = r.id then mark q else q } }).answers h 0x32 .ok r.bytes))) ∧
    (h.port = .main →
      let gone (v : State) (o : TestOrder) : State :=
        ({ v with engine := { v.engine with queue := v.engine.queue.filter fun q => q.id != o.id } }).storeResult
          { id := o.id, origin := o.origin, line := o.line, outcome := .aborted, cause := some .halt,
            foreignValue := none, steps := [], exit := none, returned := none, readMain := false, readCraft := false }
      let emptied := s.engine.queue.foldl gone u
      let n : List Byte := [BitVec.ofNat 8 s.engine.queue.length]
      emptied.engine.queue = [] ∧
      (s.engine.current = none → exec (.testHalt t h) s = .next (emptied.answers h 0x34 .ok n)) ∧
      (∀ c, s.engine.current = some c → c.phase.early = true →
        exec (.testHalt t h) s = .next ((emptied.beginExit .halt).answers h 0x34 .ok n)) ∧
      (∀ c, s.engine.current = some c → c.phase.early = false →
        exec (.testHalt t h) s = .next (emptied.answers h 0x34 .state n)))

/-- An attempt of the engine (R107 to R110, R12, R154): the oldest CRAFT order, or else the oldest order, is taken
when surge, supply and energy allow it. Its line decides: REFUSED with a further attempt, or current in WARMUP with
test power on and its line WITHDRAWN, OFF_BUS, after which the pass of the net change runs. -/
def Obligations.Attempt : Prop :=
  ∀ s : State,
    (s.engine.current ≠ none ∨ s.engine.queue = [] → s.attempt = s) ∧
    (∀ o, s.engine.current = none →
      (s.engine.queue.find? (fun q => q.origin == .craft)).or s.engine.queue.head? = some o →
      let counted := (∃ d, (s.line o.line).state = .training d) ∨ (s.line o.line).state = .inService
      let spare := s.points.surge = .calm ∧ s.energy.supply ≠ .battCrit ∧
        ((o.interrupt = true ∧ counted ∧ s.committed + 6 ≤ s.budget + (s.line o.line).profile.cost) ∨
          s.committed + 6 ≤ s.budget)
      let left : State := { s with engine := { s.engine with queue := s.engine.queue.filter fun q => q.id != o.id } }
      let unshed : State := { left with energy := { s.energy with shed := s.energy.shed.filter fun k => k != o.line } }
      let warmup : Current :=
        { order := o, phase := .warmup (s.now + 20000), foreignValue := none, results := [], soFar := .pass }
      let took (target : Target) : State :=
        let out := unshed.moveLine o.line (.withdrawn target .offBus) .test
        let on : State := { out with
          engine := { out.engine with current := some warmup }
          points := { out.points with testPower := true } }
        if s.committed < on.committed then on.sheddingPass
        else if on.committed < s.committed then on.restoringPass else on
      let refused := left.storeResult
        { id := o.id, origin := o.origin, line := o.line, outcome := .refused, cause := some .inService,
          foreignValue := none, steps := [], exit := none, returned := none, readMain := false, readCraft := false }
      (¬spare → s.attempt = s) ∧
      (spare →
        ((s.line o.line).state = .idle → s.attempt = took .idle) ∧
        ((s.line o.line).state = .shed → s.attempt = took .training) ∧
        (∀ q, (s.line o.line).state = .quarantined q → s.attempt = took (.quarantined q)) ∧
        (counted → o.interrupt = true → s.attempt = took .training) ∧
        (counted → o.interrupt = false → s.attempt = refused.attempt)))

/-! ### The generator and the phases -/

/-- STEP_EVENT (R89, R92 to R95): none due, nothing, and an early one does nothing, which is the model's choice (log
3); a ramp moves by 2 to the power e, or lands, giving level reached; a settled triangle moves between its codes; a
settled sine outputs the point at its index. And the loads (R90, R91). -/
def Obligations.StepEvent : Prop :=
  (∀ (t : Nat) (s : State), s.running = true →
    let a := s.advance t
    let g := s.gen
    let near (goal : Nat) : Nat :=
      if max g.code goal - min g.code goal ≤ 2 ^ g.exp then goal
      else if g.code < goal then g.code + 2 ^ g.exp else g.code - 2 ^ g.exp
    let later := some (max s.now t + 20 * g.period)
    let done (v : State) : Prop := exec (.stepEvent t) s = .next v
    ((∀ e, g.next = some e → max s.now t < e) → done a) ∧
    (∀ e, g.next = some e → e ≤ max s.now t →
      (g.motion = .ramping → near g.program.settling ≠ g.program.settling →
        done { a with gen := { g with code := near g.program.settling, next := later } }) ∧
      (g.motion = .ramping → near g.program.settling = g.program.settling →
        done ({ a with gen := { g with
          code := g.program.settling, motion := .settled
          dir := match g.program with
            | .triangle _ _ => some .up
            | _ => none
          next := match g.program with
            | .triangle _ _ | .sine _ _ => later
            | _ => none } }).levelReached) ∧
      (∀ low high, g.motion = .settled → g.program = .triangle low high →
        (g.dir = some .up → done { a with gen := { g with
          code := near high, dir := some (if near high = high then .down else .up), next := later } }) ∧
        (g.dir = some .down → done { a with gen := { g with
          code := near low, dir := some (if near low = low then .up else .down), next := later } })) ∧
      (∀ amp start k, g.motion = .settled → g.program = .sine amp start → g.sine = some k → k < 32 →
        done { a with gen := { g with
          code := (2048 + Int.tdiv ((amp : Int) * ([0, 25, 49, 71, 90, 106, 117, 125, 127, 125, 117, 106, 90, 71, 49,
            25, 0, -25, -49, -71, -90, -106, -117, -125, -127, -125, -117, -106, -90, -71, -49, -25] :
              List Int).getD k 0) 127).toNat
          sine := some ((k + 1) % 32), next := later } }))) ∧
  (∀ (prog : Program) (e p : Nat) (s : State),
    let base : Generator := { s.gen with program := prog, exp := e, period := p, sine := match prog with
      | .sine _ k => some k
      | _ => none }
    let later := some (s.now + 20 * p)
    (s.gen.code ≠ prog.settling →
      s.load prog e p = { s with gen := { base with motion := .ramping, dir := none, next := later } }) ∧
    (s.gen.code = prog.settling →
      s.load prog e p = ({ s with gen := { base with
        motion := .settled
        dir := match prog with
          | .triangle _ _ => some .up
          | _ => none
        next := match prog with
          | .triangle _ _ | .sine _ _ => later
          | _ => none } }).levelReached))

/-- What a level reached does by the phase of the current order (R91, R115, R116, R118, R127, R134), and the timers of
WARMUP and ISOLATE once they are reached (R112, R113, R115; log 3): with the line of the order WITHDRAWN. In any other
phase, and with an idle engine, a level reached is discarded and each of those timers does nothing. -/
def Obligations.EngineTimers : Prop :=
  (∀ s : State, s.engine.current = none → s.levelReached = s ∧ ∀ t : Nat, s.running = true →
    exec (.warmupTimerExpiry t) s = .next (s.advance t) ∧ exec (.firstSettleExpiry t) s = .next (s.advance t) ∧
    exec (.secondSettleExpiry t) s = .next (s.advance t)) ∧
  ∀ (s : State) (c : Current) (tgt : Target) (conn : Conn), s.engine.current = some c →
    (s.line c.order.line).state = .withdrawn tgt conn →
    let at_ (ph : Phase) (v : State) : State :=
      { v with engine := { v.engine with current := some { c with phase := ph } } }
    let bus (k : Conn) (v : State) : State := v.setLine c.order.line fun r => { r with state := .withdrawn tgt k }
    let off (v : State) : State := { v with gen := { v.gen with drive := false } }
    (c.phase = .foreign none → s.levelReached = at_ (.foreign (some (s.now + 100000))) s) ∧
    (∀ k st, c.phase = .step k none → c.order.steps[k - 1]? = some st →
      s.levelReached = at_ (.step k (some (s.now + 1000 * st.window))) s) ∧
    (c.phase = .releaseRamp → s.levelReached = at_ (.releaseSettle (s.now + 8000)) (bus .offBus (off s))) ∧
    (∀ x, c.phase = .exit x → x.stage = .ramp →
      s.levelReached = at_ (.exit { x with stage := .settle (s.now + 8000) }) (bus .offBus (off s))) ∧
    (c.phase ≠ .foreign none → (∀ k, c.phase ≠ .step k none) → c.phase ≠ .releaseRamp →
      (∀ x, c.phase = .exit x → x.stage ≠ .ramp) → s.levelReached = s) ∧
    (∀ t : Nat, s.running = true →
      let a := s.advance t
      let now := max s.now t
      ((∀ e, c.phase ≠ .warmup e) → exec (.warmupTimerExpiry t) s = .next a) ∧
      ((∀ e, c.phase ≠ .firstSettle e) → exec (.firstSettleExpiry t) s = .next a) ∧
      ((∀ e, c.phase ≠ .secondSettle e) → exec (.secondSettleExpiry t) s = .next a) ∧
      (∀ e, c.phase = .warmup e → exec (.warmupTimerExpiry t) s =
        .next (if e ≤ now then at_ (.firstSettle (now + 8000)) a else a)) ∧
      (∀ e, c.phase = .firstSettle e → exec (.firstSettleExpiry t) s =
        .next (if e ≤ now then at_ (.secondSettle (now + 8000)) (bus .onBus a) else a)) ∧
      (∀ e, c.phase = .secondSettle e → e ≤ now → s.gen.code = 2048 → exec (.secondSettleExpiry t) s =
        .next (at_ (.foreign (some (now + 100000))) { a with gen :=
          { code := 2048, drive := true, program := .rest, exp := 5, period := 1, motion := .settled, sine := none,
            dir := none, next := none } })) ∧
      (∀ e, c.phase = .secondSettle e → now < e → exec (.secondSettleExpiry t) s = .next a))

/-- MEASUREMENT_READING (R114 to R116, R118): the FOREIGN reading is the largest of three and ends the order's run at
the hazard limit, else STEP 1 begins; a step's reading is recorded and the next step, or RELEASE with the step's e and
p, begins; a reading that finds no window open, or an idle engine, is discarded. That a reading of another kind than
the open window's is discarded too is the model's choice (log 15). -/
def Obligations.Readings : Prop :=
  (∀ (t : Nat) (s : State) (r : Reading), s.running = true → s.engine.current = none →
    exec (.measurementReading t r) s = .next (s.advance t)) ∧
  ∀ (t : Nat) (s : State) (c : Current), s.running = true → s.engine.current = some c →
    let a := s.advance t
    let at_ (c' : Current) (v : State) : State := { v with engine := { v.engine with current := some c' } }
    let begin_ (c' : Current) (k : Nat) (st : HostStep) : State :=
      (at_ { c' with phase := .step k none } a).load st.stim.program st.exp st.period
    (∀ w x y z, c.phase = .foreign (some w) →
      let v := max x.toNat (max y.toNat z.toNat)
      (10 * s.params.hazardLimit ≤ v → exec (.measurementReading t (.foreign x y z)) s =
        .next ((at_ { c with foreignValue := some v, soFar := .hazard, phase := .releaseRamp } a).load .rest 5 1)) ∧
      (v < 10 * s.params.hazardLimit → ∀ st, c.order.steps[0]? = some st →
        exec (.measurementReading t (.foreign x y z)) s = .next (begin_ { c with foreignValue := some v } 1 st))) ∧
    (∀ w k v st, c.phase = .step k (some w) → c.order.steps[k - 1]? = some st →
      let judged : Current := { c with
        results := c.results ++ [{ kind := st.stim.kind, value := v.toNat, verdict := st.verdict v.toNat }]
        soFar := if st.verdict v.toNat = .fail ∧ c.soFar = .pass then .fail else c.soFar }
      (∀ next, k < c.order.steps.length → c.order.steps[k]? = some next →
        exec (.measurementReading t (.value v)) s = .next (begin_ judged (k + 1) next)) ∧
      (c.order.steps.length ≤ k → exec (.measurementReading t (.value v)) s =
        .next ((at_ { judged with phase := .releaseRamp } a).load .rest st.exp st.period))) ∧
    (∀ r, (∀ w, c.phase ≠ .foreign (some w)) → (∀ k w, c.phase ≠ .step k (some w)) →
      exec (.measurementReading t r) s = .next a) ∧
    (∀ w v, c.phase = .foreign (some w) → exec (.measurementReading t (.value v)) s = .next a) ∧
    (∀ k w x y z, c.phase = .step k (some w) → exec (.measurementReading t (.foreign x y z)) s = .next a)

/-- A step's verdict (R117): PASS, FAIL and NONE by its limits, 65535 judged as a number; a FAIL makes the outcome so
far FAIL unless it is HAZARD; and the order goes on to its next step, or to RELEASE, whatever the verdict. -/
def Obligations.StepVerdict : Prop :=
  ∀ (t : Nat) (s : State) (c : Current) (k w : Nat) (v : Half) (st : HostStep), s.running = true →
    s.engine.current = some c → c.phase = .step k (some w) → c.order.steps[k - 1]? = some st → 1 ≤ k →
    let low := ∃ n, st.lower = some n ∧ v.toNat < n
    let high := ∃ n, st.upper = some n ∧ n < v.toNat
    let some_ := st.lower ≠ none ∨ st.upper ≠ none
    ∃ (u : State) (d : Current) (r : StepResult), exec (.measurementReading t (.value v)) s = .next u ∧
      u.engine.current = some d ∧ d.order = c.order ∧ d.results = c.results ++ [r] ∧ r.value = v.toNat ∧
      (some_ ∧ ¬low ∧ ¬high → r.verdict = .pass) ∧ (some_ ∧ (low ∨ high) → r.verdict = .fail) ∧
      (¬some_ → r.verdict = .none) ∧
      (r.verdict = .fail → c.soFar ≠ .hazard → d.soFar = .fail) ∧ (c.soFar = .hazard → d.soFar = .hazard) ∧
      (r.verdict ≠ .fail → d.soFar = c.soFar) ∧
      (k < c.order.steps.length → ∃ w', d.phase = .step (k + 1) w') ∧
      (k = c.order.steps.length → d.phase = .releaseRamp ∨ ∃ e, d.phase = .releaseSettle e)

/-! ### Protective exits and the end of an order -/

/-- HAZARD_CROSSING by the phase (R114, R131, R133, R137): FOREIGN and STEP begin a CUT exit, an exit escalates by its
stage, any other phase and an idle engine take nothing. The limit that the front end is given is the parameter (R114).
And how an exit begins in each mode (R130, R133 to R135, R138). -/
def Obligations.HazardAndExits : Prop :=
  (∀ (t : Nat) (s : State), s.running = true → s.engine.current = none →
    exec (.hazardCrossing t) s = .next (s.advance t)) ∧
  (∀ s : State, s.hazardLimit = s.params.hazardLimit) ∧
  ∀ (s : State) (c : Current) (tgt : Target) (conn : Conn), s.engine.current = some c →
    (s.line c.order.line).state = .withdrawn tgt conn →
    let at_ (ph : Phase) (v : State) : State :=
      { v with engine := { v.engine with current := some { c with phase := ph } } }
    let open_ (v : State) : State := v.setLine c.order.line fun r => { r with state := .withdrawn tgt .offBus }
    let cut (v : State) : State := { v with gen := { v.gen with
      code := 2048, drive := false, program := .rest, motion := .settled, sine := none, dir := none, next := none } }
    let rec_ (cause : Cause) (mode : ExitMode) (stage : ExitStage) : ExitRec :=
      { cause, second := none, mode, stage, energyHeld := cause == .energy }
    (∀ t : Nat, s.running = true →
      let a := s.advance t
      let settle := ExitStage.settle (max s.now t + 8000)
      ((∃ w, c.phase = .foreign w) ∨ (∃ k w, c.phase = .step k w) → exec (.hazardCrossing t) s =
        .next (at_ (.exit (rec_ .hazard .cut settle)) (open_ (cut a)))) ∧
      (∀ x, c.phase = .exit x →
        let y : ExitRec := { x with
          second := if x.second = none ∧ x.cause ≠ .hazard then some .hazard else x.second }
        (x.stage = .ramp → exec (.hazardCrossing t) s =
          .next (at_ (.exit { y with mode := .cut, stage := settle }) (open_ (cut a)))) ∧
        (∀ e, x.stage = .dwell e → exec (.hazardCrossing t) s =
          .next (at_ (.exit { y with mode := .cut, stage := settle }) (open_ a))) ∧
        (∀ e, x.stage = .settle e → exec (.hazardCrossing t) s = .next (at_ (.exit y) a))) ∧
      ((∀ w, c.phase ≠ .foreign w) → (∀ k w, c.phase ≠ .step k w) → (∀ x, c.phase ≠ .exit x) →
        exec (.hazardCrossing t) s = .next a)) ∧
    (∀ cause : Cause,
      let settle := ExitStage.settle (s.now + 8000)
      (cause = .hazard ∨ cause = .surge ∨ s.params.exitMode = .cut →
        s.beginExit cause = at_ (.exit (rec_ cause .cut settle)) (open_ (cut s))) ∧
      (cause ≠ .hazard → cause ≠ .surge → s.params.exitMode = .ramp →
        s.beginExit cause = (at_ (.exit (rec_ cause .ramp .ramp)) s).load .rest 5 1) ∧
      (cause ≠ .hazard → cause ≠ .surge → s.params.exitMode = .dwell → conn = .onBus →
        s.beginExit cause = at_ (.exit (rec_ cause .dwell (.dwell (s.now + 500000)))) (cut s)) ∧
      (cause ≠ .hazard → cause ≠ .surge → s.params.exitMode = .dwell → conn = .offBus →
        s.beginExit cause = at_ (.exit (rec_ cause .dwell settle)) (open_ (cut s))))

/-- RELEASE_SETTLE_EXPIRY and EXIT_SETTLE_EXPIRY once the timer is reached (R118 to R123, R136, R15; log 3): test
power off, the outcome, the return resolved and made, the result stored with its TEST notice, the engine idle, the
restoring pass, an attempt. DWELL_EXPIRY opens the relay and begins SETTLE (R135). Before its timer, in another phase
or stage, and with an idle engine, each does nothing. -/
def Obligations.OrderEnds : Prop :=
  (∀ (t : Nat) (s : State), s.running = true → s.engine.current = none →
    exec (.releaseSettleExpiry t) s = .next (s.advance t) ∧ exec (.exitSettleExpiry t) s = .next (s.advance t) ∧
    exec (.dwellExpiry t) s = .next (s.advance t)) ∧
  (∀ (t : Nat) (s : State) (c : Current), s.running = true → s.engine.current = some c →
    ((∀ e, c.phase ≠ .releaseSettle e) → exec (.releaseSettleExpiry t) s = .next (s.advance t)) ∧
    ((∀ x e, c.phase = .exit x → x.stage ≠ .settle e) → exec (.exitSettleExpiry t) s = .next (s.advance t)) ∧
    ((∀ x e, c.phase = .exit x → x.stage ≠ .dwell e) → exec (.dwellExpiry t) s = .next (s.advance t))) ∧
  ∀ (t : Nat) (s : State) (c : Current) (tgt : Target) (conn : Conn), s.running = true → s.engine.current = some c →
    (s.line c.order.line).state = .withdrawn tgt conn →
    let a := s.advance t
    let now := max s.now t
    let l := c.order.line
    let ended (outcome : TestOutcome) (cause : Option Cause) (x : Option ExitReport) : State :=
      let back : Target :=
        if c.order.quarantineOnFail = true ∧ (outcome = .fail ∨ outcome = .hazard) then .quarantined .test
        else match tgt with
          | .quarantined q => if c.order.clearOnPass = true ∧ outcome = .pass then .idle else .quarantined q
          | other => other
      let v : State := { a with points := { s.points with testPower := false } }
      let fits : Bool := s.committed + (s.line l).profile.cost ≤ s.budget
      let made : ReturnState × State := match back with
        | .idle => (.idle, (match tgt with
            | .quarantined _ => v.setLine l fun r => { r with failCount := 0 }
            | _ => v).moveLine l .idle .test)
        | .quarantined q => (.quarantined q, v.moveLine l (.quarantined q) .test)
        | .training =>
          if fits then (.training, v.moveLine l (.training (now + 1000000 * s.params.trainTimeout)) .test)
          else (.shed, ({ v with energy := { s.energy with shed := l :: s.energy.shed } }).moveLine l .shed .test)
      let r : Result := { id := c.order.id, origin := c.order.origin, line := l, outcome, cause,
                          foreignValue := c.foreignValue, steps := c.results, exit := x, returned := some made.1,
                          readMain := false, readCraft := false }
      let w := made.2
      ((({ w with engine := { w.engine with
          current := none
          results := if w.engine.results.length < 16 then w.engine.results ++ [r]
            else w.engine.results.drop 1 ++ [r] } }).notify (.test r.id r.origin outcome)).restoringPass).attempt
    (∀ e, c.phase = .releaseSettle e → exec (.releaseSettleExpiry t) s = .next
      (if e ≤ now then ended (match c.soFar with
          | .pass => .pass
          | .fail => .fail
          | .hazard => .hazard) none none
       else a)) ∧
    (∀ x e, c.phase = .exit x → x.stage = .settle e → exec (.exitSettleExpiry t) s = .next
      (if e ≤ now then
        (let report : ExitReport := { cause := x.cause, second := x.second, mode := x.mode }
         if x.cause = .hazard ∨ c.soFar = .hazard then ended .hazard none (some report)
         else ended .aborted (some x.cause) (some report))
       else a)) ∧
    (∀ x e, c.phase = .exit x → x.stage = .dwell e → exec (.dwellExpiry t) s = .next
      (if e ≤ now then
        { a.setLine l (fun r => { r with state := .withdrawn tgt .offBus }) with
          engine := { s.engine with current := some { c with phase := .exit { x with stage := .settle (now + 8000) } } } }
       else a))

/-! ### Energy -/

/-- The budget in force (R143) and committed consumption (R148): the costs of the TRAINING and IN_SERVICE lines, 6
while an order is current, and the cost of the cap class. The shedding pass (R150, R10) and the restoring pass (R152,
R11), one step at a time, in the order of their rules. A cap class lies between 1 and the ceiling, the ceiling is at
most 4. -/
def Obligations.EnergyPasses : Prop :=
  (∀ s : State,
    let cost (l : LineNo) : Nat := match (s.line l).state with
      | .training _ => (s.line l).profile.cost
      | .inService => (s.line l).profile.cost
      | _ => 0
    s.budget = (match s.energy.supply with
      | .unknown => s.energy.budgets.battLow
      | .mains => s.energy.budgets.mains
      | .battHigh => s.energy.budgets.battHigh
      | .battLow => s.energy.budgets.battLow
      | .battCrit => s.energy.budgets.battCrit) ∧
    s.linePart = ((List.finRange 24).map cost).sum ∧
    (1 ≤ s.energy.cap → s.energy.cap ≤ 4 → s.capPart = [4, 7, 11, 16].getD (s.energy.cap - 1) 0) ∧
    s.committed = s.linePart + (if s.engine.current = none then 0 else 6) + s.capPart) ∧
  ∀ s : State, 1 ≤ s.energy.cap → s.energy.cap ≤ s.params.capCeiling → s.params.capCeiling ≤ 4 →
    let counted (l : LineNo) := (∃ d, (s.line l).state = .training d) ∨ (s.line l).state = .inService
    let cost (k : Nat) : Nat := if k = 1 then 4 else if k = 2 then 7 else if k = 3 then 11 else 16
    (s.committed ≤ s.budget → s.sheddingPass = s) ∧
    (s.budget < s.committed →
      (1 < s.energy.cap →
        s.sheddingPass = ({ s with energy := { s.energy with cap := s.energy.cap - 1 } }).sheddingPass) ∧
      (∀ l, s.energy.cap = 1 → counted l →
        (∀ k, counted k → (s.line l).profile.keep < (s.line k).profile.keep ∨
          ((s.line l).profile.keep = (s.line k).profile.keep ∧ k ≤ l)) →
        s.sheddingPass =
          ((({ s with energy := { s.energy with shed := l :: s.energy.shed } }).moveLine l .shed .energy).sheddingPass)) ∧
      (s.energy.cap = 1 → (∀ l, ¬counted l) → s.engine.current = none → s.sheddingPass = s) ∧
      (∀ c, s.energy.cap = 1 → (∀ l, ¬counted l) → s.engine.current = some c →
        (∀ x, c.phase = .exit x → s.sheddingPass = { s with engine := { s.engine with current := some { c with
          phase := .exit { x with
            second := if x.second = none ∧ x.cause ≠ .energy then some .energy else x.second, energyHeld := true } } } }) ∧
        (∀ e, c.phase = .releaseSettle e → s.sheddingPass = { s with engine := { s.engine with current := some { c with
          phase := .exit { cause := .energy, second := none, mode := s.params.exitMode, stage := .settle e,
                           energyHeld := true } } } }) ∧
        ((∀ x, c.phase ≠ .exit x) → (∀ e, c.phase ≠ .releaseSettle e) → s.sheddingPass = s.beginExit .energy))) ∧
    (∀ l rest, s.energy.shed = l :: rest → s.committed + (s.line l).profile.cost ≤ s.budget →
      s.restoringPass = (({ s with energy := { s.energy with shed := rest } }).moveLine l
        (.training (s.now + 1000000 * s.params.trainTimeout)) .restore).restoringPass) ∧
    ((∀ l ∈ s.energy.shed.head?, s.budget < s.committed + (s.line l).profile.cost) →
      (s.energy.cap < s.params.capCeiling →
        s.committed + cost (s.energy.cap + 1) ≤ s.budget + cost s.energy.cap →
        s.restoringPass = ({ s with energy := { s.energy with cap := s.energy.cap + 1 } }).restoringPass) ∧
      (s.energy.cap = s.params.capCeiling ∨ s.budget + cost s.energy.cap < s.committed + cost (s.energy.cap + 1) →
        s.restoringPass = s))

/-- SUPPLY (R145, R146) and BUDGET SET (R147): what is refused RANGE; a state or budget that changes nothing records
its source or its place in the table; a change queues its SUPPLY notice, hands ENERGY to the engine on entry into
BATT_CRIT (R155; log 33), runs the pass that the budget in force calls for, and the engine makes an attempt. And what
that ENERGY cause does by the phase of the current order (R131, R132, R138, R155). -/
def Obligations.SupplyAndBudget : Prop :=
  (∀ s : State,
    (s.engine.current = none → s.takeEnergyCrit = s) ∧
    (∀ c, s.engine.current = some c →
      (c.phase.early = true → s.takeEnergyCrit = s.beginExit .energy) ∧
      (∀ x, c.phase = .exit x → s.takeEnergyCrit = { s with engine := { s.engine with current := some { c with
        phase := .exit { x with
          second := if x.second = none ∧ x.cause ≠ .energy then some .energy else x.second, energyHeld := true } } } }) ∧
      (c.phase = .releaseRamp ∨ (∃ e, c.phase = .releaseSettle e) → s.takeEnergyCrit = s))) ∧
  ∀ (t : Nat) (h : Header) (code : Byte) (s : State), Ready h.port s → Direct h → h.port = .main →
    let u := s.taken t h.port
    let pass (v : State) : State :=
      if v.budget < s.budget then v.sheddingPass else if s.budget < v.budget then v.restoringPass else v
    (code = 0 ∨ 4 < code.toNat →
      exec (.supply t h code) s = .next (u.answers h 0x40 .range []) ∧
      ∀ n, exec (.budgetSet t h code n) s = .next (u.answers h 0x41 .range [])) ∧
    (∀ new : Supply, new ≠ .unknown → code = supplyCode new →
      let entered : State := { u with energy := { s.energy with supply := new, source := .request } }
      let noticed := entered.notify (.supply new entered.budget .request)
      let handed := if new = .battCrit then noticed.takeEnergyCrit else noticed
      let reply : List Byte := [code, BitVec.ofNat 8 (s.energy.budgets.of new)]
      (s.energy.supply = new → exec (.supply t h code) s = .next (entered.answers h 0x40 .ok reply)) ∧
      (s.energy.supply ≠ new →
        exec (.supply t h code) s = .next ((pass handed).attempt.answers h 0x40 .ok reply)) ∧
      (∀ n : Byte, n.toNat < 4 → exec (.budgetSet t h code n) s = .next (u.answers h 0x41 .range [])) ∧
      (∀ n : Byte, 4 ≤ n.toNat →
        let table : Budgets := match new with
          | .mains => { s.energy.budgets with mains := n.toNat }
          | .battHigh => { s.energy.budgets with battHigh := n.toNat }
          | .battLow => { s.energy.budgets with battLow := n.toNat }
          | _ => { s.energy.budgets with battCrit := n.toNat }
        let v : State := { u with energy := { s.energy with budgets := table } }
        let reply : List Byte := [BitVec.ofNat 8 v.budget]
        (v.budget = s.budget → exec (.budgetSet t h code n) s = .next (v.answers h 0x41 .ok reply)) ∧
        (v.budget ≠ s.budget → exec (.budgetSet t h code n) s =
          .next ((pass (v.notify (.supply s.energy.supply v.budget .budget))).attempt.answers h 0x41 .ok reply))))

/-! ### Cabinet points -/

/-- POINT ASSIGN (R160 to R162): RANGE where the group does not permit the function, STATE for the TEST_POWER point
while an order is current, OVERLAP where another point holds it; otherwise the point takes function and polarity, no
other point's record changes, and the reply is its record. What it changes besides: nothing when both stand already;
under a new polarity the state of an input function is worked out anew and handed on; otherwise the old function is
released and the new one taken up, SURGE under a new polarity included. That a release of SURGE while it is CALM makes
no attempt is the model's choice (log 26). POINT DRIVE (R166) sets a LAMP or FAN, else STATE. And what the points
show: the state that each driving point drives and the level of its terminal on a running part (R80, R159, R166), and
the door-open condition (R165). -/
def Obligations.PointRequests : Prop :=
  (∀ (s : State) (p : PointNo),
    let r := s.point p
    let on : Bool := match r.fn with
      | .testPower => s.points.testPower
      | .capA => s.energy.cap == 2 || s.energy.cap == 4
      | .capB => s.energy.cap == 3 || s.energy.cap == 4
      | .lamp => r.driven
      | .fan => r.driven
      | _ => false
    let active : Level := match r.polarity with
      | .activeHigh => .high
      | .activeLow => .low
    let inactive : Level := match r.polarity with
      | .activeHigh => .low
      | .activeLow => .high
    (Drives p r.fn → s.driven p = some on ∧
      (s.running = true → s.terminal p = some (if on = true then active else inactive))) ∧
    (¬Drives p r.fn → s.driven p = none ∧ s.terminal p = none) ∧
    r.polarity.active = active ∧ r.polarity.inactive = inactive) ∧
  (∀ s : State, s.doorOpen = true ↔
    ∃ p, Holds s .door p ∧ (s.point p).debounced = some (s.point p).polarity.active) ∧
  ∀ (t : Nat) (h : Header) (p : PointNo) (s : State), Ready h.port s → Direct h → h.port = .main →
    let u := s.taken t h.port
    (∀ (f : PointFn) (pol : Polarity),
      let b : Byte := BitVec.ofNat 8 p.val
      let done (v : State) : Prop :=
        exec (.pointAssign t h b (fnCode f) (polarityCode pol)) s = .next v
      let busy := (s.point p).fn = .testPower ∧ s.engine.current ≠ none
      let elsewhere := f ≠ .unassigned ∧ ∃ q, q ≠ p ∧ (s.point q).fn = f
      (¬Permits p f → done (u.answers h 0x50 .range [])) ∧
      (Permits p f → busy → done (u.answers h 0x50 .state [])) ∧
      (Permits p f → ¬busy → elsewhere → done (u.answers h 0x50 .overlap [])) ∧
      (Permits p f → ¬busy → ¬elsewhere →
        let v := u.assignFn p f pol
        done (v.answers h 0x50 .ok (v.pointBytes p)) ∧ (v.point p).fn = f ∧ (v.point p).polarity = pol ∧
          (v.point p).input = (s.point p).input ∧ (∀ q, q ≠ p → v.point q = s.point q) ∧
          ((s.point p).fn = f → (s.point p).polarity = pol → v = u))) ∧
    (∀ (f : PointFn) (pol : Polarity),
      let r := s.point p
      let v := u.assignFn p f pol
      let turned := u.setPoint p fun r => { r with polarity := pol }
      let bare := u.setPoint p fun r => { r with fn := .unassigned }
      let window := some (max s.now t + 20000)
      let released : State := match r.fn with
        | .door => if s.doorOpen then bare.doorLoss else bare
        | .surge =>
          let x := bare.setPoint p fun r => { r with debounced := none, window := window }
          let calm : State := { x with points := { x.points with surge := .calm } }
          if s.points.surge = .calm then calm else calm.attempt
        | .mains | .battLow | .battCrit => bare.inputEvent
        | .spareIn | .unassigned => bare
        | .testPower | .capA | .capB | .lamp | .fan => bare.setPoint p fun r => { r with
            debounced := none, driven := false, window := if 4 ≤ p.val ∧ p.val < 8 then window else none }
      let next := released.setPoint p fun r => { r with fn := f, polarity := pol }
      (r.fn = f → r.polarity ≠ pol → f ≠ .surge →
        (r.debounced = none ∨ f ∉ [PointFn.door, .mains, .battLow, .battCrit] → v = turned) ∧
        (r.debounced ≠ none → f = .door →
          (r.debounced = some pol.active → v = turned) ∧ (r.debounced ≠ some pol.active → v = turned.doorLoss)) ∧
        (r.debounced ≠ none → f ∈ [PointFn.mains, .battLow, .battCrit] → v = turned.inputEvent)) ∧
      (r.fn ≠ f ∨ (r.polarity ≠ pol ∧ f = .surge) →
        (f ∈ [PointFn.door, .spareIn, .unassigned] → v = next) ∧
        (f ∈ [PointFn.mains, .battLow, .battCrit] → v = next.inputEvent) ∧
        (f ∈ outputFns → v = next.setPoint p fun r => { r with debounced := none, window := none, driven := false }) ∧
        (f = .surge → r.input = pol.active →
          let x := next.setPoint p fun r => { r with debounced := some pol.active, window := none }
          v = ({ x with points := { x.points with surge := .asserted } }).takeSurge.attempt) ∧
        (f = .surge → r.input ≠ pol.active →
          v = next.setPoint p fun r => { r with debounced := some pol.inactive, window := none }))) ∧
    (∀ active : Bool, exec (.pointDrive t h (BitVec.ofNat 8 p.val) (flagByte active)) s = .next
      (if (s.point p).fn = .lamp ∨ (s.point p).fn = .fan then
        (u.setPoint p fun r => { r with driven := active }).answers h 0x52 .ok []
       else u.answers h 0x52 .state []))

/-- INPUT_LEVEL_CHANGE on a running part (R159, R163, R164; log 19): a point that drives, or sees no change, takes
nothing more, which for a point that drives is the model's choice (log 18); a reading point's window begins anew; a
SURGE point asserts at once, or begins or abandons its clear window. And what the SURGE cause does by the phase of the
current order (R131, R132, R137). -/
def Obligations.InputLevels : Prop :=
  (∀ s : State, s.engine.current = none → s.takeSurge = s) ∧
  (∀ (s : State) (c : Current) (tgt : Target) (conn : Conn), s.engine.current = some c →
    (s.line c.order.line).state = .withdrawn tgt conn →
    let at_ (x : ExitRec) (v : State) : State :=
      { v with engine := { v.engine with current := some { c with phase := .exit x } } }
    let open_ (v : State) : State := v.setLine c.order.line fun r => { r with state := .withdrawn tgt .offBus }
    let cut (v : State) : State := { v with gen := { v.gen with
      code := 2048, drive := false, program := .rest, motion := .settled, sine := none, dir := none, next := none } }
    (c.phase.early = true ∨ c.phase = .releaseRamp → s.takeSurge = s.beginExit .surge) ∧
    (∀ e, c.phase = .releaseSettle e → s.takeSurge = s) ∧
    (∀ x, c.phase = .exit x →
      let y : ExitRec := { x with second := if x.second = none ∧ x.cause ≠ .surge then some .surge else x.second }
      let z : ExitRec := { y with mode := .cut, stage := .settle (s.now + 8000) }
      (x.stage = .ramp → s.takeSurge = at_ z (open_ (cut s))) ∧
      (∀ e, x.stage = .dwell e → s.takeSurge = at_ z (open_ s)) ∧
      (∀ e, x.stage = .settle e → s.takeSurge = at_ y s))) ∧
  ∀ (t : Nat) (p : PointNo) (v : Level) (s : State), s.running = true →
    let r := s.point p
    let seen := (s.advance t).setPoint p fun r => { r with input := v }
    let window := some (max s.now t + 20000)
    let done (u : State) : Prop := exec (.inputLevelChange t p v) s = .next u
    let isActive := v = r.polarity.active
    let wasActive := r.debounced = some r.polarity.active
    (r.input = v → done (s.advance t)) ∧
    (r.input ≠ v → Drives p r.fn → done seen) ∧
    (r.input ≠ v → ¬Drives p r.fn → r.fn ≠ .surge → done (seen.setPoint p fun r => { r with window := window })) ∧
    (r.input ≠ v → ¬Drives p r.fn → r.fn = .surge →
      (isActive → wasActive → done (seen.setPoint p fun r => { r with window := none })) ∧
      (isActive → ¬wasActive →
        let b := seen.setPoint p fun r => { r with debounced := some v, window := none }
        done ((({ b with points := { b.points with surge := .asserted } }).notify
          (.point p .surge true)).takeSurge.attempt)) ∧
      (¬isActive → wasActive → done (seen.setPoint p fun r => { r with window := window })) ∧
      (¬isActive → ¬wasActive → done seen))

/-- DEBOUNCE_EXPIRY (R163, R165, R140), SURGE_CLEAR_EXPIRY and QUIET_EXPIRY (R164) once their time is reached (log 3):
the debounced level follows the input and a change is handed on by the point's function; a cleared surge is QUIET, and
then CALM, the engine being told of each. On a point that drives or holds SURGE, with no SURGE point or no clear
window, and outside QUIET, each does nothing. What a door loss does (R140): every queued CRAFT order ends ABORTED with
cause DOOR, oldest first, a current CRAFT order takes the cause by its phase, and the engine makes an attempt. And
what an input event does (R144, R146): with MAINS assigned, the state that the three inputs derive is set with source
INPUTS, and an entry into BATT_CRIT hands ENERGY to the engine; that the first state after a start does so too, where
an order was taken before it, is the model's choice (log 33). -/
def Obligations.PointTimers : Prop :=
  (∀ s : State,
    let gone (v : State) (o : TestOrder) : State :=
      ({ v with engine := { v.engine with queue := v.engine.queue.filter fun q => q.id != o.id } }).storeResult
        { id := o.id, origin := o.origin, line := o.line, outcome := .aborted, cause := some .door,
          foreignValue := none, steps := [], exit := none, returned := none, readMain := false, readCraft := false }
    let left := (s.engine.queue.filter fun o => o.origin == .craft).foldl gone s
    ((∀ c, s.engine.current = some c → c.order.origin = .main) → s.doorLoss = left.attempt) ∧
    (∀ c, s.engine.current = some c → c.order.origin = .craft →
      (c.phase.early = true → s.doorLoss = (left.beginExit .door).attempt) ∧
      (∀ x, c.phase = .exit x → s.doorLoss = (({ left with engine := { left.engine with current := some { c with
        phase := .exit { x with
          second := if x.second = none ∧ x.cause ≠ .door then some .door else x.second } } } } : State)).attempt) ∧
      (c.phase = .releaseRamp ∨ (∃ e, c.phase = .releaseSettle e) → s.doorLoss = left.attempt))) ∧
  (∀ s : State,
    let active (f : PointFn) : Bool := match allPoints.find? fun p => (s.point p).fn == f with
      | some p => (s.point p).debounced == some (s.point p).polarity.active
      | none => false
    let derived : Supply := if active .mains then .mains else if active .battCrit then .battCrit
      else if active .battLow then .battLow else .battHigh
    let entered : State := { s with energy := { s.energy with supply := derived, source := .inputs } }
    let noticed := entered.notify (.supply derived entered.budget .inputs)
    let handed := if derived = .battCrit then noticed.takeEnergyCrit else noticed
    ((∀ p, (s.point p).fn ≠ .mains) → s.inputEvent = s) ∧
    ((∃ p, (s.point p).fn = .mains) →
      (s.energy.supply = derived → s.inputEvent = entered) ∧
      (s.energy.supply ≠ derived → s.inputEvent =
        (if handed.budget < s.budget then handed.sheddingPass
         else if s.budget < handed.budget then handed.restoringPass else handed).attempt))) ∧
  ∀ (t : Nat) (s : State), s.running = true →
    let a := s.advance t
    let now := max s.now t
    (∀ p : PointNo, Drives p (s.point p).fn ∨ (s.point p).fn = .surge →
      exec (.debounceExpiry t p) s = .next a) ∧
    (∀ p : PointNo, ¬Drives p (s.point p).fn → (s.point p).fn ≠ .surge →
      let r := s.point p
      let v := a.setPoint p fun r => { r with debounced := some r.input, window := none }
      let was := r.debounced = some r.polarity.active
      let is_ := r.input = r.polarity.active
      let done (u : State) : Prop := exec (.debounceExpiry t p) s = .next u
      ((∀ e, r.window = some e → now < e) → done a) ∧
      (∀ e, r.window = some e → e ≤ now →
        (r.debounced = some r.input → done v) ∧
        (r.debounced ≠ some r.input →
          (r.fn = .door → is_ → ¬was → done (v.notify (.point p .door true))) ∧
          (r.fn = .door → ¬is_ → was → done (v.notify (.point p .door false)).doorLoss) ∧
          (r.fn = .spareIn → (is_ ↔ ¬was) → done (v.notify (.point p .spareIn (decide is_)))) ∧
          (r.fn = .door ∨ r.fn = .spareIn → (is_ ↔ was) → done v) ∧
          (r.fn = .mains ∨ r.fn = .battLow ∨ r.fn = .battCrit → done v.inputEvent) ∧
          (r.fn = .unassigned → done v)))) ∧
    ((∀ p, (s.point p).fn ≠ .surge) → exec (.surgeClearExpiry t) s = .next a) ∧
    (∀ p, Holds s .surge p → (s.point p).window = none → exec (.surgeClearExpiry t) s = .next a) ∧
    ((∀ e, s.points.surge ≠ .quiet e) → exec (.quietExpiry t) s = .next a) ∧
    (∀ p e, Holds s .surge p → (s.point p).window = some e → exec (.surgeClearExpiry t) s = .next
      (if e ≤ now then
        (let b := a.setPoint p fun r => { r with debounced := some r.polarity.inactive, window := none }
         (({ b with points := { b.points with surge := .quiet (now + 1000000 * s.params.quietTime) } }).notify
          (.point p .surge false)).attempt)
       else a)) ∧
    (∀ e, s.points.surge = .quiet e → exec (.quietExpiry t) s = .next
      (if e ≤ now then ({ a with points := { s.points with surge := .calm } }).attempt else a))

/-! ### Power, the RESET pin and the start -/

/-- POWER_ON, POWER_LOSS, RESET_PIN_LOW and RESET_PIN_RELEASE (R191, R193; log 8, 11, 28), and what every start leaves
(R24, R41, R76, R82, R100, R128, R188, R192, R194), from the loaded image when it is good, else from the defaults,
which a start that stops a settings write always loads (R191). The kept entries are loaded in ascending index, each
that passes the content checks and overlaps none loaded before it (R65; an index given twice counts once, log 32).
Each point takes its function unless its group does not permit it or an earlier point has it, and its first window or
its surge (R169), the electrical levels standing as they were (log 10, 18). The cap class is the ceiling, lowered
until its cost fits the BATT_LOW budget (R158). -/
def Obligations.PowerAndStart : Prop :=
  (∀ (t : Nat) (s : State),
    let a := s.advance t
    let torn : State := match s.ports.main.job with
      | some (.save _ _) =>
        { a with store := { words := Config.mixedImage s.freeCount, mark := true }, freeCount := s.freeCount + 1 }
      | _ => a
    let halted : State := { torn with ports := { s.ports with
      main := { s.ports.main with job := none }, craft := { s.ports.craft with job := none } } }
    exec (.powerLoss t) s = .next { halted with powered := false } ∧
    exec (.resetPinLow t) s = .next { halted with resetLow := true } ∧
    (s.resetLow = false → exec (.powerOn t) s = .next (({ a with powered := true }).start .power)) ∧
    (s.resetLow = true → exec (.powerOn t) s = .next { a with powered := true }) ∧
    (s.resetLow = true → s.powered = true →
      exec (.resetPinRelease t) s = .next (({ a with resetLow := false }).start .pin)) ∧
    (s.resetLow = true → s.powered = false → exec (.resetPinRelease t) s = .next { a with resetLow := false }) ∧
    (s.resetLow = false → exec (.resetPinRelease t) s = .next a)) ∧
  (∀ (cause : StartCause) (s : State),
    let u := s.start cause
    let saving : Bool := match s.ports.main.job with
      | some (.save _ _) => true
      | _ => false
    let good : Bool := !saving && s.store.good
    let st := if good then Settings.ofWords s.store.words else Settings.default
    let equipped (l : LineNo) : Bool := LineSet.has st.equipped l
    let cost (k : Nat) : Nat := if k = 1 then 4 else if k = 2 then 7 else if k = 3 then 11 else 16
    (∀ l, u.line l = { state := if LineSet.has st.equipped l then .idle else .unequipped, profile := st.profiles[l],
                       failCount := 0, counters := Counters.zero }) ∧
    u.pool.free = 768 ∧ u.pool.frames = [] ∧ u.pool.uplinkDrops = 0 ∧
    (∀ l : LineNo, u.egress[l] = [] ∧ u.sched.ingress[l] = [] ∧ u.sched.deficit[l] = 0) ∧ u.sched.active = [] ∧
    u.sched.launch = [] ∧ u.hold = [] ∧ u.uplink = { status := none, asked := true } ∧
    (∀ k : FlowIdx,
      (st.kept.find? (fun e => e.1 == k.val) = none → u.flows[k] = none) ∧
      (∀ i c, st.kept.find? (fun e => e.1 == k.val) = some (i, c) →
        (¬ContentFits equipped c → u.flows[k] = none) ∧
        (ContentFits equipped c → ∀ o, OwnerNamed c o →
          ((∃ (j : FlowIdx) (f : FlowEntry), j < k ∧ u.flows[j] = some f ∧ EntriesMeet (FlowContent.written o c) f) →
            u.flows[k] = none) ∧
          ((∀ (j : FlowIdx) (f : FlowEntry), j < k → u.flows[j] = some f → ¬EntriesMeet (FlowContent.written o c) f) →
            u.flows[k] = some { FlowContent.written o c with kept := true })))) ∧
    u.gen = { code := 2048, drive := false, program := .rest, exp := 0, period := 1, motion := .settled,
              sine := none, dir := none, next := none } ∧
    u.engine = { queue := [], current := none, results := [], lastId := 0 } ∧
    u.energy.supply = .unknown ∧ u.energy.source = .start ∧ u.energy.budgets = st.budgets ∧ u.energy.shed = [] ∧
    1 ≤ u.energy.cap ∧ u.energy.cap ≤ st.params.capCeiling ∧ cost u.energy.cap ≤ st.budgets.battLow ∧
    (u.energy.cap = st.params.capCeiling ∨ st.budgets.battLow < cost (u.energy.cap + 1)) ∧
    u.points.testPower = false ∧ u.doorOpen = false ∧
    (∀ p : PointNo,
      let r := u.point p
      let f := st.points[p].1
      let takes := Permits p f ∧ (f = .unassigned ∨ ∀ q, q < p → (u.point q).fn ≠ f)
      let atOnce := r.fn = .surge ∧ r.input = r.polarity.active
      (takes → r.fn = f) ∧ (¬takes → r.fn = .unassigned) ∧ r.polarity = st.points[p].2 ∧
      r.input = (s.point p).input ∧ r.driven = false ∧
      (atOnce → r.debounced = some r.input ∧ r.window = none ∧
        u.notices.queue = [.start cause u.status, .point p .surge true]) ∧
      (¬atOnce → r.debounced = none ∧ (Drives p r.fn → r.window = none) ∧
        (¬Drives p r.fn → r.window = some (s.now + 20000)))) ∧
    ((∃ p, (u.point p).fn = .surge) → u.points.surge = .asserted) ∧
    ((∀ p, (u.point p).fn ≠ .surge) → u.points.surge = .calm) ∧
    ((∀ p, (u.point p).fn = .surge → (u.point p).input ≠ (u.point p).polarity.active) →
      u.notices.queue = [.start cause u.status]) ∧
    u.ports = { main := PortRec.fresh, craft := PortRec.fresh, dropInForce := st.params.drop,
                rateInForce := st.params.rate } ∧
    u.params = st.params ∧ u.cause = cause ∧ u.status = (if good then .good else .defaulted) ∧
    u.notices.lost = 0 ∧
    u.store = (if saving then { words := Config.mixedImage s.freeCount, mark := true } else s.store) ∧
    u.freeCount = (if saving then s.freeCount + 1 else s.freeCount) ∧
    u.running = s.running ∧ u.now = s.now ∧ u.pending = s.pending)

/-- Settings saved are settings loaded (R189, R191, R192): the image of live settings within their ranges is good, and
the start that reads it finds the same settings. The words' places are the model's (log 7). -/
def Obligations.SavedImageLoads : Prop :=
  ∀ s : State, RangesOk s → EnergyOk s →
    Store.good { words := s.liveSettings.image, mark := false } = true ∧
    Settings.ofWords s.liveSettings.image = s.liveSettings

/-! ### The laws that every step keeps -/

/-- Every step keeps the pool's laws (R25 to R28, R38): free cells and the cells of the records make 768, and a
record's reference count is the number of its queue positions. -/
def Obligations.PoolKept : Prop := ∀ s u : State, PoolOk s → step s = .next u → PoolOk u

/-- Every step keeps the flow table free of double matches (R48). -/
def Obligations.FlowsKept : Prop := ∀ s u : State, FlowsOk s → step s = .next u → FlowsOk u

/-- Every step keeps the laws of the lines (R12, R13, R20, R151): the shed list, the withdrawn line, the references. -/
def Obligations.LinesKept : Prop := ∀ s u : State, LinesOk s → step s = .next u → LinesOk u

/-- Every step keeps committed consumption within the budget in force, except in an exit that is energy held, and then
by at most 6 load units (R150); and the cap class and the budgets in their ranges. -/
def Obligations.EnergyKept : Prop := ∀ s u : State, LinesOk s → EnergyOk s → step s = .next u → EnergyOk u

/-- Every step keeps every list within its capacity and every setting and count within its range. -/
def Obligations.RangesKept : Prop := ∀ s u : State, RangesOk s → step s = .next u → RangesOk u

/-- Every step keeps the scheduler's laws (R67 to R73), with those of the pool and the ranges it rests on. -/
def Obligations.SchedulerKept : Prop :=
  ∀ s u : State, PoolOk s → RangesOk s → SchedOk s → step s = .next u → SchedOk u

/-- Every step keeps the test bench safe (R97, R100, R112, R113, R118, R166): drive ON only with the order's test
relay closed, test power exactly while an order is current, the generator at rest whenever the relay is open. -/
def Obligations.BenchKept : Prop := ∀ s u : State, LinesOk s → BenchOk s → step s = .next u → BenchOk u

/-- Every step keeps order ids distinct and in their range (R104). -/
def Obligations.OrderIdsKept : Prop := ∀ s u : State, RangesOk s → IdsOk s → step s = .next u → IdsOk u

/-- The laws hold of the machine right after reset, which is under the factory defaults by the model's choice (log 9,
23). -/
def Obligations.LawsHoldAtReset : Prop :=
  PoolOk State.reset ∧ FlowsOk State.reset ∧ LinesOk State.reset ∧ EnergyOk State.reset ∧ RangesOk State.reset ∧
  SchedOk State.reset ∧ BenchOk State.reset ∧ IdsOk State.reset

end
end

