-- ==== Sys2Proof/Laws/State.lean ====
section
/-! SUPPORT. What each primitive update of State leaves alone, one equation per field and all of them by computation,
and the values of the fields it does write. A later proof rewrites with these and never unfolds a record update. -/

namespace Sys2Proof.Machine

/-- The time of a command: the fields it leaves alone. -/
@[simp] theorem State.advance_frame (t : Nat) (s : State) :
    (s.advance t).powered = s.powered ∧ (s.advance t).resetLow = s.resetLow ∧ (s.advance t).lines = s.lines ∧
    (s.advance t).pool = s.pool ∧ (s.advance t).egress = s.egress ∧ (s.advance t).flows = s.flows ∧
    (s.advance t).hold = s.hold ∧ (s.advance t).sched = s.sched ∧ (s.advance t).uplink = s.uplink ∧
    (s.advance t).gen = s.gen ∧ (s.advance t).engine = s.engine ∧ (s.advance t).energy = s.energy ∧
    (s.advance t).points = s.points ∧ (s.advance t).ports = s.ports ∧ (s.advance t).notices = s.notices ∧
    (s.advance t).params = s.params ∧ (s.advance t).store = s.store ∧ (s.advance t).status = s.status ∧
    (s.advance t).cause = s.cause ∧ (s.advance t).freeCount = s.freeCount ∧ (s.advance t).pending = s.pending :=
  ⟨rfl, rfl, rfl, rfl, rfl, rfl, rfl, rfl, rfl, rfl, rfl, rfl, rfl, rfl, rfl, rfl, rfl, rfl, rfl, rfl, rfl⟩

/-- A line record changed: the fields it leaves alone. -/
@[simp] theorem State.setLine_frame (l : LineNo) (f : LineRec → LineRec) (s : State) :
    (s.setLine l f).now = s.now ∧ (s.setLine l f).powered = s.powered ∧ (s.setLine l f).resetLow = s.resetLow ∧
    (s.setLine l f).pool = s.pool ∧ (s.setLine l f).egress = s.egress ∧ (s.setLine l f).flows = s.flows ∧
    (s.setLine l f).hold = s.hold ∧ (s.setLine l f).sched = s.sched ∧ (s.setLine l f).uplink = s.uplink ∧
    (s.setLine l f).gen = s.gen ∧ (s.setLine l f).engine = s.engine ∧ (s.setLine l f).energy = s.energy ∧
    (s.setLine l f).points = s.points ∧ (s.setLine l f).ports = s.ports ∧ (s.setLine l f).notices = s.notices ∧
    (s.setLine l f).params = s.params ∧ (s.setLine l f).store = s.store ∧ (s.setLine l f).status = s.status ∧
    (s.setLine l f).cause = s.cause ∧ (s.setLine l f).freeCount = s.freeCount ∧ (s.setLine l f).pending = s.pending :=
  ⟨rfl, rfl, rfl, rfl, rfl, rfl, rfl, rfl, rfl, rfl, rfl, rfl, rfl, rfl, rfl, rfl, rfl, rfl, rfl, rfl, rfl⟩

/-- A line state set: the fields it leaves alone. -/
@[simp] theorem State.setLineState_frame (l : LineNo) (st : LineState) (s : State) :
    (s.setLineState l st).now = s.now ∧ (s.setLineState l st).powered = s.powered ∧
    (s.setLineState l st).resetLow = s.resetLow ∧ (s.setLineState l st).pool = s.pool ∧
    (s.setLineState l st).egress = s.egress ∧ (s.setLineState l st).flows = s.flows ∧
    (s.setLineState l st).hold = s.hold ∧ (s.setLineState l st).sched = s.sched ∧
    (s.setLineState l st).uplink = s.uplink ∧ (s.setLineState l st).gen = s.gen ∧
    (s.setLineState l st).engine = s.engine ∧ (s.setLineState l st).energy = s.energy ∧
    (s.setLineState l st).points = s.points ∧ (s.setLineState l st).ports = s.ports ∧
    (s.setLineState l st).notices = s.notices ∧ (s.setLineState l st).params = s.params ∧
    (s.setLineState l st).store = s.store ∧ (s.setLineState l st).status = s.status ∧
    (s.setLineState l st).cause = s.cause ∧ (s.setLineState l st).freeCount = s.freeCount ∧
    (s.setLineState l st).pending = s.pending :=
  ⟨rfl, rfl, rfl, rfl, rfl, rfl, rfl, rfl, rfl, rfl, rfl, rfl, rfl, rfl, rfl, rfl, rfl, rfl, rfl, rfl, rfl⟩

/-- A fail count set: the fields it leaves alone. -/
@[simp] theorem State.setFail_frame (l : LineNo) (n : Nat) (s : State) :
    (s.setFail l n).now = s.now ∧ (s.setFail l n).powered = s.powered ∧ (s.setFail l n).resetLow = s.resetLow ∧
    (s.setFail l n).pool = s.pool ∧ (s.setFail l n).egress = s.egress ∧ (s.setFail l n).flows = s.flows ∧
    (s.setFail l n).hold = s.hold ∧ (s.setFail l n).sched = s.sched ∧ (s.setFail l n).uplink = s.uplink ∧
    (s.setFail l n).gen = s.gen ∧ (s.setFail l n).engine = s.engine ∧ (s.setFail l n).energy = s.energy ∧
    (s.setFail l n).points = s.points ∧ (s.setFail l n).ports = s.ports ∧ (s.setFail l n).notices = s.notices ∧
    (s.setFail l n).params = s.params ∧ (s.setFail l n).store = s.store ∧ (s.setFail l n).status = s.status ∧
    (s.setFail l n).cause = s.cause ∧ (s.setFail l n).freeCount = s.freeCount ∧ (s.setFail l n).pending = s.pending :=
  ⟨rfl, rfl, rfl, rfl, rfl, rfl, rfl, rfl, rfl, rfl, rfl, rfl, rfl, rfl, rfl, rfl, rfl, rfl, rfl, rfl, rfl⟩

/-- A notice: the fields it leaves alone. -/
@[simp] theorem State.notify_frame (n : Notice) (s : State) :
    (s.notify n).now = s.now ∧ (s.notify n).powered = s.powered ∧ (s.notify n).resetLow = s.resetLow ∧
    (s.notify n).lines = s.lines ∧ (s.notify n).pool = s.pool ∧ (s.notify n).egress = s.egress ∧
    (s.notify n).flows = s.flows ∧ (s.notify n).hold = s.hold ∧ (s.notify n).sched = s.sched ∧
    (s.notify n).uplink = s.uplink ∧ (s.notify n).gen = s.gen ∧ (s.notify n).engine = s.engine ∧
    (s.notify n).energy = s.energy ∧ (s.notify n).points = s.points ∧ (s.notify n).ports = s.ports ∧
    (s.notify n).params = s.params ∧ (s.notify n).store = s.store ∧ (s.notify n).status = s.status ∧
    (s.notify n).cause = s.cause ∧ (s.notify n).freeCount = s.freeCount ∧ (s.notify n).pending = s.pending := by
  unfold State.notify
  split <;> exact ⟨rfl, rfl, rfl, rfl, rfl, rfl, rfl, rfl, rfl, rfl, rfl, rfl, rfl, rfl, rfl, rfl, rfl, rfl, rfl, rfl, rfl⟩

/-- An upstream drop: the fields it leaves alone. -/
@[simp] theorem State.dropUp_frame (l : LineNo) (r : DropReason) (s : State) :
    (s.dropUp l r).now = s.now ∧ (s.dropUp l r).powered = s.powered ∧ (s.dropUp l r).resetLow = s.resetLow ∧
    (s.dropUp l r).pool = s.pool ∧ (s.dropUp l r).egress = s.egress ∧ (s.dropUp l r).flows = s.flows ∧
    (s.dropUp l r).hold = s.hold ∧ (s.dropUp l r).sched = s.sched ∧ (s.dropUp l r).uplink = s.uplink ∧
    (s.dropUp l r).gen = s.gen ∧ (s.dropUp l r).engine = s.engine ∧ (s.dropUp l r).energy = s.energy ∧
    (s.dropUp l r).points = s.points ∧ (s.dropUp l r).ports = s.ports ∧ (s.dropUp l r).notices = s.notices ∧
    (s.dropUp l r).params = s.params ∧ (s.dropUp l r).store = s.store ∧ (s.dropUp l r).status = s.status ∧
    (s.dropUp l r).cause = s.cause ∧ (s.dropUp l r).freeCount = s.freeCount ∧ (s.dropUp l r).pending = s.pending :=
  ⟨rfl, rfl, rfl, rfl, rfl, rfl, rfl, rfl, rfl, rfl, rfl, rfl, rfl, rfl, rfl, rfl, rfl, rfl, rfl, rfl, rfl⟩

/-- A downstream drop: the fields it leaves alone. -/
@[simp] theorem State.dropDown_frame (l : LineNo) (r : DropReason) (s : State) :
    (s.dropDown l r).now = s.now ∧ (s.dropDown l r).powered = s.powered ∧ (s.dropDown l r).resetLow = s.resetLow ∧
    (s.dropDown l r).pool = s.pool ∧ (s.dropDown l r).egress = s.egress ∧ (s.dropDown l r).flows = s.flows ∧
    (s.dropDown l r).hold = s.hold ∧ (s.dropDown l r).sched = s.sched ∧ (s.dropDown l r).uplink = s.uplink ∧
    (s.dropDown l r).gen = s.gen ∧ (s.dropDown l r).engine = s.engine ∧ (s.dropDown l r).energy = s.energy ∧
    (s.dropDown l r).points = s.points ∧ (s.dropDown l r).ports = s.ports ∧ (s.dropDown l r).notices = s.notices ∧
    (s.dropDown l r).params = s.params ∧ (s.dropDown l r).store = s.store ∧ (s.dropDown l r).status = s.status ∧
    (s.dropDown l r).cause = s.cause ∧ (s.dropDown l r).freeCount = s.freeCount ∧ (s.dropDown l r).pending = s.pending :=
  ⟨rfl, rfl, rfl, rfl, rfl, rfl, rfl, rfl, rfl, rfl, rfl, rfl, rfl, rfl, rfl, rfl, rfl, rfl, rfl, rfl, rfl⟩

/-- A frame carried up: the fields it leaves alone. -/
@[simp] theorem State.countUp_frame (l : LineNo) (n : Nat) (s : State) :
    (s.countUp l n).now = s.now ∧ (s.countUp l n).powered = s.powered ∧ (s.countUp l n).resetLow = s.resetLow ∧
    (s.countUp l n).pool = s.pool ∧ (s.countUp l n).egress = s.egress ∧ (s.countUp l n).flows = s.flows ∧
    (s.countUp l n).hold = s.hold ∧ (s.countUp l n).sched = s.sched ∧ (s.countUp l n).uplink = s.uplink ∧
    (s.countUp l n).gen = s.gen ∧ (s.countUp l n).engine = s.engine ∧ (s.countUp l n).energy = s.energy ∧
    (s.countUp l n).points = s.points ∧ (s.countUp l n).ports = s.ports ∧ (s.countUp l n).notices = s.notices ∧
    (s.countUp l n).params = s.params ∧ (s.countUp l n).store = s.store ∧ (s.countUp l n).status = s.status ∧
    (s.countUp l n).cause = s.cause ∧ (s.countUp l n).freeCount = s.freeCount ∧ (s.countUp l n).pending = s.pending :=
  ⟨rfl, rfl, rfl, rfl, rfl, rfl, rfl, rfl, rfl, rfl, rfl, rfl, rfl, rfl, rfl, rfl, rfl, rfl, rfl, rfl, rfl⟩

/-- A frame delivered down: the fields it leaves alone. -/
@[simp] theorem State.countDown_frame (l : LineNo) (n : Nat) (s : State) :
    (s.countDown l n).now = s.now ∧ (s.countDown l n).powered = s.powered ∧ (s.countDown l n).resetLow = s.resetLow ∧
    (s.countDown l n).pool = s.pool ∧ (s.countDown l n).egress = s.egress ∧ (s.countDown l n).flows = s.flows ∧
    (s.countDown l n).hold = s.hold ∧ (s.countDown l n).sched = s.sched ∧ (s.countDown l n).uplink = s.uplink ∧
    (s.countDown l n).gen = s.gen ∧ (s.countDown l n).engine = s.engine ∧ (s.countDown l n).energy = s.energy ∧
    (s.countDown l n).points = s.points ∧ (s.countDown l n).ports = s.ports ∧ (s.countDown l n).notices = s.notices ∧
    (s.countDown l n).params = s.params ∧ (s.countDown l n).store = s.store ∧ (s.countDown l n).status = s.status ∧
    (s.countDown l n).cause = s.cause ∧ (s.countDown l n).freeCount = s.freeCount ∧
    (s.countDown l n).pending = s.pending :=
  ⟨rfl, rfl, rfl, rfl, rfl, rfl, rfl, rfl, rfl, rfl, rfl, rfl, rfl, rfl, rfl, rfl, rfl, rfl, rfl, rfl, rfl⟩

/-- A position given up: the fields it leaves alone. -/
@[simp] theorem State.giveUp_frame (id : Nat) (s : State) :
    (s.giveUp id).now = s.now ∧ (s.giveUp id).powered = s.powered ∧ (s.giveUp id).resetLow = s.resetLow ∧
    (s.giveUp id).lines = s.lines ∧ (s.giveUp id).egress = s.egress ∧ (s.giveUp id).flows = s.flows ∧
    (s.giveUp id).hold = s.hold ∧ (s.giveUp id).sched = s.sched ∧ (s.giveUp id).uplink = s.uplink ∧
    (s.giveUp id).gen = s.gen ∧ (s.giveUp id).engine = s.engine ∧ (s.giveUp id).energy = s.energy ∧
    (s.giveUp id).points = s.points ∧ (s.giveUp id).ports = s.ports ∧ (s.giveUp id).notices = s.notices ∧
    (s.giveUp id).params = s.params ∧ (s.giveUp id).store = s.store ∧ (s.giveUp id).status = s.status ∧
    (s.giveUp id).cause = s.cause ∧ (s.giveUp id).freeCount = s.freeCount ∧ (s.giveUp id).pending = s.pending :=
  ⟨rfl, rfl, rfl, rfl, rfl, rfl, rfl, rfl, rfl, rfl, rfl, rfl, rfl, rfl, rfl, rfl, rfl, rfl, rfl, rfl, rfl⟩

/-- A port record changed: the fields it leaves alone. -/
@[simp] theorem State.setPort_frame (p : PortId) (f : PortRec → PortRec) (s : State) :
    (s.setPort p f).now = s.now ∧ (s.setPort p f).powered = s.powered ∧ (s.setPort p f).resetLow = s.resetLow ∧
    (s.setPort p f).lines = s.lines ∧ (s.setPort p f).pool = s.pool ∧ (s.setPort p f).egress = s.egress ∧
    (s.setPort p f).flows = s.flows ∧ (s.setPort p f).hold = s.hold ∧ (s.setPort p f).sched = s.sched ∧
    (s.setPort p f).uplink = s.uplink ∧ (s.setPort p f).gen = s.gen ∧ (s.setPort p f).engine = s.engine ∧
    (s.setPort p f).energy = s.energy ∧ (s.setPort p f).points = s.points ∧ (s.setPort p f).notices = s.notices ∧
    (s.setPort p f).params = s.params ∧ (s.setPort p f).store = s.store ∧ (s.setPort p f).status = s.status ∧
    (s.setPort p f).cause = s.cause ∧ (s.setPort p f).freeCount = s.freeCount ∧ (s.setPort p f).pending = s.pending := by
  cases p <;> exact ⟨rfl, rfl, rfl, rfl, rfl, rfl, rfl, rfl, rfl, rfl, rfl, rfl, rfl, rfl, rfl, rfl, rfl, rfl, rfl, rfl, rfl⟩

/-- A receive state set: the fields it leaves alone. -/
@[simp] theorem State.setRecv_frame (p : PortId) (v : Recv) (s : State) :
    (s.setRecv p v).now = s.now ∧ (s.setRecv p v).powered = s.powered ∧ (s.setRecv p v).resetLow = s.resetLow ∧
    (s.setRecv p v).lines = s.lines ∧ (s.setRecv p v).pool = s.pool ∧ (s.setRecv p v).egress = s.egress ∧
    (s.setRecv p v).flows = s.flows ∧ (s.setRecv p v).hold = s.hold ∧ (s.setRecv p v).sched = s.sched ∧
    (s.setRecv p v).uplink = s.uplink ∧ (s.setRecv p v).gen = s.gen ∧ (s.setRecv p v).engine = s.engine ∧
    (s.setRecv p v).energy = s.energy ∧ (s.setRecv p v).points = s.points ∧ (s.setRecv p v).notices = s.notices ∧
    (s.setRecv p v).params = s.params ∧ (s.setRecv p v).store = s.store ∧ (s.setRecv p v).status = s.status ∧
    (s.setRecv p v).cause = s.cause ∧ (s.setRecv p v).freeCount = s.freeCount ∧ (s.setRecv p v).pending = s.pending := by
  cases p <;> exact ⟨rfl, rfl, rfl, rfl, rfl, rfl, rfl, rfl, rfl, rfl, rfl, rfl, rfl, rfl, rfl, rfl, rfl, rfl, rfl, rfl, rfl⟩

/-- A job set: the fields it leaves alone. -/
@[simp] theorem State.setJob_frame (p : PortId) (j : Option Job) (s : State) :
    (s.setJob p j).now = s.now ∧ (s.setJob p j).powered = s.powered ∧ (s.setJob p j).resetLow = s.resetLow ∧
    (s.setJob p j).lines = s.lines ∧ (s.setJob p j).pool = s.pool ∧ (s.setJob p j).egress = s.egress ∧
    (s.setJob p j).flows = s.flows ∧ (s.setJob p j).hold = s.hold ∧ (s.setJob p j).sched = s.sched ∧
    (s.setJob p j).uplink = s.uplink ∧ (s.setJob p j).gen = s.gen ∧ (s.setJob p j).engine = s.engine ∧
    (s.setJob p j).energy = s.energy ∧ (s.setJob p j).points = s.points ∧ (s.setJob p j).notices = s.notices ∧
    (s.setJob p j).params = s.params ∧ (s.setJob p j).store = s.store ∧ (s.setJob p j).status = s.status ∧
    (s.setJob p j).cause = s.cause ∧ (s.setJob p j).freeCount = s.freeCount ∧ (s.setJob p j).pending = s.pending := by
  cases p <;> exact ⟨rfl, rfl, rfl, rfl, rfl, rfl, rfl, rfl, rfl, rfl, rfl, rfl, rfl, rfl, rfl, rfl, rfl, rfl, rfl, rfl, rfl⟩

/-- A fault counted: the fields it leaves alone. -/
@[simp] theorem State.countFault_frame (p : PortId) (k : FaultKind) (s : State) :
    (s.countFault p k).now = s.now ∧ (s.countFault p k).powered = s.powered ∧
    (s.countFault p k).resetLow = s.resetLow ∧ (s.countFault p k).lines = s.lines ∧
    (s.countFault p k).pool = s.pool ∧ (s.countFault p k).egress = s.egress ∧ (s.countFault p k).flows = s.flows ∧
    (s.countFault p k).hold = s.hold ∧ (s.countFault p k).sched = s.sched ∧ (s.countFault p k).uplink = s.uplink ∧
    (s.countFault p k).gen = s.gen ∧ (s.countFault p k).engine = s.engine ∧ (s.countFault p k).energy = s.energy ∧
    (s.countFault p k).points = s.points ∧ (s.countFault p k).notices = s.notices ∧
    (s.countFault p k).params = s.params ∧ (s.countFault p k).store = s.store ∧
    (s.countFault p k).status = s.status ∧ (s.countFault p k).cause = s.cause ∧
    (s.countFault p k).freeCount = s.freeCount ∧ (s.countFault p k).pending = s.pending := by
  cases p <;> exact ⟨rfl, rfl, rfl, rfl, rfl, rfl, rfl, rfl, rfl, rfl, rfl, rfl, rfl, rfl, rfl, rfl, rfl, rfl, rfl, rfl, rfl⟩

/-- A turn begins: the fields it leaves alone. -/
@[simp] theorem State.beginTurn_frame (s : State) :
    s.beginTurn.now = s.now ∧ s.beginTurn.powered = s.powered ∧ s.beginTurn.resetLow = s.resetLow ∧
    s.beginTurn.lines = s.lines ∧ s.beginTurn.pool = s.pool ∧ s.beginTurn.egress = s.egress ∧
    s.beginTurn.flows = s.flows ∧ s.beginTurn.hold = s.hold ∧ s.beginTurn.uplink = s.uplink ∧
    s.beginTurn.gen = s.gen ∧ s.beginTurn.engine = s.engine ∧ s.beginTurn.energy = s.energy ∧
    s.beginTurn.points = s.points ∧ s.beginTurn.ports = s.ports ∧ s.beginTurn.notices = s.notices ∧
    s.beginTurn.params = s.params ∧ s.beginTurn.store = s.store ∧ s.beginTurn.status = s.status ∧
    s.beginTurn.cause = s.cause ∧ s.beginTurn.freeCount = s.freeCount ∧ s.beginTurn.pending = s.pending := by
  unfold State.beginTurn
  split <;> exact ⟨rfl, rfl, rfl, rfl, rfl, rfl, rfl, rfl, rfl, rfl, rfl, rfl, rfl, rfl, rfl, rfl, rfl, rfl, rfl, rfl, rfl⟩

/-- A flow entry set: the fields it leaves alone. -/
@[simp] theorem State.setFlow_frame (k : FlowIdx) (e : Option FlowEntry) (s : State) :
    (s.setFlow k e).now = s.now ∧ (s.setFlow k e).powered = s.powered ∧ (s.setFlow k e).resetLow = s.resetLow ∧
    (s.setFlow k e).lines = s.lines ∧ (s.setFlow k e).pool = s.pool ∧ (s.setFlow k e).egress = s.egress ∧
    (s.setFlow k e).hold = s.hold ∧ (s.setFlow k e).sched = s.sched ∧ (s.setFlow k e).uplink = s.uplink ∧
    (s.setFlow k e).gen = s.gen ∧ (s.setFlow k e).engine = s.engine ∧ (s.setFlow k e).energy = s.energy ∧
    (s.setFlow k e).points = s.points ∧ (s.setFlow k e).ports = s.ports ∧ (s.setFlow k e).notices = s.notices ∧
    (s.setFlow k e).params = s.params ∧ (s.setFlow k e).store = s.store ∧ (s.setFlow k e).status = s.status ∧
    (s.setFlow k e).cause = s.cause ∧ (s.setFlow k e).freeCount = s.freeCount ∧ (s.setFlow k e).pending = s.pending :=
  ⟨rfl, rfl, rfl, rfl, rfl, rfl, rfl, rfl, rfl, rfl, rfl, rfl, rfl, rfl, rfl, rfl, rfl, rfl, rfl, rfl, rfl⟩

/-- A match counted up: the fields it leaves alone. -/
@[simp] theorem State.countMatchUp_frame (k : FlowIdx) (s : State) :
    (s.countMatchUp k).now = s.now ∧ (s.countMatchUp k).powered = s.powered ∧
    (s.countMatchUp k).resetLow = s.resetLow ∧ (s.countMatchUp k).lines = s.lines ∧
    (s.countMatchUp k).pool = s.pool ∧ (s.countMatchUp k).egress = s.egress ∧ (s.countMatchUp k).hold = s.hold ∧
    (s.countMatchUp k).sched = s.sched ∧ (s.countMatchUp k).uplink = s.uplink ∧ (s.countMatchUp k).gen = s.gen ∧
    (s.countMatchUp k).engine = s.engine ∧ (s.countMatchUp k).energy = s.energy ∧
    (s.countMatchUp k).points = s.points ∧ (s.countMatchUp k).ports = s.ports ∧
    (s.countMatchUp k).notices = s.notices ∧ (s.countMatchUp k).params = s.params ∧
    (s.countMatchUp k).store = s.store ∧ (s.countMatchUp k).status = s.status ∧ (s.countMatchUp k).cause = s.cause ∧
    (s.countMatchUp k).freeCount = s.freeCount ∧ (s.countMatchUp k).pending = s.pending :=
  ⟨rfl, rfl, rfl, rfl, rfl, rfl, rfl, rfl, rfl, rfl, rfl, rfl, rfl, rfl, rfl, rfl, rfl, rfl, rfl, rfl, rfl⟩

/-- A match counted down: the fields it leaves alone. -/
@[simp] theorem State.countMatchDown_frame (k : FlowIdx) (s : State) :
    (s.countMatchDown k).now = s.now ∧ (s.countMatchDown k).powered = s.powered ∧
    (s.countMatchDown k).resetLow = s.resetLow ∧ (s.countMatchDown k).lines = s.lines ∧
    (s.countMatchDown k).pool = s.pool ∧ (s.countMatchDown k).egress = s.egress ∧
    (s.countMatchDown k).hold = s.hold ∧ (s.countMatchDown k).sched = s.sched ∧
    (s.countMatchDown k).uplink = s.uplink ∧ (s.countMatchDown k).gen = s.gen ∧
    (s.countMatchDown k).engine = s.engine ∧ (s.countMatchDown k).energy = s.energy ∧
    (s.countMatchDown k).points = s.points ∧ (s.countMatchDown k).ports = s.ports ∧
    (s.countMatchDown k).notices = s.notices ∧ (s.countMatchDown k).params = s.params ∧
    (s.countMatchDown k).store = s.store ∧ (s.countMatchDown k).status = s.status ∧
    (s.countMatchDown k).cause = s.cause ∧ (s.countMatchDown k).freeCount = s.freeCount ∧
    (s.countMatchDown k).pending = s.pending :=
  ⟨rfl, rfl, rfl, rfl, rfl, rfl, rfl, rfl, rfl, rfl, rfl, rfl, rfl, rfl, rfl, rfl, rfl, rfl, rfl, rfl, rfl⟩

/-- A held frame leaves: the fields it leaves alone. -/
@[simp] theorem State.unhold_frame (h : Held) (s : State) :
    (s.unhold h).now = s.now ∧ (s.unhold h).powered = s.powered ∧ (s.unhold h).resetLow = s.resetLow ∧
    (s.unhold h).lines = s.lines ∧ (s.unhold h).pool = s.pool ∧ (s.unhold h).egress = s.egress ∧
    (s.unhold h).flows = s.flows ∧ (s.unhold h).sched = s.sched ∧ (s.unhold h).uplink = s.uplink ∧
    (s.unhold h).gen = s.gen ∧ (s.unhold h).engine = s.engine ∧ (s.unhold h).energy = s.energy ∧
    (s.unhold h).points = s.points ∧ (s.unhold h).ports = s.ports ∧ (s.unhold h).notices = s.notices ∧
    (s.unhold h).params = s.params ∧ (s.unhold h).store = s.store ∧ (s.unhold h).status = s.status ∧
    (s.unhold h).cause = s.cause ∧ (s.unhold h).freeCount = s.freeCount ∧ (s.unhold h).pending = s.pending :=
  ⟨rfl, rfl, rfl, rfl, rfl, rfl, rfl, rfl, rfl, rfl, rfl, rfl, rfl, rfl, rfl, rfl, rfl, rfl, rfl, rfl, rfl⟩

/-- A frame joins an egress queue: the fields it leaves alone. -/
@[simp] theorem State.joinEgress_frame (id : Nat) (l : LineNo) (s : State) :
    (State.joinEgress id s l).now = s.now ∧ (State.joinEgress id s l).powered = s.powered ∧
    (State.joinEgress id s l).resetLow = s.resetLow ∧ (State.joinEgress id s l).lines = s.lines ∧
    (State.joinEgress id s l).pool = s.pool ∧ (State.joinEgress id s l).flows = s.flows ∧
    (State.joinEgress id s l).hold = s.hold ∧ (State.joinEgress id s l).sched = s.sched ∧
    (State.joinEgress id s l).uplink = s.uplink ∧ (State.joinEgress id s l).gen = s.gen ∧
    (State.joinEgress id s l).engine = s.engine ∧ (State.joinEgress id s l).energy = s.energy ∧
    (State.joinEgress id s l).points = s.points ∧ (State.joinEgress id s l).ports = s.ports ∧
    (State.joinEgress id s l).notices = s.notices ∧ (State.joinEgress id s l).params = s.params ∧
    (State.joinEgress id s l).store = s.store ∧ (State.joinEgress id s l).status = s.status ∧
    (State.joinEgress id s l).cause = s.cause ∧ (State.joinEgress id s l).freeCount = s.freeCount ∧
    (State.joinEgress id s l).pending = s.pending :=
  ⟨rfl, rfl, rfl, rfl, rfl, rfl, rfl, rfl, rfl, rfl, rfl, rfl, rfl, rfl, rfl, rfl, rfl, rfl, rfl, rfl, rfl⟩

/-- The current order changed: the fields it leaves alone. -/
@[simp] theorem State.withCurrent_frame (f : Current → Current) (s : State) :
    (s.withCurrent f).now = s.now ∧ (s.withCurrent f).powered = s.powered ∧ (s.withCurrent f).resetLow = s.resetLow ∧
    (s.withCurrent f).lines = s.lines ∧ (s.withCurrent f).pool = s.pool ∧ (s.withCurrent f).egress = s.egress ∧
    (s.withCurrent f).flows = s.flows ∧ (s.withCurrent f).hold = s.hold ∧ (s.withCurrent f).sched = s.sched ∧
    (s.withCurrent f).uplink = s.uplink ∧ (s.withCurrent f).gen = s.gen ∧ (s.withCurrent f).energy = s.energy ∧
    (s.withCurrent f).points = s.points ∧ (s.withCurrent f).ports = s.ports ∧ (s.withCurrent f).notices = s.notices ∧
    (s.withCurrent f).params = s.params ∧ (s.withCurrent f).store = s.store ∧ (s.withCurrent f).status = s.status ∧
    (s.withCurrent f).cause = s.cause ∧ (s.withCurrent f).freeCount = s.freeCount ∧
    (s.withCurrent f).pending = s.pending :=
  ⟨rfl, rfl, rfl, rfl, rfl, rfl, rfl, rfl, rfl, rfl, rfl, rfl, rfl, rfl, rfl, rfl, rfl, rfl, rfl, rfl, rfl⟩

/-- A phase set: the fields it leaves alone. -/
@[simp] theorem State.setPhase_frame (ph : Phase) (s : State) :
    (s.setPhase ph).now = s.now ∧ (s.setPhase ph).powered = s.powered ∧ (s.setPhase ph).resetLow = s.resetLow ∧
    (s.setPhase ph).lines = s.lines ∧ (s.setPhase ph).pool = s.pool ∧ (s.setPhase ph).egress = s.egress ∧
    (s.setPhase ph).flows = s.flows ∧ (s.setPhase ph).hold = s.hold ∧ (s.setPhase ph).sched = s.sched ∧
    (s.setPhase ph).uplink = s.uplink ∧ (s.setPhase ph).gen = s.gen ∧ (s.setPhase ph).energy = s.energy ∧
    (s.setPhase ph).points = s.points ∧ (s.setPhase ph).ports = s.ports ∧ (s.setPhase ph).notices = s.notices ∧
    (s.setPhase ph).params = s.params ∧ (s.setPhase ph).store = s.store ∧ (s.setPhase ph).status = s.status ∧
    (s.setPhase ph).cause = s.cause ∧ (s.setPhase ph).freeCount = s.freeCount ∧ (s.setPhase ph).pending = s.pending :=
  ⟨rfl, rfl, rfl, rfl, rfl, rfl, rfl, rfl, rfl, rfl, rfl, rfl, rfl, rfl, rfl, rfl, rfl, rfl, rfl, rfl, rfl⟩

/-- The test relay asked to move: the fields it leaves alone. -/
@[simp] theorem State.setConn_frame (c : Conn) (s : State) :
    (s.setConn c).now = s.now ∧ (s.setConn c).powered = s.powered ∧ (s.setConn c).resetLow = s.resetLow ∧
    (s.setConn c).pool = s.pool ∧ (s.setConn c).egress = s.egress ∧ (s.setConn c).flows = s.flows ∧
    (s.setConn c).hold = s.hold ∧ (s.setConn c).sched = s.sched ∧ (s.setConn c).uplink = s.uplink ∧
    (s.setConn c).gen = s.gen ∧ (s.setConn c).engine = s.engine ∧ (s.setConn c).energy = s.energy ∧
    (s.setConn c).points = s.points ∧ (s.setConn c).ports = s.ports ∧ (s.setConn c).notices = s.notices ∧
    (s.setConn c).params = s.params ∧ (s.setConn c).store = s.store ∧ (s.setConn c).status = s.status ∧
    (s.setConn c).cause = s.cause ∧ (s.setConn c).freeCount = s.freeCount ∧ (s.setConn c).pending = s.pending := by
  unfold State.setConn
  (repeat' split) <;> exact ⟨rfl, rfl, rfl, rfl, rfl, rfl, rfl, rfl, rfl, rfl, rfl, rfl, rfl, rfl, rfl, rfl, rfl, rfl, rfl, rfl, rfl⟩

/-- A cut: the fields it leaves alone. -/
@[simp] theorem State.cutGen_frame (s : State) :
    s.cutGen.now = s.now ∧ s.cutGen.powered = s.powered ∧ s.cutGen.resetLow = s.resetLow ∧ s.cutGen.lines = s.lines ∧
    s.cutGen.pool = s.pool ∧ s.cutGen.egress = s.egress ∧ s.cutGen.flows = s.flows ∧ s.cutGen.hold = s.hold ∧
    s.cutGen.sched = s.sched ∧ s.cutGen.uplink = s.uplink ∧ s.cutGen.engine = s.engine ∧ s.cutGen.energy = s.energy ∧
    s.cutGen.points = s.points ∧ s.cutGen.ports = s.ports ∧ s.cutGen.notices = s.notices ∧
    s.cutGen.params = s.params ∧ s.cutGen.store = s.store ∧ s.cutGen.status = s.status ∧ s.cutGen.cause = s.cause ∧
    s.cutGen.freeCount = s.freeCount ∧ s.cutGen.pending = s.pending :=
  ⟨rfl, rfl, rfl, rfl, rfl, rfl, rfl, rfl, rfl, rfl, rfl, rfl, rfl, rfl, rfl, rfl, rfl, rfl, rfl, rfl, rfl⟩

/-- Drive on or off: the fields it leaves alone. -/
@[simp] theorem State.setDrive_frame (b : Bool) (s : State) :
    (s.setDrive b).now = s.now ∧ (s.setDrive b).powered = s.powered ∧ (s.setDrive b).resetLow = s.resetLow ∧
    (s.setDrive b).lines = s.lines ∧ (s.setDrive b).pool = s.pool ∧ (s.setDrive b).egress = s.egress ∧
    (s.setDrive b).flows = s.flows ∧ (s.setDrive b).hold = s.hold ∧ (s.setDrive b).sched = s.sched ∧
    (s.setDrive b).uplink = s.uplink ∧ (s.setDrive b).engine = s.engine ∧ (s.setDrive b).energy = s.energy ∧
    (s.setDrive b).points = s.points ∧ (s.setDrive b).ports = s.ports ∧ (s.setDrive b).notices = s.notices ∧
    (s.setDrive b).params = s.params ∧ (s.setDrive b).store = s.store ∧ (s.setDrive b).status = s.status ∧
    (s.setDrive b).cause = s.cause ∧ (s.setDrive b).freeCount = s.freeCount ∧ (s.setDrive b).pending = s.pending :=
  ⟨rfl, rfl, rfl, rfl, rfl, rfl, rfl, rfl, rfl, rfl, rfl, rfl, rfl, rfl, rfl, rfl, rfl, rfl, rfl, rfl, rfl⟩

/-- The cap class set: the fields it leaves alone. -/
@[simp] theorem State.setCap_frame (c : Nat) (s : State) :
    (s.setCap c).now = s.now ∧ (s.setCap c).powered = s.powered ∧ (s.setCap c).resetLow = s.resetLow ∧
    (s.setCap c).lines = s.lines ∧ (s.setCap c).pool = s.pool ∧ (s.setCap c).egress = s.egress ∧
    (s.setCap c).flows = s.flows ∧ (s.setCap c).hold = s.hold ∧ (s.setCap c).sched = s.sched ∧
    (s.setCap c).uplink = s.uplink ∧ (s.setCap c).gen = s.gen ∧ (s.setCap c).engine = s.engine ∧
    (s.setCap c).points = s.points ∧ (s.setCap c).ports = s.ports ∧ (s.setCap c).notices = s.notices ∧
    (s.setCap c).params = s.params ∧ (s.setCap c).store = s.store ∧ (s.setCap c).status = s.status ∧
    (s.setCap c).cause = s.cause ∧ (s.setCap c).freeCount = s.freeCount ∧ (s.setCap c).pending = s.pending :=
  ⟨rfl, rfl, rfl, rfl, rfl, rfl, rfl, rfl, rfl, rfl, rfl, rfl, rfl, rfl, rfl, rfl, rfl, rfl, rfl, rfl, rfl⟩

/-- The shed list set: the fields it leaves alone. -/
@[simp] theorem State.setShed_frame (ls : List LineNo) (s : State) :
    (s.setShed ls).now = s.now ∧ (s.setShed ls).powered = s.powered ∧ (s.setShed ls).resetLow = s.resetLow ∧
    (s.setShed ls).lines = s.lines ∧ (s.setShed ls).pool = s.pool ∧ (s.setShed ls).egress = s.egress ∧
    (s.setShed ls).flows = s.flows ∧ (s.setShed ls).hold = s.hold ∧ (s.setShed ls).sched = s.sched ∧
    (s.setShed ls).uplink = s.uplink ∧ (s.setShed ls).gen = s.gen ∧ (s.setShed ls).engine = s.engine ∧
    (s.setShed ls).points = s.points ∧ (s.setShed ls).ports = s.ports ∧ (s.setShed ls).notices = s.notices ∧
    (s.setShed ls).params = s.params ∧ (s.setShed ls).store = s.store ∧ (s.setShed ls).status = s.status ∧
    (s.setShed ls).cause = s.cause ∧ (s.setShed ls).freeCount = s.freeCount ∧ (s.setShed ls).pending = s.pending :=
  ⟨rfl, rfl, rfl, rfl, rfl, rfl, rfl, rfl, rfl, rfl, rfl, rfl, rfl, rfl, rfl, rfl, rfl, rfl, rfl, rfl, rfl⟩

/-- A point record changed: the fields it leaves alone. -/
@[simp] theorem State.setPoint_frame (p : PointNo) (f : Point → Point) (s : State) :
    (s.setPoint p f).now = s.now ∧ (s.setPoint p f).powered = s.powered ∧ (s.setPoint p f).resetLow = s.resetLow ∧
    (s.setPoint p f).lines = s.lines ∧ (s.setPoint p f).pool = s.pool ∧ (s.setPoint p f).egress = s.egress ∧
    (s.setPoint p f).flows = s.flows ∧ (s.setPoint p f).hold = s.hold ∧ (s.setPoint p f).sched = s.sched ∧
    (s.setPoint p f).uplink = s.uplink ∧ (s.setPoint p f).gen = s.gen ∧ (s.setPoint p f).engine = s.engine ∧
    (s.setPoint p f).energy = s.energy ∧ (s.setPoint p f).ports = s.ports ∧ (s.setPoint p f).notices = s.notices ∧
    (s.setPoint p f).params = s.params ∧ (s.setPoint p f).store = s.store ∧ (s.setPoint p f).status = s.status ∧
    (s.setPoint p f).cause = s.cause ∧ (s.setPoint p f).freeCount = s.freeCount ∧ (s.setPoint p f).pending = s.pending :=
  ⟨rfl, rfl, rfl, rfl, rfl, rfl, rfl, rfl, rfl, rfl, rfl, rfl, rfl, rfl, rfl, rfl, rfl, rfl, rfl, rfl, rfl⟩

/-- The surge state set: the fields it leaves alone. -/
@[simp] theorem State.setSurge_frame (v : Surge) (s : State) :
    (s.setSurge v).now = s.now ∧ (s.setSurge v).powered = s.powered ∧ (s.setSurge v).resetLow = s.resetLow ∧
    (s.setSurge v).lines = s.lines ∧ (s.setSurge v).pool = s.pool ∧ (s.setSurge v).egress = s.egress ∧
    (s.setSurge v).flows = s.flows ∧ (s.setSurge v).hold = s.hold ∧ (s.setSurge v).sched = s.sched ∧
    (s.setSurge v).uplink = s.uplink ∧ (s.setSurge v).gen = s.gen ∧ (s.setSurge v).engine = s.engine ∧
    (s.setSurge v).energy = s.energy ∧ (s.setSurge v).ports = s.ports ∧ (s.setSurge v).notices = s.notices ∧
    (s.setSurge v).params = s.params ∧ (s.setSurge v).store = s.store ∧ (s.setSurge v).status = s.status ∧
    (s.setSurge v).cause = s.cause ∧ (s.setSurge v).freeCount = s.freeCount ∧ (s.setSurge v).pending = s.pending :=
  ⟨rfl, rfl, rfl, rfl, rfl, rfl, rfl, rfl, rfl, rfl, rfl, rfl, rfl, rfl, rfl, rfl, rfl, rfl, rfl, rfl, rfl⟩

/-- The test power request set: the fields it leaves alone. -/
@[simp] theorem State.setTestPower_frame (b : Bool) (s : State) :
    (s.setTestPower b).now = s.now ∧ (s.setTestPower b).powered = s.powered ∧
    (s.setTestPower b).resetLow = s.resetLow ∧ (s.setTestPower b).lines = s.lines ∧
    (s.setTestPower b).pool = s.pool ∧ (s.setTestPower b).egress = s.egress ∧ (s.setTestPower b).flows = s.flows ∧
    (s.setTestPower b).hold = s.hold ∧ (s.setTestPower b).sched = s.sched ∧ (s.setTestPower b).uplink = s.uplink ∧
    (s.setTestPower b).gen = s.gen ∧ (s.setTestPower b).engine = s.engine ∧ (s.setTestPower b).energy = s.energy ∧
    (s.setTestPower b).ports = s.ports ∧ (s.setTestPower b).notices = s.notices ∧
    (s.setTestPower b).params = s.params ∧ (s.setTestPower b).store = s.store ∧
    (s.setTestPower b).status = s.status ∧ (s.setTestPower b).cause = s.cause ∧
    (s.setTestPower b).freeCount = s.freeCount ∧ (s.setTestPower b).pending = s.pending :=
  ⟨rfl, rfl, rfl, rfl, rfl, rfl, rfl, rfl, rfl, rfl, rfl, rfl, rfl, rfl, rfl, rfl, rfl, rfl, rfl, rfl, rfl⟩

/-- The engine becomes idle: the fields it leaves alone. -/
@[simp] theorem State.idleEngine_frame (s : State) :
    s.idleEngine.now = s.now ∧ s.idleEngine.powered = s.powered ∧ s.idleEngine.resetLow = s.resetLow ∧
    s.idleEngine.lines = s.lines ∧ s.idleEngine.pool = s.pool ∧ s.idleEngine.egress = s.egress ∧
    s.idleEngine.flows = s.flows ∧ s.idleEngine.hold = s.hold ∧ s.idleEngine.sched = s.sched ∧
    s.idleEngine.uplink = s.uplink ∧ s.idleEngine.gen = s.gen ∧ s.idleEngine.energy = s.energy ∧
    s.idleEngine.points = s.points ∧ s.idleEngine.ports = s.ports ∧ s.idleEngine.notices = s.notices ∧
    s.idleEngine.params = s.params ∧ s.idleEngine.store = s.store ∧ s.idleEngine.status = s.status ∧
    s.idleEngine.cause = s.cause ∧ s.idleEngine.freeCount = s.freeCount ∧ s.idleEngine.pending = s.pending :=
  ⟨rfl, rfl, rfl, rfl, rfl, rfl, rfl, rfl, rfl, rfl, rfl, rfl, rfl, rfl, rfl, rfl, rfl, rfl, rfl, rfl, rfl⟩

/-- An order leaves the queue: the fields it leaves alone. -/
@[simp] theorem State.dequeue_frame (o : TestOrder) (s : State) :
    (s.dequeue o).now = s.now ∧ (s.dequeue o).powered = s.powered ∧ (s.dequeue o).resetLow = s.resetLow ∧
    (s.dequeue o).lines = s.lines ∧ (s.dequeue o).pool = s.pool ∧ (s.dequeue o).egress = s.egress ∧
    (s.dequeue o).flows = s.flows ∧ (s.dequeue o).hold = s.hold ∧ (s.dequeue o).sched = s.sched ∧
    (s.dequeue o).uplink = s.uplink ∧ (s.dequeue o).gen = s.gen ∧ (s.dequeue o).energy = s.energy ∧
    (s.dequeue o).points = s.points ∧ (s.dequeue o).ports = s.ports ∧ (s.dequeue o).notices = s.notices ∧
    (s.dequeue o).params = s.params ∧ (s.dequeue o).store = s.store ∧ (s.dequeue o).status = s.status ∧
    (s.dequeue o).cause = s.cause ∧ (s.dequeue o).freeCount = s.freeCount ∧ (s.dequeue o).pending = s.pending :=
  ⟨rfl, rfl, rfl, rfl, rfl, rfl, rfl, rfl, rfl, rfl, rfl, rfl, rfl, rfl, rfl, rfl, rfl, rfl, rfl, rfl, rfl⟩

/-- An order joins the queue: the fields it leaves alone. -/
@[simp] theorem State.enqueue_frame (o : TestOrder) (s : State) :
    (s.enqueue o).now = s.now ∧ (s.enqueue o).powered = s.powered ∧ (s.enqueue o).resetLow = s.resetLow ∧
    (s.enqueue o).lines = s.lines ∧ (s.enqueue o).pool = s.pool ∧ (s.enqueue o).egress = s.egress ∧
    (s.enqueue o).flows = s.flows ∧ (s.enqueue o).hold = s.hold ∧ (s.enqueue o).sched = s.sched ∧
    (s.enqueue o).uplink = s.uplink ∧ (s.enqueue o).gen = s.gen ∧ (s.enqueue o).energy = s.energy ∧
    (s.enqueue o).points = s.points ∧ (s.enqueue o).ports = s.ports ∧ (s.enqueue o).notices = s.notices ∧
    (s.enqueue o).params = s.params ∧ (s.enqueue o).store = s.store ∧ (s.enqueue o).status = s.status ∧
    (s.enqueue o).cause = s.cause ∧ (s.enqueue o).freeCount = s.freeCount ∧ (s.enqueue o).pending = s.pending :=
  ⟨rfl, rfl, rfl, rfl, rfl, rfl, rfl, rfl, rfl, rfl, rfl, rfl, rfl, rfl, rfl, rfl, rfl, rfl, rfl, rfl, rfl⟩

/-- An order becomes current: the fields it leaves alone. -/
@[simp] theorem State.makeCurrent_frame (o : TestOrder) (s : State) :
    (s.makeCurrent o).now = s.now ∧ (s.makeCurrent o).powered = s.powered ∧ (s.makeCurrent o).resetLow = s.resetLow ∧
    (s.makeCurrent o).lines = s.lines ∧ (s.makeCurrent o).pool = s.pool ∧ (s.makeCurrent o).egress = s.egress ∧
    (s.makeCurrent o).flows = s.flows ∧ (s.makeCurrent o).hold = s.hold ∧ (s.makeCurrent o).sched = s.sched ∧
    (s.makeCurrent o).uplink = s.uplink ∧ (s.makeCurrent o).gen = s.gen ∧ (s.makeCurrent o).energy = s.energy ∧
    (s.makeCurrent o).ports = s.ports ∧ (s.makeCurrent o).notices = s.notices ∧ (s.makeCurrent o).params = s.params ∧
    (s.makeCurrent o).store = s.store ∧ (s.makeCurrent o).status = s.status ∧ (s.makeCurrent o).cause = s.cause ∧
    (s.makeCurrent o).freeCount = s.freeCount ∧ (s.makeCurrent o).pending = s.pending :=
  ⟨rfl, rfl, rfl, rfl, rfl, rfl, rfl, rfl, rfl, rfl, rfl, rfl, rfl, rfl, rfl, rfl, rfl, rfl, rfl, rfl⟩

/-- Pending link values come into force: the fields it leaves alone. -/
@[simp] theorem State.pendingInForce_frame (s : State) :
    s.pendingInForce.now = s.now ∧ s.pendingInForce.powered = s.powered ∧ s.pendingInForce.resetLow = s.resetLow ∧
    s.pendingInForce.lines = s.lines ∧ s.pendingInForce.pool = s.pool ∧ s.pendingInForce.egress = s.egress ∧
    s.pendingInForce.flows = s.flows ∧ s.pendingInForce.hold = s.hold ∧ s.pendingInForce.sched = s.sched ∧
    s.pendingInForce.uplink = s.uplink ∧ s.pendingInForce.gen = s.gen ∧ s.pendingInForce.engine = s.engine ∧
    s.pendingInForce.energy = s.energy ∧ s.pendingInForce.points = s.points ∧ s.pendingInForce.notices = s.notices ∧
    s.pendingInForce.params = s.params ∧ s.pendingInForce.store = s.store ∧ s.pendingInForce.status = s.status ∧
    s.pendingInForce.cause = s.cause ∧ s.pendingInForce.freeCount = s.freeCount ∧ s.pendingInForce.pending = s.pending :=
  ⟨rfl, rfl, rfl, rfl, rfl, rfl, rfl, rfl, rfl, rfl, rfl, rfl, rfl, rfl, rfl, rfl, rfl, rfl, rfl, rfl, rfl⟩

/-- The queue of commands set: the fields it leaves alone. -/
@[simp] theorem State.withPending_frame (cs : List Instr) (s : State) :
    (s.withPending cs).now = s.now ∧ (s.withPending cs).powered = s.powered ∧
    (s.withPending cs).resetLow = s.resetLow ∧ (s.withPending cs).lines = s.lines ∧
    (s.withPending cs).pool = s.pool ∧ (s.withPending cs).egress = s.egress ∧ (s.withPending cs).flows = s.flows ∧
    (s.withPending cs).hold = s.hold ∧ (s.withPending cs).sched = s.sched ∧ (s.withPending cs).uplink = s.uplink ∧
    (s.withPending cs).gen = s.gen ∧ (s.withPending cs).engine = s.engine ∧ (s.withPending cs).energy = s.energy ∧
    (s.withPending cs).points = s.points ∧ (s.withPending cs).ports = s.ports ∧
    (s.withPending cs).notices = s.notices ∧ (s.withPending cs).params = s.params ∧
    (s.withPending cs).store = s.store ∧ (s.withPending cs).status = s.status ∧ (s.withPending cs).cause = s.cause ∧
    (s.withPending cs).freeCount = s.freeCount :=
  ⟨rfl, rfl, rfl, rfl, rfl, rfl, rfl, rfl, rfl, rfl, rfl, rfl, rfl, rfl, rfl, rfl, rfl, rfl, rfl, rfl, rfl⟩

/-- A return target edited: the fields it leaves alone. -/
@[simp] theorem State.editTarget_frame (l : LineNo) (t : Target) (c : Conn) (s : State) :
    (s.editTarget l t c).now = s.now ∧ (s.editTarget l t c).powered = s.powered ∧
    (s.editTarget l t c).resetLow = s.resetLow ∧ (s.editTarget l t c).pool = s.pool ∧
    (s.editTarget l t c).egress = s.egress ∧ (s.editTarget l t c).flows = s.flows ∧
    (s.editTarget l t c).hold = s.hold ∧ (s.editTarget l t c).sched = s.sched ∧
    (s.editTarget l t c).uplink = s.uplink ∧ (s.editTarget l t c).gen = s.gen ∧
    (s.editTarget l t c).engine = s.engine ∧ (s.editTarget l t c).energy = s.energy ∧
    (s.editTarget l t c).points = s.points ∧ (s.editTarget l t c).ports = s.ports ∧
    (s.editTarget l t c).notices = s.notices ∧ (s.editTarget l t c).params = s.params ∧
    (s.editTarget l t c).store = s.store ∧ (s.editTarget l t c).status = s.status ∧
    (s.editTarget l t c).cause = s.cause ∧ (s.editTarget l t c).freeCount = s.freeCount ∧
    (s.editTarget l t c).pending = s.pending :=
  ⟨rfl, rfl, rfl, rfl, rfl, rfl, rfl, rfl, rfl, rfl, rfl, rfl, rfl, rfl, rfl, rfl, rfl, rfl, rfl, rfl, rfl⟩

/-! ### The fields that an update writes -/

@[simp] theorem State.advance_now (t : Nat) (s : State) : (s.advance t).now = max s.now t := rfl

@[simp] theorem State.setLine_lines (l : LineNo) (f : LineRec → LineRec) (s : State) :
    (s.setLine l f).lines = s.lines.set l (f s.lines[l]) := rfl

@[simp] theorem State.setFlow_flows (k : FlowIdx) (e : Option FlowEntry) (s : State) :
    (s.setFlow k e).flows = s.flows.set k e := rfl

@[simp] theorem State.giveUp_pool (id : Nat) (s : State) : (s.giveUp id).pool = s.pool.giveUp id := rfl

@[simp] theorem State.unhold_hold (h : Held) (s : State) :
    (s.unhold h).hold = s.hold.filter fun k => k.frame != h.frame := rfl

@[simp] theorem State.joinEgress_egress (id : Nat) (l : LineNo) (s : State) :
    (State.joinEgress id s l).egress = s.egress.set l (s.egress[l] ++ [id]) := rfl

@[simp] theorem State.withCurrent_engine (f : Current → Current) (s : State) :
    (s.withCurrent f).engine = { s.engine with current := s.engine.current.map f } := rfl

@[simp] theorem State.setPhase_engine (ph : Phase) (s : State) :
    (s.setPhase ph).engine = { s.engine with current := s.engine.current.map fun c => { c with phase := ph } } := rfl

@[simp] theorem State.cutGen_gen (s : State) : s.cutGen.gen = s.gen.cut := rfl

@[simp] theorem State.setDrive_gen (b : Bool) (s : State) : (s.setDrive b).gen = { s.gen with drive := b } := rfl

@[simp] theorem State.setCap_energy (c : Nat) (s : State) : (s.setCap c).energy = { s.energy with cap := c } := rfl

@[simp] theorem State.setShed_energy (ls : List LineNo) (s : State) :
    (s.setShed ls).energy = { s.energy with shed := ls } := rfl

@[simp] theorem State.setPoint_points (p : PointNo) (f : Point → Point) (s : State) :
    (s.setPoint p f).points = { s.points with recs := s.points.recs.set p (f s.points.recs[p]) } := rfl

@[simp] theorem State.setSurge_points (v : Surge) (s : State) :
    (s.setSurge v).points = { s.points with surge := v } := rfl

@[simp] theorem State.setTestPower_points (b : Bool) (s : State) :
    (s.setTestPower b).points = { s.points with testPower := b } := rfl

@[simp] theorem State.idleEngine_engine (s : State) :
    s.idleEngine.engine = { s.engine with current := none } := rfl

@[simp] theorem State.dequeue_engine (o : TestOrder) (s : State) :
    (s.dequeue o).engine = { s.engine with queue := s.engine.queue.filter fun q => q.id != o.id } := rfl

@[simp] theorem State.enqueue_engine (o : TestOrder) (s : State) :
    (s.enqueue o).engine = { s.engine with queue := s.engine.queue ++ [o], lastId := o.id } := rfl

@[simp] theorem State.withPending_pending (cs : List Instr) (s : State) : (s.withPending cs).pending = cs := rfl

@[simp] theorem State.withPending_withPending (as bs : List Instr) (s : State) :
    (s.withPending as).withPending bs = s.withPending bs := rfl

/-! ### Ports -/

@[simp] theorem State.port_setPort_self (p : PortId) (f : PortRec → PortRec) (s : State) :
    (s.setPort p f).port p = f (s.port p) := by cases p <;> rfl

@[simp] theorem State.port_setPort_other {p q : PortId} (f : PortRec → PortRec) (s : State) (h : q ≠ p) :
    (s.setPort p f).port q = s.port q := by
  cases p <;> cases q <;> first | rfl | exact absurd rfl h

@[simp] theorem State.port_setRecv_self (p : PortId) (v : Recv) (s : State) :
    (s.setRecv p v).port p = { s.port p with recv := v } := by cases p <;> rfl

@[simp] theorem State.port_setJob_self (p : PortId) (j : Option Job) (s : State) :
    (s.setJob p j).port p = { s.port p with job := j } := by cases p <;> rfl

@[simp] theorem State.port_countFault_self (p : PortId) (k : FaultKind) (s : State) :
    (s.countFault p k).port p = { s.port p with faults := (s.port p).faults.add k } := by cases p <;> rfl

@[simp] theorem State.port_setRecv_other {p q : PortId} (v : Recv) (s : State) (h : q ≠ p) :
    (s.setRecv p v).port q = s.port q := State.port_setPort_other _ s h

@[simp] theorem State.port_setJob_other {p q : PortId} (j : Option Job) (s : State) (h : q ≠ p) :
    (s.setJob p j).port q = s.port q := State.port_setPort_other _ s h

@[simp] theorem State.port_countFault_other {p q : PortId} (k : FaultKind) (s : State) (h : q ≠ p) :
    (s.countFault p k).port q = s.port q := State.port_setPort_other _ s h

@[simp] theorem State.port_advance (p : PortId) (t : Nat) (s : State) : (s.advance t).port p = s.port p := by
  cases p <;> rfl

/-! ### One line's record after an update -/

@[simp] theorem State.line_setLine_self (l : LineNo) (f : LineRec → LineRec) (s : State) :
    (s.setLine l f).line l = f (s.line l) := by
  simp [State.line]

@[simp] theorem State.line_setLine_other {l k : LineNo} (f : LineRec → LineRec) (s : State) (h : k ≠ l) :
    (s.setLine l f).line k = s.line k := by
  have hv : (l : Nat) ≠ k := fun e => h (Fin.ext e.symm)
  simp [State.line, hv]

theorem State.line_setLine (l k : LineNo) (f : LineRec → LineRec) (s : State) :
    (s.setLine l f).line k = if k = l then f (s.line l) else s.line k := by
  by_cases h : k = l
  · subst h; simp
  · simp [h]

theorem State.line_setLineState (l k : LineNo) (st : LineState) (s : State) :
    (s.setLineState l st).line k = if k = l then { s.line l with state := st } else s.line k :=
  State.line_setLine l k _ s

theorem State.line_setFail (l k : LineNo) (n : Nat) (s : State) :
    (s.setFail l n).line k = if k = l then { s.line l with failCount := n } else s.line k :=
  State.line_setLine l k _ s

/-- A line record is read from the field `lines` alone. -/
theorem State.line_congr {s u : State} (h : u.lines = s.lines) (l : LineNo) : u.line l = s.line l := by
  simp [State.line, h]

/-- A point record is read from the field `points` alone. -/
theorem State.point_congr {s u : State} (h : u.points = s.points) (p : PointNo) : u.point p = s.point p := by
  simp [State.point, h]

end Sys2Proof.Machine
end

