-- ==== Sys2Proof/Laws/Frames.lean ====
section
/-! SUPPORT. For each shared operation, what it never touches: one theorem each, stating every field it leaves alone. -/

namespace Sys2Proof.Machine

/-- A fold keeps what each of its steps keeps. -/
theorem foldl_keeps {α β γ : Type} (g : α → γ) (f : α → β → α) (h : ∀ a b, g (f a b) = g a) (bs : List β) (a : α) :
    g (bs.foldl f a) = g a := by
  induction bs generalizing a with
  | nil => rfl
  | cons b bs ih => exact (ih (f a b)).trans (h a b)

@[simp] theorem State.joinIngress_frame (l : LineNo) (id : Nat) (s : State) :
    (s.joinIngress l id).now = s.now ∧ (s.joinIngress l id).powered = s.powered ∧
    (s.joinIngress l id).resetLow = s.resetLow ∧ (s.joinIngress l id).lines = s.lines ∧
    (s.joinIngress l id).pool = s.pool ∧ (s.joinIngress l id).egress = s.egress ∧
    (s.joinIngress l id).flows = s.flows ∧ (s.joinIngress l id).hold = s.hold ∧
    (s.joinIngress l id).uplink = s.uplink ∧ (s.joinIngress l id).gen = s.gen ∧
    (s.joinIngress l id).engine = s.engine ∧ (s.joinIngress l id).energy = s.energy ∧
    (s.joinIngress l id).points = s.points ∧ (s.joinIngress l id).ports = s.ports ∧
    (s.joinIngress l id).notices = s.notices ∧ (s.joinIngress l id).params = s.params ∧
    (s.joinIngress l id).store = s.store ∧ (s.joinIngress l id).status = s.status ∧
    (s.joinIngress l id).cause = s.cause ∧ (s.joinIngress l id).freeCount = s.freeCount ∧
    (s.joinIngress l id).pending = s.pending := by
  unfold State.joinIngress
  (repeat' split) <;> simp

@[simp] theorem State.endTurn_frame (s : State) :
    s.endTurn.now = s.now ∧ s.endTurn.powered = s.powered ∧ s.endTurn.resetLow = s.resetLow ∧
    s.endTurn.lines = s.lines ∧ s.endTurn.pool = s.pool ∧ s.endTurn.egress = s.egress ∧ s.endTurn.flows = s.flows ∧
    s.endTurn.hold = s.hold ∧ s.endTurn.uplink = s.uplink ∧ s.endTurn.gen = s.gen ∧ s.endTurn.engine = s.engine ∧
    s.endTurn.energy = s.energy ∧ s.endTurn.points = s.points ∧ s.endTurn.ports = s.ports ∧
    s.endTurn.notices = s.notices ∧ s.endTurn.params = s.params ∧ s.endTurn.store = s.store ∧
    s.endTurn.status = s.status ∧ s.endTurn.cause = s.cause ∧ s.endTurn.freeCount = s.freeCount ∧
    s.endTurn.pending = s.pending := by
  unfold State.endTurn
  (repeat' split) <;> simp

@[simp] theorem State.grant_frame (l : LineNo) (rest : List LineNo) (id : Nat) (more : List Nat) (s : State) :
    (s.grant l rest id more).now = s.now ∧ (s.grant l rest id more).powered = s.powered ∧
    (s.grant l rest id more).resetLow = s.resetLow ∧ (s.grant l rest id more).lines = s.lines ∧
    (s.grant l rest id more).pool = s.pool ∧ (s.grant l rest id more).egress = s.egress ∧
    (s.grant l rest id more).flows = s.flows ∧ (s.grant l rest id more).hold = s.hold ∧
    (s.grant l rest id more).uplink = s.uplink ∧ (s.grant l rest id more).gen = s.gen ∧
    (s.grant l rest id more).engine = s.engine ∧ (s.grant l rest id more).energy = s.energy ∧
    (s.grant l rest id more).points = s.points ∧ (s.grant l rest id more).ports = s.ports ∧
    (s.grant l rest id more).notices = s.notices ∧ (s.grant l rest id more).params = s.params ∧
    (s.grant l rest id more).store = s.store ∧ (s.grant l rest id more).status = s.status ∧
    (s.grant l rest id more).cause = s.cause ∧ (s.grant l rest id more).freeCount = s.freeCount ∧
    (s.grant l rest id more).pending = s.pending := by
  unfold State.grant
  (repeat' split) <;> simp

@[simp] theorem State.decide_frame (s : State) :
    s.decide.now = s.now ∧ s.decide.powered = s.powered ∧ s.decide.resetLow = s.resetLow ∧ s.decide.lines = s.lines ∧
    s.decide.pool = s.pool ∧ s.decide.egress = s.egress ∧ s.decide.flows = s.flows ∧ s.decide.hold = s.hold ∧
    s.decide.uplink = s.uplink ∧ s.decide.gen = s.gen ∧ s.decide.engine = s.engine ∧ s.decide.energy = s.energy ∧
    s.decide.points = s.points ∧ s.decide.ports = s.ports ∧ s.decide.notices = s.notices ∧
    s.decide.params = s.params ∧ s.decide.store = s.store ∧ s.decide.status = s.status ∧ s.decide.cause = s.cause ∧
    s.decide.freeCount = s.freeCount ∧ s.decide.pending = s.pending := by
  unfold State.decide
  (repeat' split) <;> simp

@[simp] theorem State.emptyEgress_frame (l : LineNo) (s : State) :
    (s.emptyEgress l).now = s.now ∧ (s.emptyEgress l).powered = s.powered ∧ (s.emptyEgress l).resetLow = s.resetLow ∧
    (s.emptyEgress l).flows = s.flows ∧ (s.emptyEgress l).hold = s.hold ∧ (s.emptyEgress l).sched = s.sched ∧
    (s.emptyEgress l).uplink = s.uplink ∧ (s.emptyEgress l).gen = s.gen ∧ (s.emptyEgress l).engine = s.engine ∧
    (s.emptyEgress l).energy = s.energy ∧ (s.emptyEgress l).points = s.points ∧ (s.emptyEgress l).ports = s.ports ∧
    (s.emptyEgress l).notices = s.notices ∧ (s.emptyEgress l).params = s.params ∧ (s.emptyEgress l).store = s.store ∧
    (s.emptyEgress l).status = s.status ∧ (s.emptyEgress l).cause = s.cause ∧
    (s.emptyEgress l).freeCount = s.freeCount ∧ (s.emptyEgress l).pending = s.pending := ⟨foldl_keeps State.now _ (fun _ _ => by simp) _ _,
    foldl_keeps State.powered _ (fun _ _ => by simp) _ _,
    foldl_keeps State.resetLow _ (fun _ _ => by simp) _ _,
    foldl_keeps State.flows _ (fun _ _ => by simp) _ _,
    foldl_keeps State.hold _ (fun _ _ => by simp) _ _,
    foldl_keeps State.sched _ (fun _ _ => by simp) _ _,
    foldl_keeps State.uplink _ (fun _ _ => by simp) _ _,
    foldl_keeps State.gen _ (fun _ _ => by simp) _ _,
    foldl_keeps State.engine _ (fun _ _ => by simp) _ _,
    foldl_keeps State.energy _ (fun _ _ => by simp) _ _,
    foldl_keeps State.points _ (fun _ _ => by simp) _ _,
    foldl_keeps State.ports _ (fun _ _ => by simp) _ _,
    foldl_keeps State.notices _ (fun _ _ => by simp) _ _,
    foldl_keeps State.params _ (fun _ _ => by simp) _ _,
    foldl_keeps State.store _ (fun _ _ => by simp) _ _,
    foldl_keeps State.status _ (fun _ _ => by simp) _ _,
    foldl_keeps State.cause _ (fun _ _ => by simp) _ _,
    foldl_keeps State.freeCount _ (fun _ _ => by simp) _ _,
    foldl_keeps State.pending _ (fun _ _ => by simp) _ _⟩

@[simp] theorem State.moveLine_frame (l : LineNo) (st : LineState) (c : LineCause) (s : State) :
    (s.moveLine l st c).now = s.now ∧ (s.moveLine l st c).powered = s.powered ∧
    (s.moveLine l st c).resetLow = s.resetLow ∧ (s.moveLine l st c).flows = s.flows ∧
    (s.moveLine l st c).hold = s.hold ∧ (s.moveLine l st c).sched = s.sched ∧ (s.moveLine l st c).uplink = s.uplink ∧
    (s.moveLine l st c).gen = s.gen ∧ (s.moveLine l st c).engine = s.engine ∧ (s.moveLine l st c).energy = s.energy ∧
    (s.moveLine l st c).points = s.points ∧ (s.moveLine l st c).ports = s.ports ∧
    (s.moveLine l st c).params = s.params ∧ (s.moveLine l st c).store = s.store ∧
    (s.moveLine l st c).status = s.status ∧ (s.moveLine l st c).cause = s.cause ∧
    (s.moveLine l st c).freeCount = s.freeCount ∧ (s.moveLine l st c).pending = s.pending := by
  unfold State.moveLine
  (repeat' split) <;> simp

@[simp] theorem State.missDecide_frame (l : LineNo) (tag len : Nat) (s : State) :
    (s.missDecide l tag len).now = s.now ∧ (s.missDecide l tag len).powered = s.powered ∧
    (s.missDecide l tag len).resetLow = s.resetLow ∧ (s.missDecide l tag len).egress = s.egress ∧
    (s.missDecide l tag len).flows = s.flows ∧ (s.missDecide l tag len).sched = s.sched ∧
    (s.missDecide l tag len).uplink = s.uplink ∧ (s.missDecide l tag len).gen = s.gen ∧
    (s.missDecide l tag len).engine = s.engine ∧ (s.missDecide l tag len).energy = s.energy ∧
    (s.missDecide l tag len).points = s.points ∧ (s.missDecide l tag len).ports = s.ports ∧
    (s.missDecide l tag len).params = s.params ∧ (s.missDecide l tag len).store = s.store ∧
    (s.missDecide l tag len).status = s.status ∧ (s.missDecide l tag len).cause = s.cause ∧
    (s.missDecide l tag len).freeCount = s.freeCount ∧ (s.missDecide l tag len).pending = s.pending := by
  unfold State.missDecide
  (repeat' split) <;> simp

@[simp] theorem State.expireHeld_frame (l : LineNo) (tag : Nat) (s : State) :
    (s.expireHeld l tag).now = s.now ∧ (s.expireHeld l tag).powered = s.powered ∧
    (s.expireHeld l tag).resetLow = s.resetLow ∧ (s.expireHeld l tag).egress = s.egress ∧
    (s.expireHeld l tag).flows = s.flows ∧ (s.expireHeld l tag).sched = s.sched ∧
    (s.expireHeld l tag).uplink = s.uplink ∧ (s.expireHeld l tag).gen = s.gen ∧
    (s.expireHeld l tag).engine = s.engine ∧ (s.expireHeld l tag).energy = s.energy ∧
    (s.expireHeld l tag).points = s.points ∧ (s.expireHeld l tag).ports = s.ports ∧
    (s.expireHeld l tag).notices = s.notices ∧ (s.expireHeld l tag).params = s.params ∧
    (s.expireHeld l tag).store = s.store ∧ (s.expireHeld l tag).status = s.status ∧
    (s.expireHeld l tag).cause = s.cause ∧ (s.expireHeld l tag).freeCount = s.freeCount ∧
    (s.expireHeld l tag).pending = s.pending := by
  unfold State.expireHeld
  (repeat' split) <;> simp

@[simp] theorem State.arriveUp_frame (l : LineNo) (tag len : Nat) (s : State) :
    (s.arriveUp l tag len).now = s.now ∧ (s.arriveUp l tag len).powered = s.powered ∧
    (s.arriveUp l tag len).resetLow = s.resetLow ∧ (s.arriveUp l tag len).egress = s.egress ∧
    (s.arriveUp l tag len).uplink = s.uplink ∧ (s.arriveUp l tag len).gen = s.gen ∧
    (s.arriveUp l tag len).engine = s.engine ∧ (s.arriveUp l tag len).energy = s.energy ∧
    (s.arriveUp l tag len).points = s.points ∧ (s.arriveUp l tag len).ports = s.ports ∧
    (s.arriveUp l tag len).params = s.params ∧ (s.arriveUp l tag len).store = s.store ∧
    (s.arriveUp l tag len).status = s.status ∧ (s.arriveUp l tag len).cause = s.cause ∧
    (s.arriveUp l tag len).freeCount = s.freeCount ∧ (s.arriveUp l tag len).pending = s.pending := by
  unfold State.arriveUp
  dsimp only
  (repeat' split) <;> simp

@[simp] theorem State.countFrameUp_frame (id : Nat) (s : State) :
    (s.countFrameUp id).now = s.now ∧ (s.countFrameUp id).powered = s.powered ∧
    (s.countFrameUp id).resetLow = s.resetLow ∧ (s.countFrameUp id).pool = s.pool ∧
    (s.countFrameUp id).egress = s.egress ∧ (s.countFrameUp id).flows = s.flows ∧ (s.countFrameUp id).hold = s.hold ∧
    (s.countFrameUp id).sched = s.sched ∧ (s.countFrameUp id).uplink = s.uplink ∧ (s.countFrameUp id).gen = s.gen ∧
    (s.countFrameUp id).engine = s.engine ∧ (s.countFrameUp id).energy = s.energy ∧
    (s.countFrameUp id).points = s.points ∧ (s.countFrameUp id).ports = s.ports ∧
    (s.countFrameUp id).notices = s.notices ∧ (s.countFrameUp id).params = s.params ∧
    (s.countFrameUp id).store = s.store ∧ (s.countFrameUp id).status = s.status ∧
    (s.countFrameUp id).cause = s.cause ∧ (s.countFrameUp id).freeCount = s.freeCount ∧
    (s.countFrameUp id).pending = s.pending := by
  unfold State.countFrameUp
  (repeat' split) <;> simp

@[simp] theorem State.takeUp_frame (s : State) :
    s.takeUp.now = s.now ∧ s.takeUp.powered = s.powered ∧ s.takeUp.resetLow = s.resetLow ∧
    s.takeUp.egress = s.egress ∧ s.takeUp.flows = s.flows ∧ s.takeUp.hold = s.hold ∧ s.takeUp.uplink = s.uplink ∧
    s.takeUp.gen = s.gen ∧ s.takeUp.engine = s.engine ∧ s.takeUp.energy = s.energy ∧ s.takeUp.points = s.points ∧
    s.takeUp.ports = s.ports ∧ s.takeUp.notices = s.notices ∧ s.takeUp.params = s.params ∧ s.takeUp.store = s.store ∧
    s.takeUp.status = s.status ∧ s.takeUp.cause = s.cause ∧ s.takeUp.freeCount = s.freeCount ∧
    s.takeUp.pending = s.pending := by
  unfold State.takeUp
  (repeat' split) <;> simp

@[simp] theorem State.takeDown_frame (l : LineNo) (s : State) :
    (s.takeDown l).now = s.now ∧ (s.takeDown l).powered = s.powered ∧ (s.takeDown l).resetLow = s.resetLow ∧
    (s.takeDown l).flows = s.flows ∧ (s.takeDown l).hold = s.hold ∧ (s.takeDown l).sched = s.sched ∧
    (s.takeDown l).uplink = s.uplink ∧ (s.takeDown l).gen = s.gen ∧ (s.takeDown l).engine = s.engine ∧
    (s.takeDown l).energy = s.energy ∧ (s.takeDown l).points = s.points ∧ (s.takeDown l).ports = s.ports ∧
    (s.takeDown l).notices = s.notices ∧ (s.takeDown l).params = s.params ∧ (s.takeDown l).store = s.store ∧
    (s.takeDown l).status = s.status ∧ (s.takeDown l).cause = s.cause ∧ (s.takeDown l).freeCount = s.freeCount ∧
    (s.takeDown l).pending = s.pending := by
  unfold State.takeDown
  (repeat' split) <;> simp

@[simp] theorem State.uplinkReport_frame (r : Option RateClass) (s : State) :
    (s.uplinkReport r).now = s.now ∧ (s.uplinkReport r).powered = s.powered ∧
    (s.uplinkReport r).resetLow = s.resetLow ∧ (s.uplinkReport r).lines = s.lines ∧
    (s.uplinkReport r).pool = s.pool ∧ (s.uplinkReport r).egress = s.egress ∧ (s.uplinkReport r).flows = s.flows ∧
    (s.uplinkReport r).hold = s.hold ∧ (s.uplinkReport r).sched = s.sched ∧ (s.uplinkReport r).gen = s.gen ∧
    (s.uplinkReport r).engine = s.engine ∧ (s.uplinkReport r).energy = s.energy ∧
    (s.uplinkReport r).points = s.points ∧ (s.uplinkReport r).ports = s.ports ∧
    (s.uplinkReport r).params = s.params ∧ (s.uplinkReport r).store = s.store ∧
    (s.uplinkReport r).status = s.status ∧ (s.uplinkReport r).cause = s.cause ∧
    (s.uplinkReport r).freeCount = s.freeCount ∧ (s.uplinkReport r).pending = s.pending := by
  unfold State.uplinkReport
  (repeat' split) <;> simp

@[simp] theorem State.dropIneligible_frame (ls : List LineNo) (s : State) :
    (ls.foldl (fun s l => s.dropDown l (s.ineligibleReason l)) s).now = s.now ∧
    (ls.foldl (fun s l => s.dropDown l (s.ineligibleReason l)) s).powered = s.powered ∧
    (ls.foldl (fun s l => s.dropDown l (s.ineligibleReason l)) s).resetLow = s.resetLow ∧
    (ls.foldl (fun s l => s.dropDown l (s.ineligibleReason l)) s).pool = s.pool ∧
    (ls.foldl (fun s l => s.dropDown l (s.ineligibleReason l)) s).egress = s.egress ∧
    (ls.foldl (fun s l => s.dropDown l (s.ineligibleReason l)) s).flows = s.flows ∧
    (ls.foldl (fun s l => s.dropDown l (s.ineligibleReason l)) s).hold = s.hold ∧
    (ls.foldl (fun s l => s.dropDown l (s.ineligibleReason l)) s).sched = s.sched ∧
    (ls.foldl (fun s l => s.dropDown l (s.ineligibleReason l)) s).uplink = s.uplink ∧
    (ls.foldl (fun s l => s.dropDown l (s.ineligibleReason l)) s).gen = s.gen ∧
    (ls.foldl (fun s l => s.dropDown l (s.ineligibleReason l)) s).engine = s.engine ∧
    (ls.foldl (fun s l => s.dropDown l (s.ineligibleReason l)) s).energy = s.energy ∧
    (ls.foldl (fun s l => s.dropDown l (s.ineligibleReason l)) s).points = s.points ∧
    (ls.foldl (fun s l => s.dropDown l (s.ineligibleReason l)) s).ports = s.ports ∧
    (ls.foldl (fun s l => s.dropDown l (s.ineligibleReason l)) s).notices = s.notices ∧
    (ls.foldl (fun s l => s.dropDown l (s.ineligibleReason l)) s).params = s.params ∧
    (ls.foldl (fun s l => s.dropDown l (s.ineligibleReason l)) s).store = s.store ∧
    (ls.foldl (fun s l => s.dropDown l (s.ineligibleReason l)) s).status = s.status ∧
    (ls.foldl (fun s l => s.dropDown l (s.ineligibleReason l)) s).cause = s.cause ∧
    (ls.foldl (fun s l => s.dropDown l (s.ineligibleReason l)) s).freeCount = s.freeCount ∧
    (ls.foldl (fun s l => s.dropDown l (s.ineligibleReason l)) s).pending = s.pending := by
  induction ls generalizing s with
  | nil => simp
  | cons l ls ih => simp [ih]

@[simp] theorem State.dropEach_frame (r : DropReason) (ls : List LineNo) (s : State) :
    (ls.foldl (fun s l => s.dropDown l r) s).now = s.now ∧
    (ls.foldl (fun s l => s.dropDown l r) s).powered = s.powered ∧
    (ls.foldl (fun s l => s.dropDown l r) s).resetLow = s.resetLow ∧
    (ls.foldl (fun s l => s.dropDown l r) s).pool = s.pool ∧
    (ls.foldl (fun s l => s.dropDown l r) s).egress = s.egress ∧
    (ls.foldl (fun s l => s.dropDown l r) s).flows = s.flows ∧
    (ls.foldl (fun s l => s.dropDown l r) s).hold = s.hold ∧
    (ls.foldl (fun s l => s.dropDown l r) s).sched = s.sched ∧
    (ls.foldl (fun s l => s.dropDown l r) s).uplink = s.uplink ∧
    (ls.foldl (fun s l => s.dropDown l r) s).gen = s.gen ∧
    (ls.foldl (fun s l => s.dropDown l r) s).engine = s.engine ∧
    (ls.foldl (fun s l => s.dropDown l r) s).energy = s.energy ∧
    (ls.foldl (fun s l => s.dropDown l r) s).points = s.points ∧
    (ls.foldl (fun s l => s.dropDown l r) s).ports = s.ports ∧
    (ls.foldl (fun s l => s.dropDown l r) s).notices = s.notices ∧
    (ls.foldl (fun s l => s.dropDown l r) s).params = s.params ∧
    (ls.foldl (fun s l => s.dropDown l r) s).store = s.store ∧
    (ls.foldl (fun s l => s.dropDown l r) s).status = s.status ∧
    (ls.foldl (fun s l => s.dropDown l r) s).cause = s.cause ∧
    (ls.foldl (fun s l => s.dropDown l r) s).freeCount = s.freeCount ∧
    (ls.foldl (fun s l => s.dropDown l r) s).pending = s.pending := by
  induction ls generalizing s with
  | nil => simp
  | cons l ls ih => simp [ih]

@[simp] theorem State.joinEach_frame (id : Nat) (ls : List LineNo) (s : State) :
    (ls.foldl (State.joinEgress id) s).now = s.now ∧ (ls.foldl (State.joinEgress id) s).powered = s.powered ∧
    (ls.foldl (State.joinEgress id) s).resetLow = s.resetLow ∧ (ls.foldl (State.joinEgress id) s).lines = s.lines ∧
    (ls.foldl (State.joinEgress id) s).pool = s.pool ∧ (ls.foldl (State.joinEgress id) s).flows = s.flows ∧
    (ls.foldl (State.joinEgress id) s).hold = s.hold ∧ (ls.foldl (State.joinEgress id) s).sched = s.sched ∧
    (ls.foldl (State.joinEgress id) s).uplink = s.uplink ∧ (ls.foldl (State.joinEgress id) s).gen = s.gen ∧
    (ls.foldl (State.joinEgress id) s).engine = s.engine ∧ (ls.foldl (State.joinEgress id) s).energy = s.energy ∧
    (ls.foldl (State.joinEgress id) s).points = s.points ∧ (ls.foldl (State.joinEgress id) s).ports = s.ports ∧
    (ls.foldl (State.joinEgress id) s).notices = s.notices ∧ (ls.foldl (State.joinEgress id) s).params = s.params ∧
    (ls.foldl (State.joinEgress id) s).store = s.store ∧ (ls.foldl (State.joinEgress id) s).status = s.status ∧
    (ls.foldl (State.joinEgress id) s).cause = s.cause ∧ (ls.foldl (State.joinEgress id) s).freeCount = s.freeCount ∧
    (ls.foldl (State.joinEgress id) s).pending = s.pending := by
  induction ls generalizing s with
  | nil => simp
  | cons l ls ih => simp [ih]

@[simp] theorem State.arriveDown_frame (tag len : Nat) (s : State) :
    (s.arriveDown tag len).now = s.now ∧ (s.arriveDown tag len).powered = s.powered ∧
    (s.arriveDown tag len).resetLow = s.resetLow ∧ (s.arriveDown tag len).hold = s.hold ∧
    (s.arriveDown tag len).sched = s.sched ∧ (s.arriveDown tag len).uplink = s.uplink ∧
    (s.arriveDown tag len).gen = s.gen ∧ (s.arriveDown tag len).engine = s.engine ∧
    (s.arriveDown tag len).energy = s.energy ∧ (s.arriveDown tag len).points = s.points ∧
    (s.arriveDown tag len).ports = s.ports ∧ (s.arriveDown tag len).notices = s.notices ∧
    (s.arriveDown tag len).params = s.params ∧ (s.arriveDown tag len).store = s.store ∧
    (s.arriveDown tag len).status = s.status ∧ (s.arriveDown tag len).cause = s.cause ∧
    (s.arriveDown tag len).freeCount = s.freeCount ∧ (s.arriveDown tag len).pending = s.pending := by
  unfold State.arriveDown
  dsimp only
  (repeat' split) <;> simp

@[simp] theorem State.leaveBus_frame (f : Nat → Phase) (s : State) :
    (s.leaveBus f).now = s.now ∧ (s.leaveBus f).powered = s.powered ∧ (s.leaveBus f).resetLow = s.resetLow ∧
    (s.leaveBus f).pool = s.pool ∧ (s.leaveBus f).egress = s.egress ∧ (s.leaveBus f).flows = s.flows ∧
    (s.leaveBus f).hold = s.hold ∧ (s.leaveBus f).sched = s.sched ∧ (s.leaveBus f).uplink = s.uplink ∧
    (s.leaveBus f).energy = s.energy ∧ (s.leaveBus f).points = s.points ∧ (s.leaveBus f).ports = s.ports ∧
    (s.leaveBus f).notices = s.notices ∧ (s.leaveBus f).params = s.params ∧ (s.leaveBus f).store = s.store ∧
    (s.leaveBus f).status = s.status ∧ (s.leaveBus f).cause = s.cause ∧ (s.leaveBus f).freeCount = s.freeCount ∧
    (s.leaveBus f).pending = s.pending := by
  simp [State.leaveBus]

@[simp] theorem State.levelReached_frame (s : State) :
    s.levelReached.now = s.now ∧ s.levelReached.powered = s.powered ∧ s.levelReached.resetLow = s.resetLow ∧
    s.levelReached.pool = s.pool ∧ s.levelReached.egress = s.egress ∧ s.levelReached.flows = s.flows ∧
    s.levelReached.hold = s.hold ∧ s.levelReached.sched = s.sched ∧ s.levelReached.uplink = s.uplink ∧
    s.levelReached.energy = s.energy ∧ s.levelReached.points = s.points ∧ s.levelReached.ports = s.ports ∧
    s.levelReached.notices = s.notices ∧ s.levelReached.params = s.params ∧ s.levelReached.store = s.store ∧
    s.levelReached.status = s.status ∧ s.levelReached.cause = s.cause ∧ s.levelReached.freeCount = s.freeCount ∧
    s.levelReached.pending = s.pending := by
  unfold State.levelReached
  (repeat' split) <;> simp

@[simp] theorem State.load_frame (p : Program) (e d : Nat) (s : State) :
    (s.load p e d).now = s.now ∧ (s.load p e d).powered = s.powered ∧ (s.load p e d).resetLow = s.resetLow ∧
    (s.load p e d).pool = s.pool ∧ (s.load p e d).egress = s.egress ∧ (s.load p e d).flows = s.flows ∧
    (s.load p e d).hold = s.hold ∧ (s.load p e d).sched = s.sched ∧ (s.load p e d).uplink = s.uplink ∧
    (s.load p e d).energy = s.energy ∧ (s.load p e d).points = s.points ∧ (s.load p e d).ports = s.ports ∧
    (s.load p e d).notices = s.notices ∧ (s.load p e d).params = s.params ∧ (s.load p e d).store = s.store ∧
    (s.load p e d).status = s.status ∧ (s.load p e d).cause = s.cause ∧ (s.load p e d).freeCount = s.freeCount ∧
    (s.load p e d).pending = s.pending := by
  unfold State.load
  (repeat' split) <;> simp

@[simp] theorem State.stepGen_frame (s : State) :
    s.stepGen.now = s.now ∧ s.stepGen.powered = s.powered ∧ s.stepGen.resetLow = s.resetLow ∧
    s.stepGen.pool = s.pool ∧ s.stepGen.egress = s.egress ∧ s.stepGen.flows = s.flows ∧ s.stepGen.hold = s.hold ∧
    s.stepGen.sched = s.sched ∧ s.stepGen.uplink = s.uplink ∧ s.stepGen.energy = s.energy ∧
    s.stepGen.points = s.points ∧ s.stepGen.ports = s.ports ∧ s.stepGen.notices = s.notices ∧
    s.stepGen.params = s.params ∧ s.stepGen.store = s.store ∧ s.stepGen.status = s.status ∧
    s.stepGen.cause = s.cause ∧ s.stepGen.freeCount = s.freeCount ∧ s.stepGen.pending = s.pending := by
  unfold State.stepGen
  (repeat' split) <;> simp

@[simp] theorem State.cutOff_frame (s : State) :
    s.cutOff.now = s.now ∧ s.cutOff.powered = s.powered ∧ s.cutOff.resetLow = s.resetLow ∧ s.cutOff.pool = s.pool ∧
    s.cutOff.egress = s.egress ∧ s.cutOff.flows = s.flows ∧ s.cutOff.hold = s.hold ∧ s.cutOff.sched = s.sched ∧
    s.cutOff.uplink = s.uplink ∧ s.cutOff.engine = s.engine ∧ s.cutOff.energy = s.energy ∧
    s.cutOff.points = s.points ∧ s.cutOff.ports = s.ports ∧ s.cutOff.notices = s.notices ∧
    s.cutOff.params = s.params ∧ s.cutOff.store = s.store ∧ s.cutOff.status = s.status ∧ s.cutOff.cause = s.cause ∧
    s.cutOff.freeCount = s.freeCount ∧ s.cutOff.pending = s.pending := by
  simp [State.cutOff]

@[simp] theorem State.beginExit_frame (c : Cause) (s : State) :
    (s.beginExit c).now = s.now ∧ (s.beginExit c).powered = s.powered ∧ (s.beginExit c).resetLow = s.resetLow ∧
    (s.beginExit c).pool = s.pool ∧ (s.beginExit c).egress = s.egress ∧ (s.beginExit c).flows = s.flows ∧
    (s.beginExit c).hold = s.hold ∧ (s.beginExit c).sched = s.sched ∧ (s.beginExit c).uplink = s.uplink ∧
    (s.beginExit c).energy = s.energy ∧ (s.beginExit c).points = s.points ∧ (s.beginExit c).ports = s.ports ∧
    (s.beginExit c).notices = s.notices ∧ (s.beginExit c).params = s.params ∧ (s.beginExit c).store = s.store ∧
    (s.beginExit c).status = s.status ∧ (s.beginExit c).cause = s.cause ∧ (s.beginExit c).freeCount = s.freeCount ∧
    (s.beginExit c).pending = s.pending := by
  unfold State.beginExit
  (repeat' split) <;> simp

@[simp] theorem State.escalate_frame (c : Cause) (x : ExitRec) (s : State) :
    (s.escalate c x).now = s.now ∧ (s.escalate c x).powered = s.powered ∧ (s.escalate c x).resetLow = s.resetLow ∧
    (s.escalate c x).pool = s.pool ∧ (s.escalate c x).egress = s.egress ∧ (s.escalate c x).flows = s.flows ∧
    (s.escalate c x).hold = s.hold ∧ (s.escalate c x).sched = s.sched ∧ (s.escalate c x).uplink = s.uplink ∧
    (s.escalate c x).energy = s.energy ∧ (s.escalate c x).points = s.points ∧ (s.escalate c x).ports = s.ports ∧
    (s.escalate c x).notices = s.notices ∧ (s.escalate c x).params = s.params ∧ (s.escalate c x).store = s.store ∧
    (s.escalate c x).status = s.status ∧ (s.escalate c x).cause = s.cause ∧
    (s.escalate c x).freeCount = s.freeCount ∧ (s.escalate c x).pending = s.pending := by
  unfold State.escalate
  (repeat' split) <;> simp

@[simp] theorem State.takeHazard_frame (s : State) :
    s.takeHazard.now = s.now ∧ s.takeHazard.powered = s.powered ∧ s.takeHazard.resetLow = s.resetLow ∧
    s.takeHazard.pool = s.pool ∧ s.takeHazard.egress = s.egress ∧ s.takeHazard.flows = s.flows ∧
    s.takeHazard.hold = s.hold ∧ s.takeHazard.sched = s.sched ∧ s.takeHazard.uplink = s.uplink ∧
    s.takeHazard.energy = s.energy ∧ s.takeHazard.points = s.points ∧ s.takeHazard.ports = s.ports ∧
    s.takeHazard.notices = s.notices ∧ s.takeHazard.params = s.params ∧ s.takeHazard.store = s.store ∧
    s.takeHazard.status = s.status ∧ s.takeHazard.cause = s.cause ∧ s.takeHazard.freeCount = s.freeCount ∧
    s.takeHazard.pending = s.pending := by
  unfold State.takeHazard
  (repeat' split) <;> simp

@[simp] theorem State.takeSurge_frame (s : State) :
    s.takeSurge.now = s.now ∧ s.takeSurge.powered = s.powered ∧ s.takeSurge.resetLow = s.resetLow ∧
    s.takeSurge.pool = s.pool ∧ s.takeSurge.egress = s.egress ∧ s.takeSurge.flows = s.flows ∧
    s.takeSurge.hold = s.hold ∧ s.takeSurge.sched = s.sched ∧ s.takeSurge.uplink = s.uplink ∧
    s.takeSurge.energy = s.energy ∧ s.takeSurge.points = s.points ∧ s.takeSurge.ports = s.ports ∧
    s.takeSurge.notices = s.notices ∧ s.takeSurge.params = s.params ∧ s.takeSurge.store = s.store ∧
    s.takeSurge.status = s.status ∧ s.takeSurge.cause = s.cause ∧ s.takeSurge.freeCount = s.freeCount ∧
    s.takeSurge.pending = s.pending := by
  unfold State.takeSurge
  (repeat' split) <;> simp

@[simp] theorem State.takeDoor_frame (s : State) :
    s.takeDoor.now = s.now ∧ s.takeDoor.powered = s.powered ∧ s.takeDoor.resetLow = s.resetLow ∧
    s.takeDoor.pool = s.pool ∧ s.takeDoor.egress = s.egress ∧ s.takeDoor.flows = s.flows ∧ s.takeDoor.hold = s.hold ∧
    s.takeDoor.sched = s.sched ∧ s.takeDoor.uplink = s.uplink ∧ s.takeDoor.energy = s.energy ∧
    s.takeDoor.points = s.points ∧ s.takeDoor.ports = s.ports ∧ s.takeDoor.notices = s.notices ∧
    s.takeDoor.params = s.params ∧ s.takeDoor.store = s.store ∧ s.takeDoor.status = s.status ∧
    s.takeDoor.cause = s.cause ∧ s.takeDoor.freeCount = s.freeCount ∧ s.takeDoor.pending = s.pending := by
  unfold State.takeDoor
  (repeat' split) <;> simp

@[simp] theorem State.takeEnergyPass_frame (s : State) :
    s.takeEnergyPass.now = s.now ∧ s.takeEnergyPass.powered = s.powered ∧ s.takeEnergyPass.resetLow = s.resetLow ∧
    s.takeEnergyPass.pool = s.pool ∧ s.takeEnergyPass.egress = s.egress ∧ s.takeEnergyPass.flows = s.flows ∧
    s.takeEnergyPass.hold = s.hold ∧ s.takeEnergyPass.sched = s.sched ∧ s.takeEnergyPass.uplink = s.uplink ∧
    s.takeEnergyPass.energy = s.energy ∧ s.takeEnergyPass.points = s.points ∧ s.takeEnergyPass.ports = s.ports ∧
    s.takeEnergyPass.notices = s.notices ∧ s.takeEnergyPass.params = s.params ∧ s.takeEnergyPass.store = s.store ∧
    s.takeEnergyPass.status = s.status ∧ s.takeEnergyPass.cause = s.cause ∧
    s.takeEnergyPass.freeCount = s.freeCount ∧ s.takeEnergyPass.pending = s.pending := by
  unfold State.takeEnergyPass
  (repeat' split) <;> simp

@[simp] theorem State.takeEnergyCrit_frame (s : State) :
    s.takeEnergyCrit.now = s.now ∧ s.takeEnergyCrit.powered = s.powered ∧ s.takeEnergyCrit.resetLow = s.resetLow ∧
    s.takeEnergyCrit.pool = s.pool ∧ s.takeEnergyCrit.egress = s.egress ∧ s.takeEnergyCrit.flows = s.flows ∧
    s.takeEnergyCrit.hold = s.hold ∧ s.takeEnergyCrit.sched = s.sched ∧ s.takeEnergyCrit.uplink = s.uplink ∧
    s.takeEnergyCrit.energy = s.energy ∧ s.takeEnergyCrit.points = s.points ∧ s.takeEnergyCrit.ports = s.ports ∧
    s.takeEnergyCrit.notices = s.notices ∧ s.takeEnergyCrit.params = s.params ∧ s.takeEnergyCrit.store = s.store ∧
    s.takeEnergyCrit.status = s.status ∧ s.takeEnergyCrit.cause = s.cause ∧
    s.takeEnergyCrit.freeCount = s.freeCount ∧ s.takeEnergyCrit.pending = s.pending := by
  unfold State.takeEnergyCrit
  (repeat' split) <;> simp

@[simp] theorem State.shedLine_frame (l : LineNo) (s : State) :
    (s.shedLine l).now = s.now ∧ (s.shedLine l).powered = s.powered ∧ (s.shedLine l).resetLow = s.resetLow ∧
    (s.shedLine l).flows = s.flows ∧ (s.shedLine l).hold = s.hold ∧ (s.shedLine l).sched = s.sched ∧
    (s.shedLine l).uplink = s.uplink ∧ (s.shedLine l).gen = s.gen ∧ (s.shedLine l).engine = s.engine ∧
    (s.shedLine l).points = s.points ∧ (s.shedLine l).ports = s.ports ∧ (s.shedLine l).params = s.params ∧
    (s.shedLine l).store = s.store ∧ (s.shedLine l).status = s.status ∧ (s.shedLine l).cause = s.cause ∧
    (s.shedLine l).freeCount = s.freeCount ∧ (s.shedLine l).pending = s.pending := by
  simp [State.shedLine]

@[simp] theorem State.shedLoop_frame (n : Nat) (s : State) :
    (s.shedLoop n).now = s.now ∧ (s.shedLoop n).powered = s.powered ∧ (s.shedLoop n).resetLow = s.resetLow ∧
    (s.shedLoop n).flows = s.flows ∧ (s.shedLoop n).hold = s.hold ∧ (s.shedLoop n).sched = s.sched ∧
    (s.shedLoop n).uplink = s.uplink ∧ (s.shedLoop n).points = s.points ∧ (s.shedLoop n).ports = s.ports ∧
    (s.shedLoop n).params = s.params ∧ (s.shedLoop n).store = s.store ∧ (s.shedLoop n).status = s.status ∧
    (s.shedLoop n).cause = s.cause ∧ (s.shedLoop n).freeCount = s.freeCount ∧ (s.shedLoop n).pending = s.pending := by
  induction n generalizing s with
  | zero => simp [State.shedLoop]
  | succ n ih =>
    unfold State.shedLoop
    (repeat' split) <;> simp [ih]

@[simp] theorem State.sheddingPass_frame (s : State) :
    s.sheddingPass.now = s.now ∧ s.sheddingPass.powered = s.powered ∧ s.sheddingPass.resetLow = s.resetLow ∧
    s.sheddingPass.flows = s.flows ∧ s.sheddingPass.hold = s.hold ∧ s.sheddingPass.sched = s.sched ∧
    s.sheddingPass.uplink = s.uplink ∧ s.sheddingPass.points = s.points ∧ s.sheddingPass.ports = s.ports ∧
    s.sheddingPass.params = s.params ∧ s.sheddingPass.store = s.store ∧ s.sheddingPass.status = s.status ∧
    s.sheddingPass.cause = s.cause ∧ s.sheddingPass.freeCount = s.freeCount ∧ s.sheddingPass.pending = s.pending := by
  simp [State.sheddingPass]

@[simp] theorem State.restoreLine_frame (l : LineNo) (rest : List LineNo) (s : State) :
    (s.restoreLine l rest).now = s.now ∧ (s.restoreLine l rest).powered = s.powered ∧
    (s.restoreLine l rest).resetLow = s.resetLow ∧ (s.restoreLine l rest).flows = s.flows ∧
    (s.restoreLine l rest).hold = s.hold ∧ (s.restoreLine l rest).sched = s.sched ∧
    (s.restoreLine l rest).uplink = s.uplink ∧ (s.restoreLine l rest).gen = s.gen ∧
    (s.restoreLine l rest).engine = s.engine ∧ (s.restoreLine l rest).points = s.points ∧
    (s.restoreLine l rest).ports = s.ports ∧ (s.restoreLine l rest).params = s.params ∧
    (s.restoreLine l rest).store = s.store ∧ (s.restoreLine l rest).status = s.status ∧
    (s.restoreLine l rest).cause = s.cause ∧ (s.restoreLine l rest).freeCount = s.freeCount ∧
    (s.restoreLine l rest).pending = s.pending := by
  simp [State.restoreLine]

@[simp] theorem State.restoreLoop_frame (n : Nat) (s : State) :
    (s.restoreLoop n).now = s.now ∧ (s.restoreLoop n).powered = s.powered ∧ (s.restoreLoop n).resetLow = s.resetLow ∧
    (s.restoreLoop n).flows = s.flows ∧ (s.restoreLoop n).hold = s.hold ∧ (s.restoreLoop n).sched = s.sched ∧
    (s.restoreLoop n).uplink = s.uplink ∧ (s.restoreLoop n).gen = s.gen ∧ (s.restoreLoop n).engine = s.engine ∧
    (s.restoreLoop n).points = s.points ∧ (s.restoreLoop n).ports = s.ports ∧ (s.restoreLoop n).params = s.params ∧
    (s.restoreLoop n).store = s.store ∧ (s.restoreLoop n).status = s.status ∧ (s.restoreLoop n).cause = s.cause ∧
    (s.restoreLoop n).freeCount = s.freeCount ∧ (s.restoreLoop n).pending = s.pending := by
  induction n generalizing s with
  | zero => simp [State.restoreLoop]
  | succ n ih =>
    unfold State.restoreLoop
    (repeat' split) <;> simp [ih]

@[simp] theorem State.raiseLoop_frame (n : Nat) (s : State) :
    (s.raiseLoop n).now = s.now ∧ (s.raiseLoop n).powered = s.powered ∧ (s.raiseLoop n).resetLow = s.resetLow ∧
    (s.raiseLoop n).lines = s.lines ∧ (s.raiseLoop n).pool = s.pool ∧ (s.raiseLoop n).egress = s.egress ∧
    (s.raiseLoop n).flows = s.flows ∧ (s.raiseLoop n).hold = s.hold ∧ (s.raiseLoop n).sched = s.sched ∧
    (s.raiseLoop n).uplink = s.uplink ∧ (s.raiseLoop n).gen = s.gen ∧ (s.raiseLoop n).engine = s.engine ∧
    (s.raiseLoop n).points = s.points ∧ (s.raiseLoop n).ports = s.ports ∧ (s.raiseLoop n).notices = s.notices ∧
    (s.raiseLoop n).params = s.params ∧ (s.raiseLoop n).store = s.store ∧ (s.raiseLoop n).status = s.status ∧
    (s.raiseLoop n).cause = s.cause ∧ (s.raiseLoop n).freeCount = s.freeCount ∧ (s.raiseLoop n).pending = s.pending := by
  induction n generalizing s with
  | zero => simp [State.raiseLoop]
  | succ n ih =>
    unfold State.raiseLoop
    (repeat' split) <;> simp [ih]

@[simp] theorem State.restoringPass_frame (s : State) :
    s.restoringPass.now = s.now ∧ s.restoringPass.powered = s.powered ∧ s.restoringPass.resetLow = s.resetLow ∧
    s.restoringPass.flows = s.flows ∧ s.restoringPass.hold = s.hold ∧ s.restoringPass.sched = s.sched ∧
    s.restoringPass.uplink = s.uplink ∧ s.restoringPass.gen = s.gen ∧ s.restoringPass.engine = s.engine ∧
    s.restoringPass.points = s.points ∧ s.restoringPass.ports = s.ports ∧ s.restoringPass.params = s.params ∧
    s.restoringPass.store = s.store ∧ s.restoringPass.status = s.status ∧ s.restoringPass.cause = s.cause ∧
    s.restoringPass.freeCount = s.freeCount ∧ s.restoringPass.pending = s.pending := by
  simp [State.restoringPass]

@[simp] theorem State.passFor_frame (a b : Nat) (s : State) :
    (s.passFor a b).now = s.now ∧ (s.passFor a b).powered = s.powered ∧ (s.passFor a b).resetLow = s.resetLow ∧
    (s.passFor a b).flows = s.flows ∧ (s.passFor a b).hold = s.hold ∧ (s.passFor a b).sched = s.sched ∧
    (s.passFor a b).uplink = s.uplink ∧ (s.passFor a b).points = s.points ∧ (s.passFor a b).ports = s.ports ∧
    (s.passFor a b).params = s.params ∧ (s.passFor a b).store = s.store ∧ (s.passFor a b).status = s.status ∧
    (s.passFor a b).cause = s.cause ∧ (s.passFor a b).freeCount = s.freeCount ∧ (s.passFor a b).pending = s.pending := by
  unfold State.passFor
  (repeat' split) <;> simp

@[simp] theorem State.storeResult_frame (r : Result) (s : State) :
    (s.storeResult r).now = s.now ∧ (s.storeResult r).powered = s.powered ∧ (s.storeResult r).resetLow = s.resetLow ∧
    (s.storeResult r).lines = s.lines ∧ (s.storeResult r).pool = s.pool ∧ (s.storeResult r).egress = s.egress ∧
    (s.storeResult r).flows = s.flows ∧ (s.storeResult r).hold = s.hold ∧ (s.storeResult r).sched = s.sched ∧
    (s.storeResult r).uplink = s.uplink ∧ (s.storeResult r).gen = s.gen ∧ (s.storeResult r).energy = s.energy ∧
    (s.storeResult r).points = s.points ∧ (s.storeResult r).ports = s.ports ∧ (s.storeResult r).params = s.params ∧
    (s.storeResult r).store = s.store ∧ (s.storeResult r).status = s.status ∧ (s.storeResult r).cause = s.cause ∧
    (s.storeResult r).freeCount = s.freeCount ∧ (s.storeResult r).pending = s.pending := by
  simp [State.storeResult]

@[simp] theorem State.removeOrder_frame (c : Cause) (o : TestOrder) (s : State) :
    (State.removeOrder c s o).now = s.now ∧ (State.removeOrder c s o).powered = s.powered ∧
    (State.removeOrder c s o).resetLow = s.resetLow ∧ (State.removeOrder c s o).lines = s.lines ∧
    (State.removeOrder c s o).pool = s.pool ∧ (State.removeOrder c s o).egress = s.egress ∧
    (State.removeOrder c s o).flows = s.flows ∧ (State.removeOrder c s o).hold = s.hold ∧
    (State.removeOrder c s o).sched = s.sched ∧ (State.removeOrder c s o).uplink = s.uplink ∧
    (State.removeOrder c s o).gen = s.gen ∧ (State.removeOrder c s o).energy = s.energy ∧
    (State.removeOrder c s o).points = s.points ∧ (State.removeOrder c s o).ports = s.ports ∧
    (State.removeOrder c s o).params = s.params ∧ (State.removeOrder c s o).store = s.store ∧
    (State.removeOrder c s o).status = s.status ∧ (State.removeOrder c s o).cause = s.cause ∧
    (State.removeOrder c s o).freeCount = s.freeCount ∧ (State.removeOrder c s o).pending = s.pending := by
  simp [State.removeOrder]

@[simp] theorem State.withdraw_frame (l : LineNo) (t : Target) (s : State) :
    (s.withdraw l t).now = s.now ∧ (s.withdraw l t).powered = s.powered ∧ (s.withdraw l t).resetLow = s.resetLow ∧
    (s.withdraw l t).flows = s.flows ∧ (s.withdraw l t).hold = s.hold ∧ (s.withdraw l t).sched = s.sched ∧
    (s.withdraw l t).uplink = s.uplink ∧ (s.withdraw l t).gen = s.gen ∧ (s.withdraw l t).engine = s.engine ∧
    (s.withdraw l t).points = s.points ∧ (s.withdraw l t).ports = s.ports ∧ (s.withdraw l t).params = s.params ∧
    (s.withdraw l t).store = s.store ∧ (s.withdraw l t).status = s.status ∧ (s.withdraw l t).cause = s.cause ∧
    (s.withdraw l t).freeCount = s.freeCount ∧ (s.withdraw l t).pending = s.pending := by
  simp [State.withdraw]

@[simp] theorem State.acquire_frame (o : TestOrder) (t : Target) (s : State) :
    (s.acquire o t).now = s.now ∧ (s.acquire o t).powered = s.powered ∧ (s.acquire o t).resetLow = s.resetLow ∧
    (s.acquire o t).flows = s.flows ∧ (s.acquire o t).hold = s.hold ∧ (s.acquire o t).sched = s.sched ∧
    (s.acquire o t).uplink = s.uplink ∧ (s.acquire o t).ports = s.ports ∧ (s.acquire o t).params = s.params ∧
    (s.acquire o t).store = s.store ∧ (s.acquire o t).status = s.status ∧ (s.acquire o t).cause = s.cause ∧
    (s.acquire o t).freeCount = s.freeCount ∧ (s.acquire o t).pending = s.pending := by
  simp [State.acquire]

@[simp] theorem State.refuseOrder_frame (o : TestOrder) (s : State) :
    (s.refuseOrder o).now = s.now ∧ (s.refuseOrder o).powered = s.powered ∧ (s.refuseOrder o).resetLow = s.resetLow ∧
    (s.refuseOrder o).lines = s.lines ∧ (s.refuseOrder o).pool = s.pool ∧ (s.refuseOrder o).egress = s.egress ∧
    (s.refuseOrder o).flows = s.flows ∧ (s.refuseOrder o).hold = s.hold ∧ (s.refuseOrder o).sched = s.sched ∧
    (s.refuseOrder o).uplink = s.uplink ∧ (s.refuseOrder o).gen = s.gen ∧ (s.refuseOrder o).energy = s.energy ∧
    (s.refuseOrder o).points = s.points ∧ (s.refuseOrder o).ports = s.ports ∧ (s.refuseOrder o).params = s.params ∧
    (s.refuseOrder o).store = s.store ∧ (s.refuseOrder o).status = s.status ∧ (s.refuseOrder o).cause = s.cause ∧
    (s.refuseOrder o).freeCount = s.freeCount ∧ (s.refuseOrder o).pending = s.pending := by
  simp [State.refuseOrder]

@[simp] theorem State.attemptLoop_frame (n : Nat) (s : State) :
    (s.attemptLoop n).now = s.now ∧ (s.attemptLoop n).powered = s.powered ∧ (s.attemptLoop n).resetLow = s.resetLow ∧
    (s.attemptLoop n).flows = s.flows ∧ (s.attemptLoop n).hold = s.hold ∧ (s.attemptLoop n).sched = s.sched ∧
    (s.attemptLoop n).uplink = s.uplink ∧ (s.attemptLoop n).ports = s.ports ∧ (s.attemptLoop n).params = s.params ∧
    (s.attemptLoop n).store = s.store ∧ (s.attemptLoop n).status = s.status ∧ (s.attemptLoop n).cause = s.cause ∧
    (s.attemptLoop n).freeCount = s.freeCount ∧ (s.attemptLoop n).pending = s.pending := by
  induction n generalizing s with
  | zero => simp [State.attemptLoop]
  | succ n ih =>
    unfold State.attemptLoop
    (repeat' split) <;> simp [ih]

@[simp] theorem State.attempt_frame (s : State) :
    s.attempt.now = s.now ∧ s.attempt.powered = s.powered ∧ s.attempt.resetLow = s.resetLow ∧
    s.attempt.flows = s.flows ∧ s.attempt.hold = s.hold ∧ s.attempt.sched = s.sched ∧ s.attempt.uplink = s.uplink ∧
    s.attempt.ports = s.ports ∧ s.attempt.params = s.params ∧ s.attempt.store = s.store ∧
    s.attempt.status = s.status ∧ s.attempt.cause = s.cause ∧ s.attempt.freeCount = s.freeCount ∧
    s.attempt.pending = s.pending := by
  simp [State.attempt]

@[simp] theorem State.endWarmup_frame (s : State) :
    s.endWarmup.now = s.now ∧ s.endWarmup.powered = s.powered ∧ s.endWarmup.resetLow = s.resetLow ∧
    s.endWarmup.pool = s.pool ∧ s.endWarmup.egress = s.egress ∧ s.endWarmup.flows = s.flows ∧
    s.endWarmup.hold = s.hold ∧ s.endWarmup.sched = s.sched ∧ s.endWarmup.uplink = s.uplink ∧
    s.endWarmup.energy = s.energy ∧ s.endWarmup.points = s.points ∧ s.endWarmup.ports = s.ports ∧
    s.endWarmup.notices = s.notices ∧ s.endWarmup.params = s.params ∧ s.endWarmup.store = s.store ∧
    s.endWarmup.status = s.status ∧ s.endWarmup.cause = s.cause ∧ s.endWarmup.freeCount = s.freeCount ∧
    s.endWarmup.pending = s.pending := by
  unfold State.endWarmup
  (repeat' split) <;> simp

@[simp] theorem State.endFirstSettle_frame (s : State) :
    s.endFirstSettle.now = s.now ∧ s.endFirstSettle.powered = s.powered ∧ s.endFirstSettle.resetLow = s.resetLow ∧
    s.endFirstSettle.pool = s.pool ∧ s.endFirstSettle.egress = s.egress ∧ s.endFirstSettle.flows = s.flows ∧
    s.endFirstSettle.hold = s.hold ∧ s.endFirstSettle.sched = s.sched ∧ s.endFirstSettle.uplink = s.uplink ∧
    s.endFirstSettle.energy = s.energy ∧ s.endFirstSettle.points = s.points ∧ s.endFirstSettle.ports = s.ports ∧
    s.endFirstSettle.notices = s.notices ∧ s.endFirstSettle.params = s.params ∧ s.endFirstSettle.store = s.store ∧
    s.endFirstSettle.status = s.status ∧ s.endFirstSettle.cause = s.cause ∧
    s.endFirstSettle.freeCount = s.freeCount ∧ s.endFirstSettle.pending = s.pending := by
  unfold State.endFirstSettle
  (repeat' split) <;> simp

@[simp] theorem State.endSecondSettle_frame (s : State) :
    s.endSecondSettle.now = s.now ∧ s.endSecondSettle.powered = s.powered ∧ s.endSecondSettle.resetLow = s.resetLow ∧
    s.endSecondSettle.pool = s.pool ∧ s.endSecondSettle.egress = s.egress ∧ s.endSecondSettle.flows = s.flows ∧
    s.endSecondSettle.hold = s.hold ∧ s.endSecondSettle.sched = s.sched ∧ s.endSecondSettle.uplink = s.uplink ∧
    s.endSecondSettle.energy = s.energy ∧ s.endSecondSettle.points = s.points ∧ s.endSecondSettle.ports = s.ports ∧
    s.endSecondSettle.notices = s.notices ∧ s.endSecondSettle.params = s.params ∧ s.endSecondSettle.store = s.store ∧
    s.endSecondSettle.status = s.status ∧ s.endSecondSettle.cause = s.cause ∧
    s.endSecondSettle.freeCount = s.freeCount ∧ s.endSecondSettle.pending = s.pending := by
  unfold State.endSecondSettle
  (repeat' split) <;> simp

@[simp] theorem State.beginRelease_frame (e d : Nat) (s : State) :
    (s.beginRelease e d).now = s.now ∧ (s.beginRelease e d).powered = s.powered ∧
    (s.beginRelease e d).resetLow = s.resetLow ∧ (s.beginRelease e d).pool = s.pool ∧
    (s.beginRelease e d).egress = s.egress ∧ (s.beginRelease e d).flows = s.flows ∧
    (s.beginRelease e d).hold = s.hold ∧ (s.beginRelease e d).sched = s.sched ∧
    (s.beginRelease e d).uplink = s.uplink ∧ (s.beginRelease e d).energy = s.energy ∧
    (s.beginRelease e d).points = s.points ∧ (s.beginRelease e d).ports = s.ports ∧
    (s.beginRelease e d).notices = s.notices ∧ (s.beginRelease e d).params = s.params ∧
    (s.beginRelease e d).store = s.store ∧ (s.beginRelease e d).status = s.status ∧
    (s.beginRelease e d).cause = s.cause ∧ (s.beginRelease e d).freeCount = s.freeCount ∧
    (s.beginRelease e d).pending = s.pending := by
  simp [State.beginRelease]

@[simp] theorem State.beginStep_frame (o : TestOrder) (k : Nat) (s : State) :
    (s.beginStep o k).now = s.now ∧ (s.beginStep o k).powered = s.powered ∧ (s.beginStep o k).resetLow = s.resetLow ∧
    (s.beginStep o k).pool = s.pool ∧ (s.beginStep o k).egress = s.egress ∧ (s.beginStep o k).flows = s.flows ∧
    (s.beginStep o k).hold = s.hold ∧ (s.beginStep o k).sched = s.sched ∧ (s.beginStep o k).uplink = s.uplink ∧
    (s.beginStep o k).energy = s.energy ∧ (s.beginStep o k).points = s.points ∧ (s.beginStep o k).ports = s.ports ∧
    (s.beginStep o k).notices = s.notices ∧ (s.beginStep o k).params = s.params ∧ (s.beginStep o k).store = s.store ∧
    (s.beginStep o k).status = s.status ∧ (s.beginStep o k).cause = s.cause ∧
    (s.beginStep o k).freeCount = s.freeCount ∧ (s.beginStep o k).pending = s.pending := by
  unfold State.beginStep
  (repeat' split) <;> simp

@[simp] theorem State.foreignReading_frame (cur : Current) (v : Nat) (s : State) :
    (s.foreignReading cur v).now = s.now ∧ (s.foreignReading cur v).powered = s.powered ∧
    (s.foreignReading cur v).resetLow = s.resetLow ∧ (s.foreignReading cur v).pool = s.pool ∧
    (s.foreignReading cur v).egress = s.egress ∧ (s.foreignReading cur v).flows = s.flows ∧
    (s.foreignReading cur v).hold = s.hold ∧ (s.foreignReading cur v).sched = s.sched ∧
    (s.foreignReading cur v).uplink = s.uplink ∧ (s.foreignReading cur v).energy = s.energy ∧
    (s.foreignReading cur v).points = s.points ∧ (s.foreignReading cur v).ports = s.ports ∧
    (s.foreignReading cur v).notices = s.notices ∧ (s.foreignReading cur v).params = s.params ∧
    (s.foreignReading cur v).store = s.store ∧ (s.foreignReading cur v).status = s.status ∧
    (s.foreignReading cur v).cause = s.cause ∧ (s.foreignReading cur v).freeCount = s.freeCount ∧
    (s.foreignReading cur v).pending = s.pending := by
  unfold State.foreignReading
  (repeat' split) <;> simp

@[simp] theorem State.stepReading_frame (cur : Current) (k v : Nat) (s : State) :
    (s.stepReading cur k v).now = s.now ∧ (s.stepReading cur k v).powered = s.powered ∧
    (s.stepReading cur k v).resetLow = s.resetLow ∧ (s.stepReading cur k v).pool = s.pool ∧
    (s.stepReading cur k v).egress = s.egress ∧ (s.stepReading cur k v).flows = s.flows ∧
    (s.stepReading cur k v).hold = s.hold ∧ (s.stepReading cur k v).sched = s.sched ∧
    (s.stepReading cur k v).uplink = s.uplink ∧ (s.stepReading cur k v).energy = s.energy ∧
    (s.stepReading cur k v).points = s.points ∧ (s.stepReading cur k v).ports = s.ports ∧
    (s.stepReading cur k v).notices = s.notices ∧ (s.stepReading cur k v).params = s.params ∧
    (s.stepReading cur k v).store = s.store ∧ (s.stepReading cur k v).status = s.status ∧
    (s.stepReading cur k v).cause = s.cause ∧ (s.stepReading cur k v).freeCount = s.freeCount ∧
    (s.stepReading cur k v).pending = s.pending := by
  unfold State.stepReading
  (repeat' split) <;> simp

@[simp] theorem State.takeReading_frame (r : Reading) (s : State) :
    (s.takeReading r).now = s.now ∧ (s.takeReading r).powered = s.powered ∧ (s.takeReading r).resetLow = s.resetLow ∧
    (s.takeReading r).pool = s.pool ∧ (s.takeReading r).egress = s.egress ∧ (s.takeReading r).flows = s.flows ∧
    (s.takeReading r).hold = s.hold ∧ (s.takeReading r).sched = s.sched ∧ (s.takeReading r).uplink = s.uplink ∧
    (s.takeReading r).energy = s.energy ∧ (s.takeReading r).points = s.points ∧ (s.takeReading r).ports = s.ports ∧
    (s.takeReading r).notices = s.notices ∧ (s.takeReading r).params = s.params ∧ (s.takeReading r).store = s.store ∧
    (s.takeReading r).status = s.status ∧ (s.takeReading r).cause = s.cause ∧
    (s.takeReading r).freeCount = s.freeCount ∧ (s.takeReading r).pending = s.pending := by
  unfold State.takeReading
  (repeat' split) <;> simp

@[simp] theorem State.returnLine_frame (l : LineNo) (t : Target) (r : ReturnState) (s : State) :
    (s.returnLine l t r).now = s.now ∧ (s.returnLine l t r).powered = s.powered ∧
    (s.returnLine l t r).resetLow = s.resetLow ∧ (s.returnLine l t r).flows = s.flows ∧
    (s.returnLine l t r).hold = s.hold ∧ (s.returnLine l t r).sched = s.sched ∧
    (s.returnLine l t r).uplink = s.uplink ∧ (s.returnLine l t r).points = s.points ∧
    (s.returnLine l t r).ports = s.ports ∧ (s.returnLine l t r).params = s.params ∧
    (s.returnLine l t r).store = s.store ∧ (s.returnLine l t r).status = s.status ∧
    (s.returnLine l t r).cause = s.cause ∧ (s.returnLine l t r).freeCount = s.freeCount ∧
    (s.returnLine l t r).pending = s.pending := by
  unfold State.returnLine
  (repeat' split) <;> simp

@[simp] theorem State.finishOrder_frame (c : Current) (s : State) :
    (s.finishOrder c).now = s.now ∧ (s.finishOrder c).powered = s.powered ∧ (s.finishOrder c).resetLow = s.resetLow ∧
    (s.finishOrder c).flows = s.flows ∧ (s.finishOrder c).hold = s.hold ∧ (s.finishOrder c).sched = s.sched ∧
    (s.finishOrder c).uplink = s.uplink ∧ (s.finishOrder c).ports = s.ports ∧ (s.finishOrder c).params = s.params ∧
    (s.finishOrder c).store = s.store ∧ (s.finishOrder c).status = s.status ∧ (s.finishOrder c).cause = s.cause ∧
    (s.finishOrder c).freeCount = s.freeCount ∧ (s.finishOrder c).pending = s.pending := by
  simp [State.finishOrder]

@[simp] theorem State.endRelease_frame (s : State) :
    s.endRelease.now = s.now ∧ s.endRelease.powered = s.powered ∧ s.endRelease.resetLow = s.resetLow ∧
    s.endRelease.flows = s.flows ∧ s.endRelease.hold = s.hold ∧ s.endRelease.sched = s.sched ∧
    s.endRelease.uplink = s.uplink ∧ s.endRelease.ports = s.ports ∧ s.endRelease.params = s.params ∧
    s.endRelease.store = s.store ∧ s.endRelease.status = s.status ∧ s.endRelease.cause = s.cause ∧
    s.endRelease.freeCount = s.freeCount ∧ s.endRelease.pending = s.pending := by
  unfold State.endRelease
  (repeat' split) <;> simp

@[simp] theorem State.endDwell_frame (s : State) :
    s.endDwell.now = s.now ∧ s.endDwell.powered = s.powered ∧ s.endDwell.resetLow = s.resetLow ∧
    s.endDwell.pool = s.pool ∧ s.endDwell.egress = s.egress ∧ s.endDwell.flows = s.flows ∧ s.endDwell.hold = s.hold ∧
    s.endDwell.sched = s.sched ∧ s.endDwell.uplink = s.uplink ∧ s.endDwell.energy = s.energy ∧
    s.endDwell.points = s.points ∧ s.endDwell.ports = s.ports ∧ s.endDwell.notices = s.notices ∧
    s.endDwell.params = s.params ∧ s.endDwell.store = s.store ∧ s.endDwell.status = s.status ∧
    s.endDwell.cause = s.cause ∧ s.endDwell.freeCount = s.freeCount ∧ s.endDwell.pending = s.pending := by
  unfold State.endDwell
  (repeat' split) <;> simp

@[simp] theorem State.endExit_frame (s : State) :
    s.endExit.now = s.now ∧ s.endExit.powered = s.powered ∧ s.endExit.resetLow = s.resetLow ∧
    s.endExit.flows = s.flows ∧ s.endExit.hold = s.hold ∧ s.endExit.sched = s.sched ∧ s.endExit.uplink = s.uplink ∧
    s.endExit.ports = s.ports ∧ s.endExit.params = s.params ∧ s.endExit.store = s.store ∧
    s.endExit.status = s.status ∧ s.endExit.cause = s.cause ∧ s.endExit.freeCount = s.freeCount ∧
    s.endExit.pending = s.pending := by
  unfold State.endExit
  (repeat' split) <;> simp

@[simp] theorem State.removeOrders_frame (c : Cause) (os : List TestOrder) (s : State) :
    (os.foldl (State.removeOrder c) s).now = s.now ∧ (os.foldl (State.removeOrder c) s).powered = s.powered ∧
    (os.foldl (State.removeOrder c) s).resetLow = s.resetLow ∧ (os.foldl (State.removeOrder c) s).lines = s.lines ∧
    (os.foldl (State.removeOrder c) s).pool = s.pool ∧ (os.foldl (State.removeOrder c) s).egress = s.egress ∧
    (os.foldl (State.removeOrder c) s).flows = s.flows ∧ (os.foldl (State.removeOrder c) s).hold = s.hold ∧
    (os.foldl (State.removeOrder c) s).sched = s.sched ∧ (os.foldl (State.removeOrder c) s).uplink = s.uplink ∧
    (os.foldl (State.removeOrder c) s).gen = s.gen ∧ (os.foldl (State.removeOrder c) s).energy = s.energy ∧
    (os.foldl (State.removeOrder c) s).points = s.points ∧ (os.foldl (State.removeOrder c) s).ports = s.ports ∧
    (os.foldl (State.removeOrder c) s).params = s.params ∧ (os.foldl (State.removeOrder c) s).store = s.store ∧
    (os.foldl (State.removeOrder c) s).status = s.status ∧ (os.foldl (State.removeOrder c) s).cause = s.cause ∧
    (os.foldl (State.removeOrder c) s).freeCount = s.freeCount ∧
    (os.foldl (State.removeOrder c) s).pending = s.pending := by
  induction os generalizing s with
  | nil => simp
  | cons o os ih => simp [ih]

@[simp] theorem State.doorLoss_frame (s : State) :
    s.doorLoss.now = s.now ∧ s.doorLoss.powered = s.powered ∧ s.doorLoss.resetLow = s.resetLow ∧
    s.doorLoss.flows = s.flows ∧ s.doorLoss.hold = s.hold ∧ s.doorLoss.sched = s.sched ∧
    s.doorLoss.uplink = s.uplink ∧ s.doorLoss.ports = s.ports ∧ s.doorLoss.params = s.params ∧
    s.doorLoss.store = s.store ∧ s.doorLoss.status = s.status ∧ s.doorLoss.cause = s.cause ∧
    s.doorLoss.freeCount = s.freeCount ∧ s.doorLoss.pending = s.pending := by
  simp [State.doorLoss]

@[simp] theorem State.budgetPass_frame (n : Nat) (s : State) :
    (s.budgetPass n).now = s.now ∧ (s.budgetPass n).powered = s.powered ∧ (s.budgetPass n).resetLow = s.resetLow ∧
    (s.budgetPass n).flows = s.flows ∧ (s.budgetPass n).hold = s.hold ∧ (s.budgetPass n).sched = s.sched ∧
    (s.budgetPass n).uplink = s.uplink ∧ (s.budgetPass n).points = s.points ∧ (s.budgetPass n).ports = s.ports ∧
    (s.budgetPass n).params = s.params ∧ (s.budgetPass n).store = s.store ∧ (s.budgetPass n).status = s.status ∧
    (s.budgetPass n).cause = s.cause ∧ (s.budgetPass n).freeCount = s.freeCount ∧ (s.budgetPass n).pending = s.pending := by
  unfold State.budgetPass
  (repeat' split) <;> simp

@[simp] theorem State.changeSupply_frame (v : Supply) (c : SupplySource) (s : State) :
    (s.changeSupply v c).now = s.now ∧ (s.changeSupply v c).powered = s.powered ∧
    (s.changeSupply v c).resetLow = s.resetLow ∧ (s.changeSupply v c).flows = s.flows ∧
    (s.changeSupply v c).hold = s.hold ∧ (s.changeSupply v c).sched = s.sched ∧
    (s.changeSupply v c).uplink = s.uplink ∧ (s.changeSupply v c).ports = s.ports ∧
    (s.changeSupply v c).params = s.params ∧ (s.changeSupply v c).store = s.store ∧
    (s.changeSupply v c).status = s.status ∧ (s.changeSupply v c).cause = s.cause ∧
    (s.changeSupply v c).freeCount = s.freeCount ∧ (s.changeSupply v c).pending = s.pending := by
  unfold State.changeSupply
  (repeat' split) <;> simp

@[simp] theorem State.setSupply_frame (v : Supply) (c : SupplySource) (s : State) :
    (s.setSupply v c).now = s.now ∧ (s.setSupply v c).powered = s.powered ∧ (s.setSupply v c).resetLow = s.resetLow ∧
    (s.setSupply v c).flows = s.flows ∧ (s.setSupply v c).hold = s.hold ∧ (s.setSupply v c).sched = s.sched ∧
    (s.setSupply v c).uplink = s.uplink ∧ (s.setSupply v c).ports = s.ports ∧ (s.setSupply v c).params = s.params ∧
    (s.setSupply v c).store = s.store ∧ (s.setSupply v c).status = s.status ∧ (s.setSupply v c).cause = s.cause ∧
    (s.setSupply v c).freeCount = s.freeCount ∧ (s.setSupply v c).pending = s.pending := by
  unfold State.setSupply
  (repeat' split) <;> simp

@[simp] theorem State.inputEvent_frame (s : State) :
    s.inputEvent.now = s.now ∧ s.inputEvent.powered = s.powered ∧ s.inputEvent.resetLow = s.resetLow ∧
    s.inputEvent.flows = s.flows ∧ s.inputEvent.hold = s.hold ∧ s.inputEvent.sched = s.sched ∧
    s.inputEvent.uplink = s.uplink ∧ s.inputEvent.ports = s.ports ∧ s.inputEvent.params = s.params ∧
    s.inputEvent.store = s.store ∧ s.inputEvent.status = s.status ∧ s.inputEvent.cause = s.cause ∧
    s.inputEvent.freeCount = s.freeCount ∧ s.inputEvent.pending = s.pending := by
  unfold State.inputEvent
  (repeat' split) <;> simp

@[simp] theorem State.putBudget_frame (v : Supply) (n : Nat) (s : State) :
    (s.putBudget v n).now = s.now ∧ (s.putBudget v n).powered = s.powered ∧ (s.putBudget v n).resetLow = s.resetLow ∧
    (s.putBudget v n).flows = s.flows ∧ (s.putBudget v n).hold = s.hold ∧ (s.putBudget v n).sched = s.sched ∧
    (s.putBudget v n).uplink = s.uplink ∧ (s.putBudget v n).ports = s.ports ∧ (s.putBudget v n).params = s.params ∧
    (s.putBudget v n).store = s.store ∧ (s.putBudget v n).status = s.status ∧ (s.putBudget v n).cause = s.cause ∧
    (s.putBudget v n).freeCount = s.freeCount ∧ (s.putBudget v n).pending = s.pending := by
  unfold State.putBudget
  dsimp only
  (repeat' split) <;> simp

@[simp] theorem State.attemptIfMoved_frame (n : Nat) (s : State) :
    (s.attemptIfMoved n).now = s.now ∧ (s.attemptIfMoved n).powered = s.powered ∧
    (s.attemptIfMoved n).resetLow = s.resetLow ∧ (s.attemptIfMoved n).flows = s.flows ∧
    (s.attemptIfMoved n).hold = s.hold ∧ (s.attemptIfMoved n).sched = s.sched ∧
    (s.attemptIfMoved n).uplink = s.uplink ∧ (s.attemptIfMoved n).ports = s.ports ∧
    (s.attemptIfMoved n).params = s.params ∧ (s.attemptIfMoved n).store = s.store ∧
    (s.attemptIfMoved n).status = s.status ∧ (s.attemptIfMoved n).cause = s.cause ∧
    (s.attemptIfMoved n).freeCount = s.freeCount ∧ (s.attemptIfMoved n).pending = s.pending := by
  unfold State.attemptIfMoved
  (repeat' split) <;> simp

@[simp] theorem State.ceilingSet_frame (n : Nat) (s : State) :
    (s.ceilingSet n).now = s.now ∧ (s.ceilingSet n).powered = s.powered ∧ (s.ceilingSet n).resetLow = s.resetLow ∧
    (s.ceilingSet n).flows = s.flows ∧ (s.ceilingSet n).hold = s.hold ∧ (s.ceilingSet n).sched = s.sched ∧
    (s.ceilingSet n).uplink = s.uplink ∧ (s.ceilingSet n).ports = s.ports ∧ (s.ceilingSet n).params = s.params ∧
    (s.ceilingSet n).store = s.store ∧ (s.ceilingSet n).status = s.status ∧ (s.ceilingSet n).cause = s.cause ∧
    (s.ceilingSet n).freeCount = s.freeCount ∧ (s.ceilingSet n).pending = s.pending := by
  unfold State.ceilingSet
  (repeat' split) <;> simp

@[simp] theorem State.assertSurge_frame (p : PointNo) (b : Bool) (s : State) :
    (s.assertSurge p b).now = s.now ∧ (s.assertSurge p b).powered = s.powered ∧
    (s.assertSurge p b).resetLow = s.resetLow ∧ (s.assertSurge p b).flows = s.flows ∧
    (s.assertSurge p b).hold = s.hold ∧ (s.assertSurge p b).sched = s.sched ∧ (s.assertSurge p b).uplink = s.uplink ∧
    (s.assertSurge p b).ports = s.ports ∧ (s.assertSurge p b).params = s.params ∧
    (s.assertSurge p b).store = s.store ∧ (s.assertSurge p b).status = s.status ∧
    (s.assertSurge p b).cause = s.cause ∧ (s.assertSurge p b).freeCount = s.freeCount ∧
    (s.assertSurge p b).pending = s.pending := by
  unfold State.assertSurge
  (repeat' split) <;> simp

@[simp] theorem State.surgeInput_frame (p : PointNo) (v : Level) (s : State) :
    (s.surgeInput p v).now = s.now ∧ (s.surgeInput p v).powered = s.powered ∧
    (s.surgeInput p v).resetLow = s.resetLow ∧ (s.surgeInput p v).flows = s.flows ∧
    (s.surgeInput p v).hold = s.hold ∧ (s.surgeInput p v).sched = s.sched ∧ (s.surgeInput p v).uplink = s.uplink ∧
    (s.surgeInput p v).ports = s.ports ∧ (s.surgeInput p v).params = s.params ∧ (s.surgeInput p v).store = s.store ∧
    (s.surgeInput p v).status = s.status ∧ (s.surgeInput p v).cause = s.cause ∧
    (s.surgeInput p v).freeCount = s.freeCount ∧ (s.surgeInput p v).pending = s.pending := by
  unfold State.surgeInput
  (repeat' split) <;> simp

@[simp] theorem State.inputChange_frame (p : PointNo) (v : Level) (s : State) :
    (s.inputChange p v).now = s.now ∧ (s.inputChange p v).powered = s.powered ∧
    (s.inputChange p v).resetLow = s.resetLow ∧ (s.inputChange p v).flows = s.flows ∧
    (s.inputChange p v).hold = s.hold ∧ (s.inputChange p v).sched = s.sched ∧ (s.inputChange p v).uplink = s.uplink ∧
    (s.inputChange p v).ports = s.ports ∧ (s.inputChange p v).params = s.params ∧
    (s.inputChange p v).store = s.store ∧ (s.inputChange p v).status = s.status ∧
    (s.inputChange p v).cause = s.cause ∧ (s.inputChange p v).freeCount = s.freeCount ∧
    (s.inputChange p v).pending = s.pending := by
  unfold State.inputChange
  dsimp only
  (repeat' split) <;> simp

@[simp] theorem State.doorMoved_frame (b : Bool) (s : State) :
    (s.doorMoved b).now = s.now ∧ (s.doorMoved b).powered = s.powered ∧ (s.doorMoved b).resetLow = s.resetLow ∧
    (s.doorMoved b).flows = s.flows ∧ (s.doorMoved b).hold = s.hold ∧ (s.doorMoved b).sched = s.sched ∧
    (s.doorMoved b).uplink = s.uplink ∧ (s.doorMoved b).ports = s.ports ∧ (s.doorMoved b).params = s.params ∧
    (s.doorMoved b).store = s.store ∧ (s.doorMoved b).status = s.status ∧ (s.doorMoved b).cause = s.cause ∧
    (s.doorMoved b).freeCount = s.freeCount ∧ (s.doorMoved b).pending = s.pending := by
  unfold State.doorMoved
  (repeat' split) <;> simp

@[simp] theorem State.levelTaken_frame (p : PointNo) (b : Bool) (s : State) :
    (s.levelTaken p b).now = s.now ∧ (s.levelTaken p b).powered = s.powered ∧
    (s.levelTaken p b).resetLow = s.resetLow ∧ (s.levelTaken p b).flows = s.flows ∧
    (s.levelTaken p b).hold = s.hold ∧ (s.levelTaken p b).sched = s.sched ∧ (s.levelTaken p b).uplink = s.uplink ∧
    (s.levelTaken p b).ports = s.ports ∧ (s.levelTaken p b).params = s.params ∧ (s.levelTaken p b).store = s.store ∧
    (s.levelTaken p b).status = s.status ∧ (s.levelTaken p b).cause = s.cause ∧
    (s.levelTaken p b).freeCount = s.freeCount ∧ (s.levelTaken p b).pending = s.pending := by
  unfold State.levelTaken
  (repeat' split) <;> simp

@[simp] theorem State.endDebounce_frame (p : PointNo) (s : State) :
    (s.endDebounce p).now = s.now ∧ (s.endDebounce p).powered = s.powered ∧ (s.endDebounce p).resetLow = s.resetLow ∧
    (s.endDebounce p).flows = s.flows ∧ (s.endDebounce p).hold = s.hold ∧ (s.endDebounce p).sched = s.sched ∧
    (s.endDebounce p).uplink = s.uplink ∧ (s.endDebounce p).ports = s.ports ∧ (s.endDebounce p).params = s.params ∧
    (s.endDebounce p).store = s.store ∧ (s.endDebounce p).status = s.status ∧ (s.endDebounce p).cause = s.cause ∧
    (s.endDebounce p).freeCount = s.freeCount ∧ (s.endDebounce p).pending = s.pending := by
  unfold State.endDebounce
  dsimp only
  (repeat' split) <;> simp

@[simp] theorem State.endSurgeClear_frame (s : State) :
    s.endSurgeClear.now = s.now ∧ s.endSurgeClear.powered = s.powered ∧ s.endSurgeClear.resetLow = s.resetLow ∧
    s.endSurgeClear.flows = s.flows ∧ s.endSurgeClear.hold = s.hold ∧ s.endSurgeClear.sched = s.sched ∧
    s.endSurgeClear.uplink = s.uplink ∧ s.endSurgeClear.ports = s.ports ∧ s.endSurgeClear.params = s.params ∧
    s.endSurgeClear.store = s.store ∧ s.endSurgeClear.status = s.status ∧ s.endSurgeClear.cause = s.cause ∧
    s.endSurgeClear.freeCount = s.freeCount ∧ s.endSurgeClear.pending = s.pending := by
  unfold State.endSurgeClear
  (repeat' split) <;> simp

@[simp] theorem State.endQuiet_frame (s : State) :
    s.endQuiet.now = s.now ∧ s.endQuiet.powered = s.powered ∧ s.endQuiet.resetLow = s.resetLow ∧
    s.endQuiet.flows = s.flows ∧ s.endQuiet.hold = s.hold ∧ s.endQuiet.sched = s.sched ∧
    s.endQuiet.uplink = s.uplink ∧ s.endQuiet.ports = s.ports ∧ s.endQuiet.params = s.params ∧
    s.endQuiet.store = s.store ∧ s.endQuiet.status = s.status ∧ s.endQuiet.cause = s.cause ∧
    s.endQuiet.freeCount = s.freeCount ∧ s.endQuiet.pending = s.pending := by
  unfold State.endQuiet
  (repeat' split) <;> simp

@[simp] theorem State.releaseFn_frame (p : PointNo) (s : State) :
    (s.releaseFn p).now = s.now ∧ (s.releaseFn p).powered = s.powered ∧ (s.releaseFn p).resetLow = s.resetLow ∧
    (s.releaseFn p).flows = s.flows ∧ (s.releaseFn p).hold = s.hold ∧ (s.releaseFn p).sched = s.sched ∧
    (s.releaseFn p).uplink = s.uplink ∧ (s.releaseFn p).ports = s.ports ∧ (s.releaseFn p).params = s.params ∧
    (s.releaseFn p).store = s.store ∧ (s.releaseFn p).status = s.status ∧ (s.releaseFn p).cause = s.cause ∧
    (s.releaseFn p).freeCount = s.freeCount ∧ (s.releaseFn p).pending = s.pending := by
  unfold State.releaseFn
  (repeat' split) <;> simp

@[simp] theorem State.takeUpFn_frame (p : PointNo) (s : State) :
    (s.takeUpFn p).now = s.now ∧ (s.takeUpFn p).powered = s.powered ∧ (s.takeUpFn p).resetLow = s.resetLow ∧
    (s.takeUpFn p).flows = s.flows ∧ (s.takeUpFn p).hold = s.hold ∧ (s.takeUpFn p).sched = s.sched ∧
    (s.takeUpFn p).uplink = s.uplink ∧ (s.takeUpFn p).ports = s.ports ∧ (s.takeUpFn p).params = s.params ∧
    (s.takeUpFn p).store = s.store ∧ (s.takeUpFn p).status = s.status ∧ (s.takeUpFn p).cause = s.cause ∧
    (s.takeUpFn p).freeCount = s.freeCount ∧ (s.takeUpFn p).pending = s.pending := by
  unfold State.takeUpFn
  (repeat' split) <;> simp

@[simp] theorem State.repolarise_frame (p : PointNo) (v : Polarity) (s : State) :
    (s.repolarise p v).now = s.now ∧ (s.repolarise p v).powered = s.powered ∧
    (s.repolarise p v).resetLow = s.resetLow ∧ (s.repolarise p v).flows = s.flows ∧
    (s.repolarise p v).hold = s.hold ∧ (s.repolarise p v).sched = s.sched ∧ (s.repolarise p v).uplink = s.uplink ∧
    (s.repolarise p v).ports = s.ports ∧ (s.repolarise p v).params = s.params ∧ (s.repolarise p v).store = s.store ∧
    (s.repolarise p v).status = s.status ∧ (s.repolarise p v).cause = s.cause ∧
    (s.repolarise p v).freeCount = s.freeCount ∧ (s.repolarise p v).pending = s.pending := by
  unfold State.repolarise
  dsimp only
  (repeat' split) <;> simp

@[simp] theorem State.assignFn_frame (p : PointNo) (f : PointFn) (v : Polarity) (s : State) :
    (s.assignFn p f v).now = s.now ∧ (s.assignFn p f v).powered = s.powered ∧
    (s.assignFn p f v).resetLow = s.resetLow ∧ (s.assignFn p f v).flows = s.flows ∧
    (s.assignFn p f v).hold = s.hold ∧ (s.assignFn p f v).sched = s.sched ∧ (s.assignFn p f v).uplink = s.uplink ∧
    (s.assignFn p f v).ports = s.ports ∧ (s.assignFn p f v).params = s.params ∧ (s.assignFn p f v).store = s.store ∧
    (s.assignFn p f v).status = s.status ∧ (s.assignFn p f v).cause = s.cause ∧
    (s.assignFn p f v).freeCount = s.freeCount ∧ (s.assignFn p f v).pending = s.pending := by
  unfold State.assignFn
  dsimp only
  (repeat' split) <;> simp

@[simp] theorem State.settleChange_frame (n : Nat) (s : State) :
    (s.settleChange n).now = s.now ∧ (s.settleChange n).powered = s.powered ∧
    (s.settleChange n).resetLow = s.resetLow ∧ (s.settleChange n).flows = s.flows ∧
    (s.settleChange n).hold = s.hold ∧ (s.settleChange n).sched = s.sched ∧ (s.settleChange n).uplink = s.uplink ∧
    (s.settleChange n).ports = s.ports ∧ (s.settleChange n).params = s.params ∧ (s.settleChange n).store = s.store ∧
    (s.settleChange n).status = s.status ∧ (s.settleChange n).cause = s.cause ∧
    (s.settleChange n).freeCount = s.freeCount ∧ (s.settleChange n).pending = s.pending := by
  unfold State.settleChange
  (repeat' split) <;> simp

@[simp] theorem State.lineStart_frame (l : LineNo) (s : State) :
    (s.lineStart l).2.now = s.now ∧ (s.lineStart l).2.powered = s.powered ∧ (s.lineStart l).2.resetLow = s.resetLow ∧
    (s.lineStart l).2.flows = s.flows ∧ (s.lineStart l).2.hold = s.hold ∧ (s.lineStart l).2.sched = s.sched ∧
    (s.lineStart l).2.uplink = s.uplink ∧ (s.lineStart l).2.ports = s.ports ∧ (s.lineStart l).2.params = s.params ∧
    (s.lineStart l).2.store = s.store ∧ (s.lineStart l).2.status = s.status ∧ (s.lineStart l).2.cause = s.cause ∧
    (s.lineStart l).2.freeCount = s.freeCount ∧ (s.lineStart l).2.pending = s.pending := by
  unfold State.lineStart
  (repeat' split) <;> simp

@[simp] theorem State.lineStop_frame (l : LineNo) (s : State) :
    (s.lineStop l).2.now = s.now ∧ (s.lineStop l).2.powered = s.powered ∧ (s.lineStop l).2.resetLow = s.resetLow ∧
    (s.lineStop l).2.flows = s.flows ∧ (s.lineStop l).2.hold = s.hold ∧ (s.lineStop l).2.sched = s.sched ∧
    (s.lineStop l).2.uplink = s.uplink ∧ (s.lineStop l).2.ports = s.ports ∧ (s.lineStop l).2.params = s.params ∧
    (s.lineStop l).2.store = s.store ∧ (s.lineStop l).2.status = s.status ∧ (s.lineStop l).2.cause = s.cause ∧
    (s.lineStop l).2.freeCount = s.freeCount ∧ (s.lineStop l).2.pending = s.pending := by
  unfold State.lineStop
  (repeat' split) <;> simp

@[simp] theorem State.lineClear_frame (l : LineNo) (s : State) :
    (s.lineClear l).2.now = s.now ∧ (s.lineClear l).2.powered = s.powered ∧ (s.lineClear l).2.resetLow = s.resetLow ∧
    (s.lineClear l).2.flows = s.flows ∧ (s.lineClear l).2.hold = s.hold ∧ (s.lineClear l).2.sched = s.sched ∧
    (s.lineClear l).2.uplink = s.uplink ∧ (s.lineClear l).2.ports = s.ports ∧ (s.lineClear l).2.params = s.params ∧
    (s.lineClear l).2.store = s.store ∧ (s.lineClear l).2.status = s.status ∧ (s.lineClear l).2.cause = s.cause ∧
    (s.lineClear l).2.freeCount = s.freeCount ∧ (s.lineClear l).2.pending = s.pending := by
  unfold State.lineClear
  (repeat' split) <;> simp

@[simp] theorem State.lineEquip_frame (l : LineNo) (s : State) :
    (s.lineEquip l).2.now = s.now ∧ (s.lineEquip l).2.powered = s.powered ∧ (s.lineEquip l).2.resetLow = s.resetLow ∧
    (s.lineEquip l).2.flows = s.flows ∧ (s.lineEquip l).2.hold = s.hold ∧ (s.lineEquip l).2.sched = s.sched ∧
    (s.lineEquip l).2.uplink = s.uplink ∧ (s.lineEquip l).2.ports = s.ports ∧ (s.lineEquip l).2.params = s.params ∧
    (s.lineEquip l).2.store = s.store ∧ (s.lineEquip l).2.status = s.status ∧ (s.lineEquip l).2.cause = s.cause ∧
    (s.lineEquip l).2.freeCount = s.freeCount ∧ (s.lineEquip l).2.pending = s.pending := by
  unfold State.lineEquip
  (repeat' split) <;> simp

@[simp] theorem State.lineUnequip_frame (l : LineNo) (s : State) :
    (s.lineUnequip l).2.now = s.now ∧ (s.lineUnequip l).2.powered = s.powered ∧
    (s.lineUnequip l).2.resetLow = s.resetLow ∧ (s.lineUnequip l).2.flows = s.flows ∧
    (s.lineUnequip l).2.hold = s.hold ∧ (s.lineUnequip l).2.sched = s.sched ∧ (s.lineUnequip l).2.uplink = s.uplink ∧
    (s.lineUnequip l).2.ports = s.ports ∧ (s.lineUnequip l).2.params = s.params ∧
    (s.lineUnequip l).2.store = s.store ∧ (s.lineUnequip l).2.status = s.status ∧
    (s.lineUnequip l).2.cause = s.cause ∧ (s.lineUnequip l).2.freeCount = s.freeCount ∧
    (s.lineUnequip l).2.pending = s.pending := by
  unfold State.lineUnequip
  (repeat' split) <;> simp

@[simp] theorem State.lineProfile_frame (l : LineNo) (p : Profile) (s : State) :
    (s.lineProfile l p).2.now = s.now ∧ (s.lineProfile l p).2.powered = s.powered ∧
    (s.lineProfile l p).2.resetLow = s.resetLow ∧ (s.lineProfile l p).2.flows = s.flows ∧
    (s.lineProfile l p).2.hold = s.hold ∧ (s.lineProfile l p).2.sched = s.sched ∧
    (s.lineProfile l p).2.uplink = s.uplink ∧ (s.lineProfile l p).2.ports = s.ports ∧
    (s.lineProfile l p).2.params = s.params ∧ (s.lineProfile l p).2.store = s.store ∧
    (s.lineProfile l p).2.status = s.status ∧ (s.lineProfile l p).2.cause = s.cause ∧
    (s.lineProfile l p).2.freeCount = s.freeCount ∧ (s.lineProfile l p).2.pending = s.pending := by
  unfold State.lineProfile
  (repeat' split) <;> simp

@[simp] theorem State.syncUp_frame (l : LineNo) (s : State) :
    (s.syncUp l).now = s.now ∧ (s.syncUp l).powered = s.powered ∧ (s.syncUp l).resetLow = s.resetLow ∧
    (s.syncUp l).flows = s.flows ∧ (s.syncUp l).hold = s.hold ∧ (s.syncUp l).sched = s.sched ∧
    (s.syncUp l).uplink = s.uplink ∧ (s.syncUp l).ports = s.ports ∧ (s.syncUp l).params = s.params ∧
    (s.syncUp l).store = s.store ∧ (s.syncUp l).status = s.status ∧ (s.syncUp l).cause = s.cause ∧
    (s.syncUp l).freeCount = s.freeCount ∧ (s.syncUp l).pending = s.pending := by
  unfold State.syncUp
  (repeat' split) <;> simp

@[simp] theorem State.syncLost_frame (l : LineNo) (s : State) :
    (s.syncLost l).now = s.now ∧ (s.syncLost l).powered = s.powered ∧ (s.syncLost l).resetLow = s.resetLow ∧
    (s.syncLost l).flows = s.flows ∧ (s.syncLost l).hold = s.hold ∧ (s.syncLost l).sched = s.sched ∧
    (s.syncLost l).uplink = s.uplink ∧ (s.syncLost l).ports = s.ports ∧ (s.syncLost l).params = s.params ∧
    (s.syncLost l).store = s.store ∧ (s.syncLost l).status = s.status ∧ (s.syncLost l).cause = s.cause ∧
    (s.syncLost l).freeCount = s.freeCount ∧ (s.syncLost l).pending = s.pending := by
  unfold State.syncLost
  (repeat' split) <;> simp

@[simp] theorem State.deadlineExpires_frame (l : LineNo) (s : State) :
    (s.deadlineExpires l).now = s.now ∧ (s.deadlineExpires l).powered = s.powered ∧
    (s.deadlineExpires l).resetLow = s.resetLow ∧ (s.deadlineExpires l).flows = s.flows ∧
    (s.deadlineExpires l).hold = s.hold ∧ (s.deadlineExpires l).sched = s.sched ∧
    (s.deadlineExpires l).uplink = s.uplink ∧ (s.deadlineExpires l).ports = s.ports ∧
    (s.deadlineExpires l).params = s.params ∧ (s.deadlineExpires l).store = s.store ∧
    (s.deadlineExpires l).status = s.status ∧ (s.deadlineExpires l).cause = s.cause ∧
    (s.deadlineExpires l).freeCount = s.freeCount ∧ (s.deadlineExpires l).pending = s.pending := by
  unfold State.deadlineExpires
  (repeat' split) <;> simp

@[simp] theorem State.lineQuery_frame (l : LineNo) (b : Bool) (s : State) :
    (s.lineQuery l b).2.now = s.now ∧ (s.lineQuery l b).2.powered = s.powered ∧
    (s.lineQuery l b).2.resetLow = s.resetLow ∧ (s.lineQuery l b).2.pool = s.pool ∧
    (s.lineQuery l b).2.egress = s.egress ∧ (s.lineQuery l b).2.flows = s.flows ∧ (s.lineQuery l b).2.hold = s.hold ∧
    (s.lineQuery l b).2.sched = s.sched ∧ (s.lineQuery l b).2.uplink = s.uplink ∧ (s.lineQuery l b).2.gen = s.gen ∧
    (s.lineQuery l b).2.engine = s.engine ∧ (s.lineQuery l b).2.energy = s.energy ∧
    (s.lineQuery l b).2.points = s.points ∧ (s.lineQuery l b).2.ports = s.ports ∧
    (s.lineQuery l b).2.notices = s.notices ∧ (s.lineQuery l b).2.params = s.params ∧
    (s.lineQuery l b).2.store = s.store ∧ (s.lineQuery l b).2.status = s.status ∧
    (s.lineQuery l b).2.cause = s.cause ∧ (s.lineQuery l b).2.freeCount = s.freeCount ∧
    (s.lineQuery l b).2.pending = s.pending := by
  unfold State.lineQuery
  (repeat' split) <;> simp

@[simp] theorem State.releaseOne_frame (k : FlowIdx) (e : FlowEntry) (h : Held) (i j : Nat) (s : State) :
    (State.releaseOne k e h (s, i, j)).1.now = s.now ∧ (State.releaseOne k e h (s, i, j)).1.powered = s.powered ∧
    (State.releaseOne k e h (s, i, j)).1.resetLow = s.resetLow ∧
    (State.releaseOne k e h (s, i, j)).1.egress = s.egress ∧ (State.releaseOne k e h (s, i, j)).1.uplink = s.uplink ∧
    (State.releaseOne k e h (s, i, j)).1.gen = s.gen ∧ (State.releaseOne k e h (s, i, j)).1.engine = s.engine ∧
    (State.releaseOne k e h (s, i, j)).1.energy = s.energy ∧ (State.releaseOne k e h (s, i, j)).1.points = s.points ∧
    (State.releaseOne k e h (s, i, j)).1.ports = s.ports ∧ (State.releaseOne k e h (s, i, j)).1.notices = s.notices ∧
    (State.releaseOne k e h (s, i, j)).1.params = s.params ∧ (State.releaseOne k e h (s, i, j)).1.store = s.store ∧
    (State.releaseOne k e h (s, i, j)).1.status = s.status ∧ (State.releaseOne k e h (s, i, j)).1.cause = s.cause ∧
    (State.releaseOne k e h (s, i, j)).1.freeCount = s.freeCount ∧
    (State.releaseOne k e h (s, i, j)).1.pending = s.pending := by
  unfold State.releaseOne
  dsimp only
  (repeat' split) <;> simp

@[simp] theorem State.releasePass_frame (k : FlowIdx) (e : FlowEntry) (s : State) :
    (s.releasePass k e).1.now = s.now ∧ (s.releasePass k e).1.powered = s.powered ∧
    (s.releasePass k e).1.resetLow = s.resetLow ∧ (s.releasePass k e).1.egress = s.egress ∧
    (s.releasePass k e).1.uplink = s.uplink ∧ (s.releasePass k e).1.gen = s.gen ∧
    (s.releasePass k e).1.engine = s.engine ∧ (s.releasePass k e).1.energy = s.energy ∧
    (s.releasePass k e).1.points = s.points ∧ (s.releasePass k e).1.ports = s.ports ∧
    (s.releasePass k e).1.notices = s.notices ∧ (s.releasePass k e).1.params = s.params ∧
    (s.releasePass k e).1.store = s.store ∧ (s.releasePass k e).1.status = s.status ∧
    (s.releasePass k e).1.cause = s.cause ∧ (s.releasePass k e).1.freeCount = s.freeCount ∧
    (s.releasePass k e).1.pending = s.pending := by
  have keep : ∀ {γ : Type} (g : State → γ) (h : ∀ s i j x, g (State.releaseOne k e x (s, i, j)).1 = g s),
      g (s.releasePass k e).1 = g s := fun g h =>
    foldl_keeps (fun a : State × Nat × Nat => g a.1) (fun a x => State.releaseOne k e x a) (fun a x => h a.1 a.2.1 a.2.2 x) s.hold (s, 0, 0)
  exact ⟨keep State.now (by simp), keep State.powered (by simp), keep State.resetLow (by simp), keep State.egress (by simp), keep State.uplink (by simp), keep State.gen (by simp), keep State.engine (by simp), keep State.energy (by simp), keep State.points (by simp), keep State.ports (by simp), keep State.notices (by simp), keep State.params (by simp), keep State.store (by simp), keep State.status (by simp), keep State.cause (by simp), keep State.freeCount (by simp), keep State.pending (by simp)⟩

@[simp] theorem State.install_frame (k : FlowIdx) (e : FlowEntry) (s : State) :
    (s.install k e).1.now = s.now ∧ (s.install k e).1.powered = s.powered ∧ (s.install k e).1.resetLow = s.resetLow ∧
    (s.install k e).1.egress = s.egress ∧ (s.install k e).1.uplink = s.uplink ∧ (s.install k e).1.gen = s.gen ∧
    (s.install k e).1.engine = s.engine ∧ (s.install k e).1.energy = s.energy ∧ (s.install k e).1.points = s.points ∧
    (s.install k e).1.ports = s.ports ∧ (s.install k e).1.notices = s.notices ∧ (s.install k e).1.params = s.params ∧
    (s.install k e).1.store = s.store ∧ (s.install k e).1.status = s.status ∧ (s.install k e).1.cause = s.cause ∧
    (s.install k e).1.freeCount = s.freeCount ∧ (s.install k e).1.pending = s.pending := by
  simp [State.install]

@[simp] theorem State.clearStatus_frame (s : State) :
    s.clearStatus.now = s.now ∧ s.clearStatus.powered = s.powered ∧ s.clearStatus.resetLow = s.resetLow ∧
    s.clearStatus.lines = s.lines ∧ s.clearStatus.egress = s.egress ∧ s.clearStatus.flows = s.flows ∧
    s.clearStatus.hold = s.hold ∧ s.clearStatus.sched = s.sched ∧ s.clearStatus.uplink = s.uplink ∧
    s.clearStatus.gen = s.gen ∧ s.clearStatus.engine = s.engine ∧ s.clearStatus.energy = s.energy ∧
    s.clearStatus.points = s.points ∧ s.clearStatus.notices = s.notices ∧ s.clearStatus.params = s.params ∧
    s.clearStatus.store = s.store ∧ s.clearStatus.status = s.status ∧ s.clearStatus.cause = s.cause ∧
    s.clearStatus.freeCount = s.freeCount ∧ s.clearStatus.pending = s.pending := ⟨rfl, rfl, rfl, rfl, rfl, rfl, rfl, rfl, rfl, rfl, rfl, rfl, rfl, rfl, rfl, rfl, rfl, rfl, rfl, rfl⟩

@[simp] theorem State.statusRequest_frame (b : Bool) (s : State) :
    (s.statusRequest b).2.now = s.now ∧ (s.statusRequest b).2.powered = s.powered ∧
    (s.statusRequest b).2.resetLow = s.resetLow ∧ (s.statusRequest b).2.lines = s.lines ∧
    (s.statusRequest b).2.egress = s.egress ∧ (s.statusRequest b).2.flows = s.flows ∧
    (s.statusRequest b).2.hold = s.hold ∧ (s.statusRequest b).2.sched = s.sched ∧
    (s.statusRequest b).2.uplink = s.uplink ∧ (s.statusRequest b).2.gen = s.gen ∧
    (s.statusRequest b).2.engine = s.engine ∧ (s.statusRequest b).2.energy = s.energy ∧
    (s.statusRequest b).2.points = s.points ∧ (s.statusRequest b).2.notices = s.notices ∧
    (s.statusRequest b).2.params = s.params ∧ (s.statusRequest b).2.store = s.store ∧
    (s.statusRequest b).2.status = s.status ∧ (s.statusRequest b).2.cause = s.cause ∧
    (s.statusRequest b).2.freeCount = s.freeCount ∧ (s.statusRequest b).2.pending = s.pending := by
  unfold State.statusRequest
  (repeat' split) <;> simp

@[simp] theorem State.putParameter_frame (i v : Nat) (s : State) :
    (s.putParameter i v).now = s.now ∧ (s.putParameter i v).powered = s.powered ∧
    (s.putParameter i v).resetLow = s.resetLow ∧ (s.putParameter i v).flows = s.flows ∧
    (s.putParameter i v).hold = s.hold ∧ (s.putParameter i v).sched = s.sched ∧
    (s.putParameter i v).uplink = s.uplink ∧ (s.putParameter i v).ports = s.ports ∧
    (s.putParameter i v).store = s.store ∧ (s.putParameter i v).status = s.status ∧
    (s.putParameter i v).cause = s.cause ∧ (s.putParameter i v).freeCount = s.freeCount ∧
    (s.putParameter i v).pending = s.pending := by
  unfold State.putParameter
  (repeat' split) <;> simp

@[simp] theorem State.setParameter_frame (i v : Nat) (s : State) :
    (s.setParameter i v).2.now = s.now ∧ (s.setParameter i v).2.powered = s.powered ∧
    (s.setParameter i v).2.resetLow = s.resetLow ∧ (s.setParameter i v).2.flows = s.flows ∧
    (s.setParameter i v).2.hold = s.hold ∧ (s.setParameter i v).2.sched = s.sched ∧
    (s.setParameter i v).2.uplink = s.uplink ∧ (s.setParameter i v).2.ports = s.ports ∧
    (s.setParameter i v).2.store = s.store ∧ (s.setParameter i v).2.status = s.status ∧
    (s.setParameter i v).2.cause = s.cause ∧ (s.setParameter i v).2.freeCount = s.freeCount ∧
    (s.setParameter i v).2.pending = s.pending := by
  unfold State.setParameter
  (repeat' split) <;> simp

@[simp] theorem State.getParameter_frame (i : Nat) (s : State) :
    (s.getParameter i).2.now = s.now ∧ (s.getParameter i).2.powered = s.powered ∧
    (s.getParameter i).2.resetLow = s.resetLow ∧ (s.getParameter i).2.lines = s.lines ∧
    (s.getParameter i).2.pool = s.pool ∧ (s.getParameter i).2.egress = s.egress ∧
    (s.getParameter i).2.flows = s.flows ∧ (s.getParameter i).2.hold = s.hold ∧
    (s.getParameter i).2.sched = s.sched ∧ (s.getParameter i).2.uplink = s.uplink ∧
    (s.getParameter i).2.gen = s.gen ∧ (s.getParameter i).2.engine = s.engine ∧
    (s.getParameter i).2.energy = s.energy ∧ (s.getParameter i).2.points = s.points ∧
    (s.getParameter i).2.ports = s.ports ∧ (s.getParameter i).2.notices = s.notices ∧
    (s.getParameter i).2.params = s.params ∧ (s.getParameter i).2.store = s.store ∧
    (s.getParameter i).2.status = s.status ∧ (s.getParameter i).2.cause = s.cause ∧
    (s.getParameter i).2.freeCount = s.freeCount ∧ (s.getParameter i).2.pending = s.pending := by
  unfold State.getParameter
  (repeat' split) <;> simp

@[simp] theorem State.fetchNotices_frame (s : State) :
    s.fetchNotices.2.now = s.now ∧ s.fetchNotices.2.powered = s.powered ∧ s.fetchNotices.2.resetLow = s.resetLow ∧
    s.fetchNotices.2.lines = s.lines ∧ s.fetchNotices.2.pool = s.pool ∧ s.fetchNotices.2.egress = s.egress ∧
    s.fetchNotices.2.flows = s.flows ∧ s.fetchNotices.2.hold = s.hold ∧ s.fetchNotices.2.sched = s.sched ∧
    s.fetchNotices.2.uplink = s.uplink ∧ s.fetchNotices.2.gen = s.gen ∧ s.fetchNotices.2.engine = s.engine ∧
    s.fetchNotices.2.energy = s.energy ∧ s.fetchNotices.2.points = s.points ∧ s.fetchNotices.2.ports = s.ports ∧
    s.fetchNotices.2.params = s.params ∧ s.fetchNotices.2.store = s.store ∧ s.fetchNotices.2.status = s.status ∧
    s.fetchNotices.2.cause = s.cause ∧ s.fetchNotices.2.freeCount = s.freeCount ∧ s.fetchNotices.2.pending = s.pending := ⟨rfl, rfl, rfl, rfl, rfl, rfl, rfl, rfl, rfl, rfl, rfl, rfl, rfl, rfl, rfl, rfl, rfl, rfl, rfl, rfl, rfl⟩

@[simp] theorem State.flowPut_frame (k : FlowIdx) (c : FlowContent) (s : State) :
    (s.flowPut k c).2.now = s.now ∧ (s.flowPut k c).2.powered = s.powered ∧ (s.flowPut k c).2.resetLow = s.resetLow ∧
    (s.flowPut k c).2.egress = s.egress ∧ (s.flowPut k c).2.uplink = s.uplink ∧ (s.flowPut k c).2.gen = s.gen ∧
    (s.flowPut k c).2.engine = s.engine ∧ (s.flowPut k c).2.energy = s.energy ∧ (s.flowPut k c).2.points = s.points ∧
    (s.flowPut k c).2.ports = s.ports ∧ (s.flowPut k c).2.notices = s.notices ∧ (s.flowPut k c).2.params = s.params ∧
    (s.flowPut k c).2.store = s.store ∧ (s.flowPut k c).2.status = s.status ∧ (s.flowPut k c).2.cause = s.cause ∧
    (s.flowPut k c).2.freeCount = s.freeCount ∧ (s.flowPut k c).2.pending = s.pending := by
  unfold State.flowPut
  (repeat' split) <;> simp

@[simp] theorem State.flowPlace_frame (c : FlowContent) (s : State) :
    (s.flowPlace c).2.now = s.now ∧ (s.flowPlace c).2.powered = s.powered ∧ (s.flowPlace c).2.resetLow = s.resetLow ∧
    (s.flowPlace c).2.egress = s.egress ∧ (s.flowPlace c).2.uplink = s.uplink ∧ (s.flowPlace c).2.gen = s.gen ∧
    (s.flowPlace c).2.engine = s.engine ∧ (s.flowPlace c).2.energy = s.energy ∧ (s.flowPlace c).2.points = s.points ∧
    (s.flowPlace c).2.ports = s.ports ∧ (s.flowPlace c).2.notices = s.notices ∧ (s.flowPlace c).2.params = s.params ∧
    (s.flowPlace c).2.store = s.store ∧ (s.flowPlace c).2.status = s.status ∧ (s.flowPlace c).2.cause = s.cause ∧
    (s.flowPlace c).2.freeCount = s.freeCount ∧ (s.flowPlace c).2.pending = s.pending := by
  unfold State.flowPlace
  (repeat' split) <;> simp

@[simp] theorem State.flowDrop_frame (k : FlowIdx) (s : State) :
    (s.flowDrop k).2.now = s.now ∧ (s.flowDrop k).2.powered = s.powered ∧ (s.flowDrop k).2.resetLow = s.resetLow ∧
    (s.flowDrop k).2.lines = s.lines ∧ (s.flowDrop k).2.pool = s.pool ∧ (s.flowDrop k).2.egress = s.egress ∧
    (s.flowDrop k).2.hold = s.hold ∧ (s.flowDrop k).2.sched = s.sched ∧ (s.flowDrop k).2.uplink = s.uplink ∧
    (s.flowDrop k).2.gen = s.gen ∧ (s.flowDrop k).2.engine = s.engine ∧ (s.flowDrop k).2.energy = s.energy ∧
    (s.flowDrop k).2.points = s.points ∧ (s.flowDrop k).2.ports = s.ports ∧ (s.flowDrop k).2.notices = s.notices ∧
    (s.flowDrop k).2.params = s.params ∧ (s.flowDrop k).2.store = s.store ∧ (s.flowDrop k).2.status = s.status ∧
    (s.flowDrop k).2.cause = s.cause ∧ (s.flowDrop k).2.freeCount = s.freeCount ∧ (s.flowDrop k).2.pending = s.pending := by
  unfold State.flowDrop
  (repeat' split) <;> simp

@[simp] theorem State.flowClear_frame (b : Bool) (s : State) :
    (s.flowClear b).2.now = s.now ∧ (s.flowClear b).2.powered = s.powered ∧ (s.flowClear b).2.resetLow = s.resetLow ∧
    (s.flowClear b).2.lines = s.lines ∧ (s.flowClear b).2.pool = s.pool ∧ (s.flowClear b).2.egress = s.egress ∧
    (s.flowClear b).2.hold = s.hold ∧ (s.flowClear b).2.sched = s.sched ∧ (s.flowClear b).2.uplink = s.uplink ∧
    (s.flowClear b).2.gen = s.gen ∧ (s.flowClear b).2.engine = s.engine ∧ (s.flowClear b).2.energy = s.energy ∧
    (s.flowClear b).2.points = s.points ∧ (s.flowClear b).2.ports = s.ports ∧ (s.flowClear b).2.notices = s.notices ∧
    (s.flowClear b).2.params = s.params ∧ (s.flowClear b).2.store = s.store ∧ (s.flowClear b).2.status = s.status ∧
    (s.flowClear b).2.cause = s.cause ∧ (s.flowClear b).2.freeCount = s.freeCount ∧
    (s.flowClear b).2.pending = s.pending := ⟨rfl, rfl, rfl, rfl, rfl, rfl, rfl, rfl, rfl, rfl, rfl, rfl, rfl, rfl, rfl, rfl, rfl, rfl, rfl, rfl, rfl⟩

@[simp] theorem State.testOrder_frame (p : PortId) (l : LineNo) (i q c : Bool) (st : List RawStep) (s : State) :
    (s.testOrder p l i q c st).2.now = s.now ∧ (s.testOrder p l i q c st).2.powered = s.powered ∧
    (s.testOrder p l i q c st).2.resetLow = s.resetLow ∧ (s.testOrder p l i q c st).2.flows = s.flows ∧
    (s.testOrder p l i q c st).2.hold = s.hold ∧ (s.testOrder p l i q c st).2.sched = s.sched ∧
    (s.testOrder p l i q c st).2.uplink = s.uplink ∧ (s.testOrder p l i q c st).2.ports = s.ports ∧
    (s.testOrder p l i q c st).2.params = s.params ∧ (s.testOrder p l i q c st).2.store = s.store ∧
    (s.testOrder p l i q c st).2.status = s.status ∧ (s.testOrder p l i q c st).2.cause = s.cause ∧
    (s.testOrder p l i q c st).2.freeCount = s.freeCount ∧ (s.testOrder p l i q c st).2.pending = s.pending := by
  unfold State.testOrder
  (repeat' split) <;> simp

@[simp] theorem State.testCancel_frame (p : PortId) (i : Nat) (s : State) :
    (s.testCancel p i).2.now = s.now ∧ (s.testCancel p i).2.powered = s.powered ∧
    (s.testCancel p i).2.resetLow = s.resetLow ∧ (s.testCancel p i).2.flows = s.flows ∧
    (s.testCancel p i).2.hold = s.hold ∧ (s.testCancel p i).2.sched = s.sched ∧
    (s.testCancel p i).2.uplink = s.uplink ∧ (s.testCancel p i).2.ports = s.ports ∧
    (s.testCancel p i).2.params = s.params ∧ (s.testCancel p i).2.store = s.store ∧
    (s.testCancel p i).2.status = s.status ∧ (s.testCancel p i).2.cause = s.cause ∧
    (s.testCancel p i).2.freeCount = s.freeCount ∧ (s.testCancel p i).2.pending = s.pending := by
  unfold State.testCancel
  (repeat' split) <;> simp

@[simp] theorem State.testResult_frame (p : PortId) (b : Bool) (i : Nat) (s : State) :
    (s.testResult p b i).2.now = s.now ∧ (s.testResult p b i).2.powered = s.powered ∧
    (s.testResult p b i).2.resetLow = s.resetLow ∧ (s.testResult p b i).2.lines = s.lines ∧
    (s.testResult p b i).2.pool = s.pool ∧ (s.testResult p b i).2.egress = s.egress ∧
    (s.testResult p b i).2.flows = s.flows ∧ (s.testResult p b i).2.hold = s.hold ∧
    (s.testResult p b i).2.sched = s.sched ∧ (s.testResult p b i).2.uplink = s.uplink ∧
    (s.testResult p b i).2.gen = s.gen ∧ (s.testResult p b i).2.energy = s.energy ∧
    (s.testResult p b i).2.points = s.points ∧ (s.testResult p b i).2.ports = s.ports ∧
    (s.testResult p b i).2.notices = s.notices ∧ (s.testResult p b i).2.params = s.params ∧
    (s.testResult p b i).2.store = s.store ∧ (s.testResult p b i).2.status = s.status ∧
    (s.testResult p b i).2.cause = s.cause ∧ (s.testResult p b i).2.freeCount = s.freeCount ∧
    (s.testResult p b i).2.pending = s.pending := by
  unfold State.testResult
  (repeat' split) <;> simp

@[simp] theorem State.testHalt_frame (s : State) :
    s.testHalt.2.now = s.now ∧ s.testHalt.2.powered = s.powered ∧ s.testHalt.2.resetLow = s.resetLow ∧
    s.testHalt.2.pool = s.pool ∧ s.testHalt.2.egress = s.egress ∧ s.testHalt.2.flows = s.flows ∧
    s.testHalt.2.hold = s.hold ∧ s.testHalt.2.sched = s.sched ∧ s.testHalt.2.uplink = s.uplink ∧
    s.testHalt.2.energy = s.energy ∧ s.testHalt.2.points = s.points ∧ s.testHalt.2.ports = s.ports ∧
    s.testHalt.2.params = s.params ∧ s.testHalt.2.store = s.store ∧ s.testHalt.2.status = s.status ∧
    s.testHalt.2.cause = s.cause ∧ s.testHalt.2.freeCount = s.freeCount ∧ s.testHalt.2.pending = s.pending := by
  unfold State.testHalt
  (repeat' split) <;> simp

@[simp] theorem State.supplyRequest_frame (v : Option Supply) (s : State) :
    (s.supplyRequest v).2.now = s.now ∧ (s.supplyRequest v).2.powered = s.powered ∧
    (s.supplyRequest v).2.resetLow = s.resetLow ∧ (s.supplyRequest v).2.flows = s.flows ∧
    (s.supplyRequest v).2.hold = s.hold ∧ (s.supplyRequest v).2.sched = s.sched ∧
    (s.supplyRequest v).2.uplink = s.uplink ∧ (s.supplyRequest v).2.ports = s.ports ∧
    (s.supplyRequest v).2.params = s.params ∧ (s.supplyRequest v).2.store = s.store ∧
    (s.supplyRequest v).2.status = s.status ∧ (s.supplyRequest v).2.cause = s.cause ∧
    (s.supplyRequest v).2.freeCount = s.freeCount ∧ (s.supplyRequest v).2.pending = s.pending := by
  unfold State.supplyRequest
  (repeat' split) <;> simp

@[simp] theorem State.budgetSet_frame (v : Option Supply) (n : Nat) (s : State) :
    (s.budgetSet v n).2.now = s.now ∧ (s.budgetSet v n).2.powered = s.powered ∧
    (s.budgetSet v n).2.resetLow = s.resetLow ∧ (s.budgetSet v n).2.flows = s.flows ∧
    (s.budgetSet v n).2.hold = s.hold ∧ (s.budgetSet v n).2.sched = s.sched ∧ (s.budgetSet v n).2.uplink = s.uplink ∧
    (s.budgetSet v n).2.ports = s.ports ∧ (s.budgetSet v n).2.params = s.params ∧
    (s.budgetSet v n).2.store = s.store ∧ (s.budgetSet v n).2.status = s.status ∧
    (s.budgetSet v n).2.cause = s.cause ∧ (s.budgetSet v n).2.freeCount = s.freeCount ∧
    (s.budgetSet v n).2.pending = s.pending := by
  unfold State.budgetSet
  (repeat' split) <;> simp

@[simp] theorem State.pointAssign_frame (p : PointNo) (f : PointFn) (v : Polarity) (s : State) :
    (s.pointAssign p f v).2.now = s.now ∧ (s.pointAssign p f v).2.powered = s.powered ∧
    (s.pointAssign p f v).2.resetLow = s.resetLow ∧ (s.pointAssign p f v).2.flows = s.flows ∧
    (s.pointAssign p f v).2.hold = s.hold ∧ (s.pointAssign p f v).2.sched = s.sched ∧
    (s.pointAssign p f v).2.uplink = s.uplink ∧ (s.pointAssign p f v).2.ports = s.ports ∧
    (s.pointAssign p f v).2.params = s.params ∧ (s.pointAssign p f v).2.store = s.store ∧
    (s.pointAssign p f v).2.status = s.status ∧ (s.pointAssign p f v).2.cause = s.cause ∧
    (s.pointAssign p f v).2.freeCount = s.freeCount ∧ (s.pointAssign p f v).2.pending = s.pending := by
  unfold State.pointAssign
  (repeat' split) <;> simp

@[simp] theorem State.pointDrive_frame (p : PointNo) (b : Bool) (s : State) :
    (s.pointDrive p b).2.now = s.now ∧ (s.pointDrive p b).2.powered = s.powered ∧
    (s.pointDrive p b).2.resetLow = s.resetLow ∧ (s.pointDrive p b).2.lines = s.lines ∧
    (s.pointDrive p b).2.pool = s.pool ∧ (s.pointDrive p b).2.egress = s.egress ∧
    (s.pointDrive p b).2.flows = s.flows ∧ (s.pointDrive p b).2.hold = s.hold ∧
    (s.pointDrive p b).2.sched = s.sched ∧ (s.pointDrive p b).2.uplink = s.uplink ∧
    (s.pointDrive p b).2.gen = s.gen ∧ (s.pointDrive p b).2.engine = s.engine ∧
    (s.pointDrive p b).2.energy = s.energy ∧ (s.pointDrive p b).2.ports = s.ports ∧
    (s.pointDrive p b).2.notices = s.notices ∧ (s.pointDrive p b).2.params = s.params ∧
    (s.pointDrive p b).2.store = s.store ∧ (s.pointDrive p b).2.status = s.status ∧
    (s.pointDrive p b).2.cause = s.cause ∧ (s.pointDrive p b).2.freeCount = s.freeCount ∧
    (s.pointDrive p b).2.pending = s.pending := by
  unfold State.pointDrive
  (repeat' split) <;> simp

@[simp] theorem own_frame (p : PortId) (r : Req) (s : State) :
    (own p r s).2.now = s.now ∧ (own p r s).2.powered = s.powered ∧ (own p r s).2.resetLow = s.resetLow ∧
    (own p r s).2.uplink = s.uplink ∧ (own p r s).2.store = s.store ∧ (own p r s).2.status = s.status ∧
    (own p r s).2.cause = s.cause ∧ (own p r s).2.freeCount = s.freeCount ∧ (own p r s).2.pending = s.pending := by
  cases r <;> simp only [own, onLine, onPoint, onFlow] <;> (repeat' split) <;> simp [State.flowFindUp, State.flowFindDown, State.flowRead]

@[simp] theorem State.transmit_frame (p : PortId) (b : List Byte) (r : Bool) (s : State) :
    (s.transmit p b r).now = s.now ∧ (s.transmit p b r).powered = s.powered ∧
    (s.transmit p b r).resetLow = s.resetLow ∧ (s.transmit p b r).lines = s.lines ∧
    (s.transmit p b r).pool = s.pool ∧ (s.transmit p b r).egress = s.egress ∧ (s.transmit p b r).flows = s.flows ∧
    (s.transmit p b r).hold = s.hold ∧ (s.transmit p b r).sched = s.sched ∧ (s.transmit p b r).uplink = s.uplink ∧
    (s.transmit p b r).gen = s.gen ∧ (s.transmit p b r).engine = s.engine ∧ (s.transmit p b r).energy = s.energy ∧
    (s.transmit p b r).points = s.points ∧ (s.transmit p b r).notices = s.notices ∧
    (s.transmit p b r).params = s.params ∧ (s.transmit p b r).store = s.store ∧
    (s.transmit p b r).status = s.status ∧ (s.transmit p b r).cause = s.cause ∧
    (s.transmit p b r).freeCount = s.freeCount ∧ (s.transmit p b r).pending = s.pending := by
  unfold State.transmit
  dsimp only
  (repeat' split) <;> simp

@[simp] theorem State.endGroup_frame (b : Bool) (s : State) :
    (s.endGroup b).now = s.now ∧ (s.endGroup b).powered = s.powered ∧ (s.endGroup b).resetLow = s.resetLow ∧
    (s.endGroup b).lines = s.lines ∧ (s.endGroup b).pool = s.pool ∧ (s.endGroup b).egress = s.egress ∧
    (s.endGroup b).flows = s.flows ∧ (s.endGroup b).hold = s.hold ∧ (s.endGroup b).sched = s.sched ∧
    (s.endGroup b).uplink = s.uplink ∧ (s.endGroup b).gen = s.gen ∧ (s.endGroup b).engine = s.engine ∧
    (s.endGroup b).energy = s.energy ∧ (s.endGroup b).points = s.points ∧ (s.endGroup b).notices = s.notices ∧
    (s.endGroup b).params = s.params ∧ (s.endGroup b).store = s.store ∧ (s.endGroup b).status = s.status ∧
    (s.endGroup b).cause = s.cause ∧ (s.endGroup b).freeCount = s.freeCount ∧ (s.endGroup b).pending = s.pending := by
  unfold State.endGroup
  (repeat' split) <;> simp

@[simp] theorem State.answer_frame (h : Header) (k : Byte) (r : Reply) (s : State) :
    (s.answer h k r).now = s.now ∧ (s.answer h k r).powered = s.powered ∧ (s.answer h k r).resetLow = s.resetLow ∧
    (s.answer h k r).lines = s.lines ∧ (s.answer h k r).pool = s.pool ∧ (s.answer h k r).egress = s.egress ∧
    (s.answer h k r).flows = s.flows ∧ (s.answer h k r).hold = s.hold ∧ (s.answer h k r).sched = s.sched ∧
    (s.answer h k r).uplink = s.uplink ∧ (s.answer h k r).gen = s.gen ∧ (s.answer h k r).engine = s.engine ∧
    (s.answer h k r).energy = s.energy ∧ (s.answer h k r).points = s.points ∧ (s.answer h k r).notices = s.notices ∧
    (s.answer h k r).params = s.params ∧ (s.answer h k r).store = s.store ∧ (s.answer h k r).status = s.status ∧
    (s.answer h k r).cause = s.cause ∧ (s.answer h k r).freeCount = s.freeCount ∧ (s.answer h k r).pending = s.pending := by
  unfold State.answer
  (repeat' split) <;> simp

@[simp] theorem subRun_frame (p : PortId) (r : RawSub) (s : State) :
    (subRun p r s).2.now = s.now ∧ (subRun p r s).2.powered = s.powered ∧ (subRun p r s).2.resetLow = s.resetLow ∧
    (subRun p r s).2.uplink = s.uplink ∧ (subRun p r s).2.store = s.store ∧ (subRun p r s).2.status = s.status ∧
    (subRun p r s).2.cause = s.cause ∧ (subRun p r s).2.freeCount = s.freeCount ∧ (subRun p r s).2.pending = s.pending := by
  unfold subRun
  (repeat' split) <;> simp

@[simp] theorem State.startWith_frame (st : Settings) (v : SettingsStatus) (c : StartCause) (s : State) :
    (s.startWith st v c).now = s.now ∧ (s.startWith st v c).powered = s.powered ∧
    (s.startWith st v c).resetLow = s.resetLow ∧ (s.startWith st v c).store = s.store ∧
    (s.startWith st v c).freeCount = s.freeCount ∧ (s.startWith st v c).pending = s.pending := by
  unfold State.startWith
  dsimp only
  simp

@[simp] theorem State.startSurgeNotice_frame (s : State) :
    s.startSurgeNotice.now = s.now ∧ s.startSurgeNotice.powered = s.powered ∧
    s.startSurgeNotice.resetLow = s.resetLow ∧ s.startSurgeNotice.lines = s.lines ∧
    s.startSurgeNotice.pool = s.pool ∧ s.startSurgeNotice.egress = s.egress ∧ s.startSurgeNotice.flows = s.flows ∧
    s.startSurgeNotice.hold = s.hold ∧ s.startSurgeNotice.sched = s.sched ∧ s.startSurgeNotice.uplink = s.uplink ∧
    s.startSurgeNotice.gen = s.gen ∧ s.startSurgeNotice.engine = s.engine ∧ s.startSurgeNotice.energy = s.energy ∧
    s.startSurgeNotice.points = s.points ∧ s.startSurgeNotice.ports = s.ports ∧
    s.startSurgeNotice.params = s.params ∧ s.startSurgeNotice.store = s.store ∧
    s.startSurgeNotice.status = s.status ∧ s.startSurgeNotice.cause = s.cause ∧
    s.startSurgeNotice.freeCount = s.freeCount ∧ s.startSurgeNotice.pending = s.pending := by
  unfold State.startSurgeNotice
  (repeat' split) <;> simp

@[simp] theorem State.stopWrite_frame (s : State) :
    s.stopWrite.now = s.now ∧ s.stopWrite.powered = s.powered ∧ s.stopWrite.resetLow = s.resetLow ∧
    s.stopWrite.lines = s.lines ∧ s.stopWrite.pool = s.pool ∧ s.stopWrite.egress = s.egress ∧
    s.stopWrite.flows = s.flows ∧ s.stopWrite.hold = s.hold ∧ s.stopWrite.sched = s.sched ∧
    s.stopWrite.uplink = s.uplink ∧ s.stopWrite.gen = s.gen ∧ s.stopWrite.engine = s.engine ∧
    s.stopWrite.energy = s.energy ∧ s.stopWrite.points = s.points ∧ s.stopWrite.ports = s.ports ∧
    s.stopWrite.notices = s.notices ∧ s.stopWrite.params = s.params ∧ s.stopWrite.status = s.status ∧
    s.stopWrite.cause = s.cause ∧ s.stopWrite.pending = s.pending := by
  unfold State.stopWrite
  (repeat' split) <;> simp

@[simp] theorem State.start_frame (c : StartCause) (s : State) :
    (s.start c).now = s.now ∧ (s.start c).powered = s.powered ∧ (s.start c).resetLow = s.resetLow ∧
    (s.start c).pending = s.pending := by
  unfold State.start
  dsimp only
  (repeat' split) <;> simp

@[simp] theorem State.halt_frame (s : State) :
    s.halt.now = s.now ∧ s.halt.powered = s.powered ∧ s.halt.resetLow = s.resetLow ∧ s.halt.lines = s.lines ∧
    s.halt.pool = s.pool ∧ s.halt.egress = s.egress ∧ s.halt.flows = s.flows ∧ s.halt.hold = s.hold ∧
    s.halt.sched = s.sched ∧ s.halt.uplink = s.uplink ∧ s.halt.gen = s.gen ∧ s.halt.engine = s.engine ∧
    s.halt.energy = s.energy ∧ s.halt.points = s.points ∧ s.halt.notices = s.notices ∧ s.halt.params = s.params ∧
    s.halt.status = s.status ∧ s.halt.cause = s.cause ∧ s.halt.pending = s.pending := by
  unfold State.halt
  dsimp only
  simp

@[simp] theorem batchGo_frame (p : PortId) (tag : Byte) (n : Nat) (subs : List RawSub) (done : List Byte) (s : State) :
    (batchGo p tag n subs done s).now = s.now ∧ (batchGo p tag n subs done s).powered = s.powered ∧
    (batchGo p tag n subs done s).resetLow = s.resetLow ∧ (batchGo p tag n subs done s).uplink = s.uplink ∧
    (batchGo p tag n subs done s).store = s.store ∧ (batchGo p tag n subs done s).status = s.status ∧
    (batchGo p tag n subs done s).cause = s.cause ∧ (batchGo p tag n subs done s).freeCount = s.freeCount ∧
    (batchGo p tag n subs done s).pending = s.pending := by
  induction n generalizing subs done s with
  | zero => cases subs <;> simp [batchGo]
  | succ n ih =>
    cases subs with
    | nil => simp [batchGo]
    | cons sub rest =>
      unfold batchGo
      dsimp only
      split <;> simp [ih]

@[simp] theorem State.batchOn_frame (p : PortId) (n : Nat) (s : State) :
    (s.batchOn p n).now = s.now ∧ (s.batchOn p n).powered = s.powered ∧ (s.batchOn p n).resetLow = s.resetLow ∧
    (s.batchOn p n).uplink = s.uplink ∧ (s.batchOn p n).store = s.store ∧ (s.batchOn p n).status = s.status ∧
    (s.batchOn p n).cause = s.cause ∧ (s.batchOn p n).freeCount = s.freeCount ∧ (s.batchOn p n).pending = s.pending := by
  unfold State.batchOn
  (repeat' split) <;> simp

@[simp] theorem State.beginSave_frame (p : PortId) (tag : Byte) (s : State) :
    (s.beginSave p tag).now = s.now ∧ (s.beginSave p tag).powered = s.powered ∧
    (s.beginSave p tag).resetLow = s.resetLow ∧ (s.beginSave p tag).lines = s.lines ∧
    (s.beginSave p tag).pool = s.pool ∧ (s.beginSave p tag).egress = s.egress ∧ (s.beginSave p tag).flows = s.flows ∧
    (s.beginSave p tag).hold = s.hold ∧ (s.beginSave p tag).sched = s.sched ∧ (s.beginSave p tag).uplink = s.uplink ∧
    (s.beginSave p tag).gen = s.gen ∧ (s.beginSave p tag).engine = s.engine ∧ (s.beginSave p tag).energy = s.energy ∧
    (s.beginSave p tag).points = s.points ∧ (s.beginSave p tag).notices = s.notices ∧
    (s.beginSave p tag).params = s.params ∧ (s.beginSave p tag).status = s.status ∧
    (s.beginSave p tag).cause = s.cause ∧ (s.beginSave p tag).freeCount = s.freeCount ∧
    (s.beginSave p tag).pending = s.pending := by
  simp [State.beginSave]

@[simp] theorem State.beginRestart_frame (h : Header) (s : State) :
    (s.beginRestart h).now = s.now ∧ (s.beginRestart h).powered = s.powered ∧
    (s.beginRestart h).resetLow = s.resetLow ∧ (s.beginRestart h).pending = s.pending := by
  unfold State.beginRestart
  (repeat' split) <;> simp

@[simp] theorem State.perform_frame (h : Header) (r : Req) (n : Nat) (s : State) :
    (s.perform h r n).now = s.now ∧ (s.perform h r n).powered = s.powered ∧ (s.perform h r n).resetLow = s.resetLow ∧
    (s.perform h r n).pending = s.pending := by
  unfold State.perform
  (repeat' split) <;> simp

@[simp] theorem State.judge_frame (h : Header) (k : Byte) (q : Parsed) (n : Nat) (s : State) :
    (s.judge h k q n).now = s.now ∧ (s.judge h k q n).powered = s.powered ∧ (s.judge h k q n).resetLow = s.resetLow ∧
    (s.judge h k q n).pending = s.pending := by
  unfold State.judge
  (repeat' split) <;> simp

@[simp] theorem State.dispatch_frame (h : Header) (k : Byte) (q : Parsed) (n : Nat) (s : State) :
    (s.dispatch h k q n).now = s.now ∧ (s.dispatch h k q n).powered = s.powered ∧
    (s.dispatch h k q n).resetLow = s.resetLow ∧ (s.dispatch h k q n).pending = s.pending := by
  unfold State.dispatch
  (repeat' split) <;> simp

@[simp] theorem State.message_frame (h : Header) (k : Byte) (q : Parsed) (n : Nat) (s : State) :
    (s.message h k q n).now = s.now ∧ (s.message h k q n).powered = s.powered ∧
    (s.message h k q n).resetLow = s.resetLow ∧ (s.message h k q n).pending = s.pending := by
  unfold State.message
  (repeat' split) <;> simp

@[simp] theorem State.takeAddress_frame (p : PortId) (d : Byte) (s : State) :
    (s.takeAddress p d).now = s.now ∧ (s.takeAddress p d).powered = s.powered ∧
    (s.takeAddress p d).resetLow = s.resetLow ∧ (s.takeAddress p d).lines = s.lines ∧
    (s.takeAddress p d).pool = s.pool ∧ (s.takeAddress p d).egress = s.egress ∧ (s.takeAddress p d).flows = s.flows ∧
    (s.takeAddress p d).hold = s.hold ∧ (s.takeAddress p d).sched = s.sched ∧ (s.takeAddress p d).uplink = s.uplink ∧
    (s.takeAddress p d).gen = s.gen ∧ (s.takeAddress p d).engine = s.engine ∧ (s.takeAddress p d).energy = s.energy ∧
    (s.takeAddress p d).points = s.points ∧ (s.takeAddress p d).notices = s.notices ∧
    (s.takeAddress p d).params = s.params ∧ (s.takeAddress p d).store = s.store ∧
    (s.takeAddress p d).status = s.status ∧ (s.takeAddress p d).cause = s.cause ∧
    (s.takeAddress p d).freeCount = s.freeCount ∧ (s.takeAddress p d).pending = s.pending := by
  unfold State.takeAddress
  dsimp only
  (repeat' split) <;> simp

@[simp] theorem State.complete_frame (p : PortId) (m : Partial) (s : State) :
    (s.complete p m).now = s.now ∧ (s.complete p m).powered = s.powered ∧ (s.complete p m).resetLow = s.resetLow ∧
    (s.complete p m).pending = s.pending := by
  unfold State.complete
  (repeat' split) <;> simp

@[simp] theorem State.takeInto_frame (p : PortId) (m : Partial) (d : Byte) (b : Bool) (s : State) :
    (s.takeInto p m d b).now = s.now ∧ (s.takeInto p m d b).powered = s.powered ∧
    (s.takeInto p m d b).resetLow = s.resetLow ∧ (s.takeInto p m d b).pending = s.pending := by
  unfold State.takeInto
  dsimp only
  (repeat' split) <;> simp

@[simp] theorem State.takeBody_frame (p : PortId) (d : Byte) (b : Bool) (s : State) :
    (s.takeBody p d b).now = s.now ∧ (s.takeBody p d b).powered = s.powered ∧
    (s.takeBody p d b).resetLow = s.resetLow ∧ (s.takeBody p d b).pending = s.pending := by
  unfold State.takeBody
  (repeat' split) <;> simp

@[simp] theorem State.takeChar_frame (p : PortId) (c : SerialChar) (s : State) :
    (s.takeChar p c).now = s.now ∧ (s.takeChar p c).powered = s.powered ∧ (s.takeChar p c).resetLow = s.resetLow ∧
    (s.takeChar p c).pending = s.pending := by
  unfold State.takeChar
  (repeat' split) <;> simp

@[simp] theorem State.takeBreak_frame (p : PortId) (s : State) :
    (s.takeBreak p).now = s.now ∧ (s.takeBreak p).powered = s.powered ∧ (s.takeBreak p).resetLow = s.resetLow ∧
    (s.takeBreak p).lines = s.lines ∧ (s.takeBreak p).pool = s.pool ∧ (s.takeBreak p).egress = s.egress ∧
    (s.takeBreak p).flows = s.flows ∧ (s.takeBreak p).hold = s.hold ∧ (s.takeBreak p).sched = s.sched ∧
    (s.takeBreak p).uplink = s.uplink ∧ (s.takeBreak p).gen = s.gen ∧ (s.takeBreak p).engine = s.engine ∧
    (s.takeBreak p).energy = s.energy ∧ (s.takeBreak p).points = s.points ∧ (s.takeBreak p).notices = s.notices ∧
    (s.takeBreak p).params = s.params ∧ (s.takeBreak p).store = s.store ∧ (s.takeBreak p).status = s.status ∧
    (s.takeBreak p).cause = s.cause ∧ (s.takeBreak p).freeCount = s.freeCount ∧ (s.takeBreak p).pending = s.pending := by
  unfold State.takeBreak
  (repeat' split) <;> simp

@[simp] theorem State.charTimeout_frame (p : PortId) (s : State) :
    (s.charTimeout p).now = s.now ∧ (s.charTimeout p).powered = s.powered ∧ (s.charTimeout p).resetLow = s.resetLow ∧
    (s.charTimeout p).lines = s.lines ∧ (s.charTimeout p).pool = s.pool ∧ (s.charTimeout p).egress = s.egress ∧
    (s.charTimeout p).flows = s.flows ∧ (s.charTimeout p).hold = s.hold ∧ (s.charTimeout p).sched = s.sched ∧
    (s.charTimeout p).uplink = s.uplink ∧ (s.charTimeout p).gen = s.gen ∧ (s.charTimeout p).engine = s.engine ∧
    (s.charTimeout p).energy = s.energy ∧ (s.charTimeout p).points = s.points ∧
    (s.charTimeout p).notices = s.notices ∧ (s.charTimeout p).params = s.params ∧ (s.charTimeout p).store = s.store ∧
    (s.charTimeout p).status = s.status ∧ (s.charTimeout p).cause = s.cause ∧
    (s.charTimeout p).freeCount = s.freeCount ∧ (s.charTimeout p).pending = s.pending := by
  unfold State.charTimeout
  (repeat' split) <;> simp

@[simp] theorem State.replyEnds_frame (p : PortId) (s : State) :
    (s.replyEnds p).now = s.now ∧ (s.replyEnds p).powered = s.powered ∧ (s.replyEnds p).resetLow = s.resetLow ∧
    (s.replyEnds p).pending = s.pending := by
  unfold State.replyEnds
  (repeat' split) <;> simp

@[simp] theorem State.writeEnds_frame (h : Option (List Half)) (s : State) :
    (s.writeEnds h).now = s.now ∧ (s.writeEnds h).powered = s.powered ∧ (s.writeEnds h).resetLow = s.resetLow ∧
    (s.writeEnds h).lines = s.lines ∧ (s.writeEnds h).pool = s.pool ∧ (s.writeEnds h).egress = s.egress ∧
    (s.writeEnds h).flows = s.flows ∧ (s.writeEnds h).hold = s.hold ∧ (s.writeEnds h).sched = s.sched ∧
    (s.writeEnds h).uplink = s.uplink ∧ (s.writeEnds h).gen = s.gen ∧ (s.writeEnds h).engine = s.engine ∧
    (s.writeEnds h).energy = s.energy ∧ (s.writeEnds h).points = s.points ∧ (s.writeEnds h).notices = s.notices ∧
    (s.writeEnds h).params = s.params ∧ (s.writeEnds h).cause = s.cause ∧ (s.writeEnds h).freeCount = s.freeCount ∧
    (s.writeEnds h).pending = s.pending := by
  unfold State.writeEnds
  dsimp only
  (repeat' split) <;> simp

end Sys2Proof.Machine
end

