-- ==== Sys2Proof/Laws/Energy.lean ====
section
/-! SUPPORT. What a change of a line's state does to the line records and to committed consumption (R4, R35, R148): the
facts that the passes, the requests and the laws of the energy account rest on. -/

namespace Sys2Proof.Machine

/-! ### Line records under the updates of a move -/

/-- A notice does not touch the line records. -/
theorem State.line_notify (n : Notice) (k : LineNo) (s : State) : (s.notify n).line k = s.line k :=
  State.line_congr (by simp) k

/-- A drop counted downstream keeps a line's state, profile and fail count. -/
theorem State.dropDown_kept (l k : LineNo) (r : DropReason) (s : State) :
    ((s.dropDown l r).line k).state = (s.line k).state ∧ ((s.dropDown l r).line k).profile = (s.line k).profile ∧
    ((s.dropDown l r).line k).failCount = (s.line k).failCount := by
  simp only [State.dropDown, State.line_setLine]
  split <;> simp_all

/-- Emptying an egress queue keeps every line's state, profile and fail count. -/
theorem State.emptyEgress_kept (l k : LineNo) (s : State) :
    ((s.emptyEgress l).line k).state = (s.line k).state ∧ ((s.emptyEgress l).line k).profile = (s.line k).profile ∧
    ((s.emptyEgress l).line k).failCount = (s.line k).failCount := by
  have step : ∀ (ids : List Nat) (u : State),
      (((ids.foldl (fun v id => (v.giveUp id).dropDown l .notInService) u).line k).state = (u.line k).state) ∧
      (((ids.foldl (fun v id => (v.giveUp id).dropDown l .notInService) u).line k).profile = (u.line k).profile) ∧
      (((ids.foldl (fun v id => (v.giveUp id).dropDown l .notInService) u).line k).failCount =
        (u.line k).failCount) := by
    intro ids
    induction ids with
    | nil => intro u; exact ⟨rfl, rfl, rfl⟩
    | cons id ids ih =>
      intro u
      obtain ⟨h1, h2, h3⟩ := ih ((u.giveUp id).dropDown l .notInService)
      obtain ⟨g1, g2, g3⟩ := State.dropDown_kept l k .notInService (u.giveUp id)
      exact ⟨h1.trans g1, h2.trans g2, h3.trans g3⟩
  exact step s.egress[l] s

/-- A move of line l (R4): its state is the new one; every profile and fail count, and every other state, stays. -/
theorem State.moveLine_kept (l k : LineNo) (st : LineState) (c : LineCause) (s : State) :
    ((s.moveLine l st c).line k).state = (if k = l then st else (s.line k).state) ∧
    ((s.moveLine l st c).line k).profile = (s.line k).profile ∧
    ((s.moveLine l st c).line k).failCount = (s.line k).failCount := by
  have base : ∀ u : State, u = (s.setLineState l st).notify (.line l st.kind c) →
      (u.line k).state = (if k = l then st else (s.line k).state) ∧ (u.line k).profile = (s.line k).profile ∧
      (u.line k).failCount = (s.line k).failCount := by
    rintro u rfl
    rw [State.line_notify, State.line_setLineState]
    split <;> simp_all
  unfold State.moveLine
  split
  · obtain ⟨h1, h2, h3⟩ := State.emptyEgress_kept l k ((s.setLineState l st).notify (.line l st.kind c))
    obtain ⟨g1, g2, g3⟩ := base _ rfl
    exact ⟨h1.trans g1, h2.trans g2, h3.trans g3⟩
  · exact base _ rfl

/-! ### Committed consumption (R148) -/

/-- The line part is the sum over the 24 lines of what each commits. -/
theorem State.linePart_sum (s : State) :
    s.linePart = ∑ l : LineNo, if (s.line l).state.counted then (s.line l).profile.cost else 0 := by
  rw [State.linePart, allLines, Fin.sum_univ_def]

/-- The line part depends on the states and profiles of the lines alone. -/
theorem State.linePart_congr {s u : State}
    (h : ∀ l, (u.line l).state = (s.line l).state ∧ (u.line l).profile = (s.line l).profile) :
    u.linePart = s.linePart := by
  simp only [State.linePart_sum, h]

/-- When line l alone takes a new state, the line part changes by what it committed and what it commits. -/
theorem State.linePart_moved {s u : State} {l : LineNo} {st : LineState}
    (h : ∀ k, (u.line k).state = (if k = l then st else (s.line k).state) ∧
      (u.line k).profile = (s.line k).profile) :
    u.linePart + (if (s.line l).state.counted then (s.line l).profile.cost else 0) =
      s.linePart + if st.counted then (s.line l).profile.cost else 0 := by
  have split1 : ∀ v : State, v.linePart = (if (v.line l).state.counted then (v.line l).profile.cost else 0) +
      ∑ k ∈ Finset.univ.erase l, if (v.line k).state.counted then (v.line k).profile.cost else 0 := fun v => by
    rw [State.linePart_sum]
    exact (Finset.add_sum_erase Finset.univ
      (fun k => if (v.line k).state.counted then (v.line k).profile.cost else 0) (Finset.mem_univ l)).symm
  have rest : (∑ k ∈ Finset.univ.erase l, if (u.line k).state.counted then (u.line k).profile.cost else 0) =
      ∑ k ∈ Finset.univ.erase l, if (s.line k).state.counted then (s.line k).profile.cost else 0 := by
    refine Finset.sum_congr rfl fun k hk => ?_
    rw [(h k).1, (h k).2, if_neg (Finset.ne_of_mem_erase hk)]
  rw [split1 u, split1 s, rest, (h l).1, (h l).2, if_pos rfl]
  omega

/-- The other two parts do not depend on the lines. -/
theorem State.committed_moveLine (l : LineNo) (st : LineState) (c : LineCause) (s : State) :
    (s.moveLine l st c).committed + (if (s.line l).state.counted then (s.line l).profile.cost else 0) =
      s.committed + if st.counted then (s.line l).profile.cost else 0 := by
  have h := State.linePart_moved (s := s) (u := s.moveLine l st c) (l := l) (st := st)
    (fun k => ⟨(State.moveLine_kept l k st c s).1, (State.moveLine_kept l k st c s).2.1⟩)
  have he : (s.moveLine l st c).enginePart = s.enginePart := by simp [State.enginePart]
  have hc : (s.moveLine l st c).capPart = s.capPart := by simp [State.capPart]
  simp only [State.committed, he, hc]
  omega

/-- The budget in force depends on the supply state and the budget table alone (R143). -/
theorem State.budget_congr {s u : State} (h : u.energy.supply = s.energy.supply)
    (hb : u.energy.budgets = s.energy.budgets) : u.budget = s.budget := by
  simp only [State.budget, h, hb]

theorem State.budget_moveLine (l : LineNo) (st : LineState) (c : LineCause) (s : State) :
    (s.moveLine l st c).budget = s.budget := State.budget_congr (by simp) (by simp)

/-- Committed consumption depends on the lines' states and profiles, the current order and the cap class alone. -/
theorem State.committed_congr {s u : State}
    (h : ∀ l, (u.line l).state = (s.line l).state ∧ (u.line l).profile = (s.line l).profile)
    (he : u.engine.current.isSome = s.engine.current.isSome) (hc : u.energy.cap = s.energy.cap) :
    u.committed = s.committed := by
  simp only [State.committed, State.linePart_congr h, State.enginePart, he, State.capPart, hc]

/-! ### What the passes and the engine's attempt leave of the energy manager's record (R143, R150, R152) -/

/-- Supply state, source and budget table of one machine are those of another. -/
def SameSupply (u s : State) : Prop :=
  u.energy.supply = s.energy.supply ∧ u.energy.source = s.energy.source ∧ u.energy.budgets = s.energy.budgets

theorem SameSupply.of_energy {u s : State} (h : u.energy = s.energy) : SameSupply u s := by
  simp [SameSupply, h]

theorem SameSupply.trans {u v s : State} (h : SameSupply u v) (g : SameSupply v s) : SameSupply u s :=
  ⟨h.1.trans g.1, h.2.1.trans g.2.1, h.2.2.trans g.2.2⟩

theorem State.shedLine_supply (l : LineNo) (s : State) : SameSupply (s.shedLine l) s := by
  simp [SameSupply, State.shedLine, State.setShed]

theorem State.shedLoop_supply (n : Nat) : ∀ s : State, SameSupply (s.shedLoop n) s := by
  induction n with
  | zero => intro s; exact SameSupply.of_energy rfl
  | succ n ih =>
    intro s
    rw [State.shedLoop]
    split
    · exact SameSupply.of_energy rfl
    · split
      · exact (ih _).trans ⟨rfl, rfl, rfl⟩
      · split
        · exact (ih _).trans (State.shedLine_supply _ s)
        · exact SameSupply.of_energy (by simp)

theorem State.restoreLine_supply (l : LineNo) (rest : List LineNo) (s : State) :
    SameSupply (s.restoreLine l rest) s := by
  simp [SameSupply, State.restoreLine, State.setShed]

theorem State.restoreLoop_supply (n : Nat) : ∀ s : State, SameSupply (s.restoreLoop n) s := by
  induction n with
  | zero => intro s; exact SameSupply.of_energy rfl
  | succ n ih =>
    intro s
    rw [State.restoreLoop]
    split
    · exact SameSupply.of_energy rfl
    · split
      · exact (ih _).trans (State.restoreLine_supply _ _ s)
      · exact SameSupply.of_energy rfl

theorem State.raiseLoop_supply (n : Nat) : ∀ s : State, SameSupply (s.raiseLoop n) s := by
  induction n with
  | zero => intro s; exact SameSupply.of_energy rfl
  | succ n ih =>
    intro s
    rw [State.raiseLoop]
    split
    · exact (ih _).trans ⟨rfl, rfl, rfl⟩
    · exact SameSupply.of_energy rfl

theorem State.sheddingPass_supply (s : State) : SameSupply s.sheddingPass s := State.shedLoop_supply 28 s

theorem State.restoringPass_supply (s : State) : SameSupply s.restoringPass s :=
  (State.raiseLoop_supply 3 _).trans (State.restoreLoop_supply _ s)

theorem State.passFor_supply (before after : Nat) (s : State) : SameSupply (s.passFor before after) s := by
  unfold State.passFor
  (repeat' split) <;>
    first
      | exact State.sheddingPass_supply s
      | exact State.restoringPass_supply s
      | exact SameSupply.of_energy rfl

theorem State.acquire_supply (o : TestOrder) (target : Target) (s : State) : SameSupply (s.acquire o target) s := by
  refine (State.passFor_supply _ _ _).trans ?_
  simp [SameSupply, State.withdraw, State.setShed]

theorem State.attemptLoop_supply (n : Nat) : ∀ s : State, SameSupply (s.attemptLoop n) s := by
  induction n with
  | zero => intro s; exact SameSupply.of_energy rfl
  | succ n ih =>
    intro s
    rw [State.attemptLoop]
    (repeat' split) <;>
      first
        | exact SameSupply.of_energy rfl
        | exact State.acquire_supply _ _ s
        | exact (ih _).trans (SameSupply.of_energy (by simp))

/-- The engine's attempt keeps the supply state, its source and the budget table (R109, R110). -/
theorem State.attempt_supply (s : State) : SameSupply s.attempt s := State.attemptLoop_supply _ s

/-- The shedding pass does nothing within the budget (R150). -/
theorem State.sheddingPass_within {s : State} (h : s.committed ≤ s.budget) : s.sheddingPass = s := by
  simp [State.sheddingPass, State.shedLoop, h]

end Sys2Proof.Machine
end

