-- ==== Sys2Proof/Laws/Requests.lean ====
section
/-! SUPPORT. The course of a request on a READY port, once for all kinds: from the completed message to the owning
block, and from its reply to the port's new job. A proof about one request cites request_answers and then speaks of the
owning block's operation alone. -/

namespace Sys2Proof.Machine

/-! ### Ports -/

/-- Setting a port reads back on that port, and on no other. -/
theorem State.port_setPort (p q : PortId) (f : PortRec → PortRec) (s : State) :
    (s.setPort p f).port q = if p = q then f (s.port q) else s.port q := by
  cases p <;> cases q <;> rfl

theorem State.port_setJob (p q : PortId) (j : Option Job) (s : State) :
    (s.setJob p j).port q = if p = q then { s.port q with job := j } else s.port q :=
  State.port_setPort p q _ s

theorem State.port_setRecv (p q : PortId) (v : Recv) (s : State) :
    (s.setRecv p v).port q = if p = q then { s.port q with recv := v } else s.port q :=
  State.port_setPort p q _ s

/-- Of two jobs set on one port, the later stands. -/
theorem State.setJob_setJob (p : PortId) (i j : Option Job) (s : State) :
    (s.setJob p i).setJob p j = s.setJob p j := by
  cases p <;> rfl

/-- The main link's receive state is what a port record says. -/
theorem State.port_main (s : State) : s.port .main = s.ports.main := rfl

/-! ### What the dispatcher reads is not moved by handing a message over -/

/-- A message handed over: the fields it leaves alone, and the time. -/
@[simp] theorem State.taken_frame (t : Nat) (p : PortId) (s : State) :
    (s.taken t p).powered = s.powered ∧
    (s.taken t p).resetLow = s.resetLow ∧
    (s.taken t p).lines = s.lines ∧
    (s.taken t p).pool = s.pool ∧
    (s.taken t p).egress = s.egress ∧
    (s.taken t p).flows = s.flows ∧
    (s.taken t p).hold = s.hold ∧
    (s.taken t p).sched = s.sched ∧
    (s.taken t p).uplink = s.uplink ∧
    (s.taken t p).gen = s.gen ∧
    (s.taken t p).engine = s.engine ∧
    (s.taken t p).energy = s.energy ∧
    (s.taken t p).points = s.points ∧
    (s.taken t p).notices = s.notices ∧
    (s.taken t p).params = s.params ∧
    (s.taken t p).store = s.store ∧
    (s.taken t p).status = s.status ∧
    (s.taken t p).cause = s.cause ∧
    (s.taken t p).freeCount = s.freeCount ∧
    (s.taken t p).pending = s.pending := by
  cases p <;> exact ⟨rfl, rfl, rfl, rfl, rfl, rfl, rfl, rfl, rfl, rfl, rfl, rfl, rfl, rfl, rfl, rfl, rfl, rfl, rfl, rfl⟩

@[simp] theorem State.taken_now (t : Nat) (p : PortId) (s : State) : (s.taken t p).now = max s.now t := by
  cases p <;> rfl

/-- A line record, committed consumption and the budget are read from fields that handing over leaves alone. -/
theorem State.taken_line (t : Nat) (p : PortId) (l : LineNo) (s : State) : (s.taken t p).line l = s.line l :=
  State.line_congr (by simp) l

theorem State.taken_points (t : Nat) (p : PortId) (s : State) : (s.taken t p).points = s.points := by
  simp

theorem State.doorOpen_congr {s u : State} (h : u.points = s.points) : u.doorOpen = s.doorOpen := by
  simp only [State.doorOpen, State.fnActive, State.holder, State.point_congr h]

theorem State.taken_doorOpen (t : Nat) (p : PortId) (s : State) : (s.taken t p).doorOpen = s.doorOpen :=
  State.doorOpen_congr (State.taken_points t p s)

theorem plainHeader_direct {h : Header} (hd : Direct h) : plainHeader h = h := by
  obtain ⟨p, g, tag⟩ := h
  simp only [Direct] at hd
  subst hd
  rfl

/-! ### From the message to the owning block -/

/-- A READY port of a running part receives. -/
theorem State.receiving_of_ready {p : PortId} {s : State} (hr : Ready p s) : s.receiving p = true := by
  obtain ⟨h1, h2⟩ := hr
  simp only [State.receiving, h1, State.transmitting, h2]
  cases p <;> rfl

theorem State.ready_advance {p : PortId} {s : State} (t : Nat) (hr : Ready p s) : Ready p (s.advance t) := by
  obtain ⟨h1, h2⟩ := hr
  exact ⟨by simpa [State.running] using h1, by cases p <;> exact h2⟩

/-- A good message on a READY port is judged by the dispatcher. -/
theorem State.message_ready {h : Header} {s : State} (t : Nat) (hr : Ready h.port s) (hd : Direct h) (kind : Byte)
    (req : Parsed) (n : Nat) :
    (s.advance t).message h kind req n = (s.taken t h.port).judge h kind req n := by
  have hr' := State.ready_advance t hr
  have hx : ((s.advance t).setRecv h.port .hunt).executing h.port = false := by
    simp only [State.executing, State.port_setRecv, hr'.2]
    rfl
  simp only [State.message, State.receiving_of_ready hr', if_true, plainHeader_direct hd, State.dispatch, hx, State.taken]
  rfl

/-- A request past the dispatcher's checks is carried out. -/
theorem State.judge_perform {h : Header} {r : Req} {s : State} (hd : Direct h)
    (hp : permitted h.port s.doorOpen r = true) (hf : fieldsOk r = true) (kind : Byte) (n : Nat) :
    s.judge h kind (.req r) n = s.perform h r n := by
  simp only [Direct] at hd
  simp [State.judge, hd, hp, hf]

/-- With the main link in no partial message, a reply simply becomes the port's job. -/
theorem State.transmit_of_hunt {p : PortId} {s : State} (hm : p = .main → s.ports.main.recv = .hunt)
    (body : List Byte) (restart : Bool) :
    s.transmit p body restart = s.setJob p (some (.sending body restart)) := by
  cases p with
  | main =>
    have : (s.setJob .main (some (.sending body restart))).ports.main.recv = .hunt := hm rfl
    simp only [State.transmit, this]
  | craft => rfl

theorem State.answer_direct {h : Header} {s : State} (hd : Direct h) (hm : h.port = .main → s.ports.main.recv = .hunt)
    (kind : Byte) (r : Reply) : s.answer h kind r = s.answers h kind r.status r.payload := by
  simp only [Direct] at hd
  simp only [State.answer, hd, State.transmit_of_hunt hm, State.answers]
  rfl

/-- The receive states are not an owning block's matter. -/
theorem own_recv (p : PortId) (r : Req) (s : State) : (own p r s).2.ports.main.recv = s.ports.main.recv := by
  cases r <;> simp only [own, onLine, onPoint, onFlow] <;> (repeat' split) <;>
    simp [State.flowFindUp, State.flowFindDown, State.flowRead, State.statusRequest, State.clearStatus] <;>
    split <;> rfl

theorem State.taken_recv (t : Nat) (p : PortId) (s : State) : p = .main → (s.taken t p).ports.main.recv = .hunt := by
  rintro rfl
  rfl

/-- A request that the dispatcher refuses DENIED (R178 check 4, R179). -/
theorem State.request_denied {h : Header} {r : Req} {s : State} (t : Nat) (hr : Ready h.port s) (hd : Direct h)
    (hp : permitted h.port s.doorOpen r = false) :
    s.request t h r = (s.taken t h.port).answers h (reqKind r) .denied [] := by
  have hd' := hd
  simp only [Direct] at hd'
  rw [State.request, State.message_ready t hr hd, State.judge]
  simp only [hd', Bool.false_and, State.taken_doorOpen, hp]
  exact State.answer_direct hd (State.taken_recv t h.port s) _ _

/-- A request that the dispatcher refuses RANGE (R178 check 5). -/
theorem State.request_range {h : Header} {r : Req} {s : State} (t : Nat) (hr : Ready h.port s) (hd : Direct h)
    (hp : permitted h.port s.doorOpen r = true) (hf : fieldsOk r = false) :
    s.request t h r = (s.taken t h.port).answers h (reqKind r) .range [] := by
  have hd' := hd
  simp only [Direct] at hd'
  rw [State.request, State.message_ready t hr hd, State.judge]
  simp only [hd', Bool.false_and, State.taken_doorOpen, hp, hf]
  exact State.answer_direct hd (State.taken_recv t h.port s) _ _

/-- A request kind that is answered within its own event by its owning block. -/
def answeredAtOnce : Req → Bool
  | .saveSettings | .restart | .batch _ => false
  | _ => true

/-- A request past the dispatcher's checks on a READY port: its owning block acts on the machine with the message
handed over, and the block's reply goes out on the port. -/
theorem State.request_answers {h : Header} {r : Req} {s : State} (t : Nat) (hr : Ready h.port s) (hd : Direct h)
    (hp : permitted h.port s.doorOpen r = true) (hf : fieldsOk r = true) (hk : answeredAtOnce r = true) :
    s.request t h r =
      (own h.port r (s.taken t h.port)).2.answers h (reqKind r) (own h.port r (s.taken t h.port)).1.status
        (own h.port r (s.taken t h.port)).1.payload := by
  rw [State.request, State.message_ready t hr hd,
    State.judge_perform hd (by rw [State.taken_doorOpen]; exact hp) hf]
  have key : (s.taken t h.port).perform h r 0 =
      (own h.port r (s.taken t h.port)).2.answer h (reqKind r) (own h.port r (s.taken t h.port)).1 := by
    cases r <;> first | rfl | simp [answeredAtOnce] at hk
  rw [key]
  exact State.answer_direct hd (fun e => by rw [own_recv]; exact State.taken_recv t h.port s e) _ _

/-! ### From a command to its request or event -/

/-- A request row is its request taken at its time. -/
theorem exec_request {c : Instr} {h : Header} {r : Req} (hc : requestOf c = some (h, r)) (s : State) :
    exec c s = .next (s.request (timeOf c) h r) := by
  cases c <;> simp only [requestOf, Option.some.injEq, Prod.mk.injEq, reduceCtorEq] at hc <;>
    (obtain ⟨rfl, rfl⟩ := hc; rfl)

/-- An event row of a running part acts on the machine at the command's time. -/
theorem State.event_running {s : State} (hr : s.running = true) (t : Nat) (f : State → State) :
    s.event t f = f (s.advance t) := if_pos hr

/-- An event row of a stopped part moves the time alone (R193). -/
theorem State.event_stopped {s : State} (hr : s.running = false) (t : Nat) (f : State → State) :
    s.event t f = s.advance t := if_neg (by simpa [State.running] using hr)

/-- A good message on an EXECUTING port is discarded with OVERLAP; a main link that transmits does not receive it
(R176). -/
theorem State.message_executing {h : Header} {s : State} (hr : s.running = true) (hj : (s.port h.port).job ≠ none)
    (kind : Byte) (req : Parsed) (n : Nat) :
    s.message h kind req n =
      if h.port = .main ∧ s.transmitting .main = true then s
      else (s.setRecv h.port .hunt).countFault h.port .overlap := by
  obtain ⟨p, g, tag⟩ := h
  have hx : (s.setRecv p .hunt).executing p = true := by
    cases p <;> simpa [State.executing, State.port_setRecv, Option.isSome_iff_ne_none] using hj
  have hd : ∀ k, (s.setRecv p .hunt).dispatch (plainHeader { port := p, group := g, tag := k }) kind req n =
      (s.setRecv p .hunt).countFault p .overlap := fun k => by simp only [State.dispatch, plainHeader, hx, if_true]
  simp only [State.message, hd, State.receiving, hr]
  cases p <;> cases s.transmitting .main <;> rfl

/-! ### Bytes that name lines, points and entries -/

theorem lineByte_toNat (l : LineNo) : (lineByte l).toNat = l.val := by
  simp only [lineByte, byte, BitVec.toNat_ofNat]
  exact Nat.mod_eq_of_lt (by omega)

theorem lineOfByte_lineByte (l : LineNo) : lineOfByte (lineByte l) = some l := by
  simp [lineOfByte, lineByte_toNat]

theorem lineOk_lineByte (l : LineNo) : lineOk (lineByte l) = true := by
  simp [lineOk, lineByte_toNat]

theorem onLine_lineByte (l : LineNo) (f : LineNo → State → Reply × State) (s : State) :
    onLine (lineByte l) f s = f l s := by
  rw [onLine, lineOfByte_lineByte]

theorem pointByte_toNat (p : PointNo) : (BitVec.ofNat 8 p.val).toNat = p.val := by
  simp only [BitVec.toNat_ofNat]
  exact Nat.mod_eq_of_lt (by omega)

theorem onPoint_byte (p : PointNo) (f : PointNo → State → Reply × State) (s : State) :
    onPoint (BitVec.ofNat 8 p.val) f s = f p s := by
  have : pointOfByte (BitVec.ofNat 8 p.val) = some p := by
    rw [pointOfByte, dif_pos (by rw [pointByte_toNat]; exact p.isLt)]
    exact congrArg some (Fin.ext (pointByte_toNat p))
  rw [onPoint, this]

theorem flowByte_toNat (k : FlowIdx) : (BitVec.ofNat 8 k.val).toNat = k.val := by
  simp only [BitVec.toNat_ofNat]
  exact Nat.mod_eq_of_lt (by omega)

theorem onFlow_byte (k : FlowIdx) (f : FlowIdx → State → Reply × State) (s : State) :
    onFlow (BitVec.ofNat 8 k.val) f s = f k s := by
  have : flowOfByte (BitVec.ofNat 8 k.val) = some k := by
    rw [flowOfByte, dif_pos (by rw [flowByte_toNat]; exact k.isLt)]
    exact congrArg some (Fin.ext (flowByte_toNat k))
  rw [onFlow, this]

/-- What the craft port may use with the door open, either port may use that is entitled (R179). -/
theorem permitted_entitled {p : PortId} {s : State} {r : Req} (he : Entitled p s) (hk : craftKind r = true) :
    permitted p s.doorOpen r = true := by
  rcases he with rfl | he
  · rfl
  · cases p <;> simp [permitted, he, hk]

end Sys2Proof.Machine
end

