-- ==== Sys2Proof/Laws/Keeps.lean ====
section
/-! SUPPORT. How a law passes through a step: a property that every owning operation keeps is kept by exec and by
step. The ports, the dispatcher, batches, characters, replies, saves and power are passed through here once, so that
the proof of a law looks at the owning operations alone. -/

namespace Sys2Proof.Machine

/-- A property of states that every operation below keeps: the bookkeeping of time, ports, store, power and queue, the
start, each request at its owning block, and each event of its own. -/
structure Kept (P : State → Prop) : Prop where
  time : ∀ (t : Nat) (s : State), P s → P (s.advance t)
  recv : ∀ (p : PortId) (r : Recv) (s : State), P s → P (s.setRecv p r)
  job : ∀ (p : PortId) (j : Option Job) (s : State), P s → P (s.setJob p j)
  fault : ∀ (p : PortId) (f : FaultKind) (s : State), P s → P (s.countFault p f)
  inForce : ∀ s : State, P s → P s.pendingInForce
  saved : ∀ (st : Store) (status : SettingsStatus) (n : Nat) (s : State), P s →
    P { s with store := st, status := status, freeCount := n }
  power : ∀ (on low : Bool) (s : State), P s → P { s with powered := on, resetLow := low }
  queue : ∀ (cs : List Instr) (s : State), P s → P { s with pending := cs }
  start : ∀ (cause : StartCause) (s : State), P s → P (s.start cause)
  own : ∀ (p : PortId) (r : Req) (s : State), P s → P (own p r s).2
  syncUp : ∀ (l : LineNo) (s : State), P s → P (s.syncUp l)
  syncLost : ∀ (l : LineNo) (s : State), P s → P (s.syncLost l)
  deadline : ∀ (l : LineNo) (s : State), P s → P (s.deadlineExpires l)
  arriveUp : ∀ (l : LineNo) (tag len : Nat) (s : State), frameLengthOk len = true → P s → P (s.arriveUp l tag len)
  arriveDown : ∀ (tag len : Nat) (s : State), frameLengthOk len = true → P s → P (s.arriveDown tag len)
  takeDown : ∀ (l : LineNo) (s : State), P s → P (s.takeDown l)
  takeUp : ∀ s : State, P s → P s.takeUp
  expireHeld : ∀ (l : LineNo) (tag : Nat) (s : State), P s → P (s.expireHeld l tag)
  decide : ∀ s : State, P s → P s.decide
  uplink : ∀ (r : Option RateClass) (s : State), P s → P (s.uplinkReport r)
  stepGen : ∀ s : State, P s → P s.stepGen
  endWarmup : ∀ s : State, P s → P s.endWarmup
  endFirstSettle : ∀ s : State, P s → P s.endFirstSettle
  endSecondSettle : ∀ s : State, P s → P s.endSecondSettle
  reading : ∀ (r : Reading) (s : State), P s → P (s.takeReading r)
  hazard : ∀ s : State, P s → P s.takeHazard
  endRelease : ∀ s : State, P s → P s.endRelease
  endDwell : ∀ s : State, P s → P s.endDwell
  endExit : ∀ s : State, P s → P s.endExit
  input : ∀ (p : PointNo) (v : Level) (s : State), P s → P (s.inputChange p v)
  endDebounce : ∀ (p : PointNo) (s : State), P s → P (s.endDebounce p)
  endSurgeClear : ∀ s : State, P s → P s.endSurgeClear
  endQuiet : ∀ s : State, P s → P s.endQuiet

variable {P : State → Prop}

/-! ### Replies and batches -/

theorem Kept.transmit (k : Kept P) (p : PortId) (body : List Byte) (restart : Bool) (s : State) (h : P s) :
    P (s.transmit p body restart) := by
  have j := k.job p (some (.sending body restart)) s h
  unfold State.transmit
  dsimp only
  split
  · exact k.recv _ _ _ (k.fault _ _ _ j)
  · exact j

theorem Kept.answer (k : Kept P) (h : Header) (kind : Byte) (r : Reply) (s : State) (hs : P s) :
    P (s.answer h kind r) := by
  unfold State.answer State.endGroup
  split
  · split
    · exact k.job _ _ _ (k.fault _ _ _ hs)
    · exact k.job _ _ _ hs
  · exact k.transmit _ _ _ _ hs

theorem Kept.subRun (k : Kept P) (p : PortId) (sub : RawSub) (s : State) (h : P s) : P (subRun p sub s).2 := by
  unfold Machine.subRun
  (repeat' split) <;> first | exact h | exact k.own _ _ _ h

theorem Kept.batchGo (k : Kept P) (p : PortId) (tag : Byte) (n : Nat) (subs : List RawSub) (done : List Byte)
    (s : State) (h : P s) : P (batchGo p tag n subs done s) := by
  induction n generalizing subs done s with
  | zero =>
    cases subs with
    | nil => exact k.transmit _ _ _ _ h
    | cons sub rest => exact k.job _ _ _ h
  | succ n ih =>
    cases subs with
    | nil => exact k.transmit _ _ _ _ h
    | cons sub rest =>
      simp only [Machine.batchGo]
      split
      · exact ih _ _ _ (k.subRun _ _ _ h)
      · exact k.transmit _ _ _ _ (k.subRun _ _ _ h)

theorem Kept.batchOn (k : Kept P) (p : PortId) (n : Nat) (s : State) (h : P s) : P (s.batchOn p n) := by
  unfold State.batchOn
  split
  · exact k.batchGo _ _ _ _ _ _ h
  · exact h

/-! ### The dispatcher -/

theorem Kept.perform (k : Kept P) (h : Header) (r : Req) (n : Nat) (s : State) (hs : P s) :
    P (s.perform h r n) := by
  unfold State.perform
  split
  · exact k.job _ _ _ (k.saved { s.store with mark := true } s.status s.freeCount s hs)
  · unfold State.beginRestart
    split
    · exact k.start _ _ hs
    · exact k.transmit _ _ _ _ hs
  · exact k.batchGo _ _ _ _ _ _ hs
  · exact k.answer _ _ _ _ (k.own _ _ _ hs)

theorem Kept.judge (k : Kept P) (h : Header) (kind : Byte) (req : Parsed) (n : Nat) (s : State) (hs : P s) :
    P (s.judge h kind req n) := by
  unfold State.judge
  split
  · exact k.answer _ _ _ _ hs
  · exact k.answer _ _ _ _ hs
  · split
    · exact k.job _ _ _ (k.fault _ _ _ hs)
    · split
      · exact k.answer _ _ _ _ hs
      · split
        · exact k.answer _ _ _ _ hs
        · exact k.perform _ _ _ _ hs

theorem Kept.dispatch (k : Kept P) (h : Header) (kind : Byte) (req : Parsed) (n : Nat) (s : State) (hs : P s) :
    P (s.dispatch h kind req n) := by
  unfold State.dispatch
  split
  · exact k.fault _ _ _ hs
  · exact k.judge _ _ _ _ _ (k.job _ _ _ hs)

theorem Kept.message (k : Kept P) (h : Header) (kind : Byte) (req : Parsed) (n : Nat) (s : State) (hs : P s) :
    P (s.message h kind req n) := by
  unfold State.message
  split
  · exact k.dispatch _ _ _ _ _ (k.recv _ _ _ hs)
  · exact hs

/-! ### Characters, ends of replies and writes, power -/

theorem Kept.takeAddress (k : Kept P) (p : PortId) (data : Byte) (s : State) (h : P s) : P (s.takeAddress p data) := by
  have f := k.fault p .timeout s h
  unfold State.takeAddress
  split <;> (dsimp only; split) <;> first | exact k.recv _ _ _ f | exact k.recv _ _ _ h

theorem Kept.complete (k : Kept P) (p : PortId) (msg : Partial) (s : State) (h : P s) : P (s.complete p msg) := by
  have r := k.recv p .hunt s h
  unfold State.complete
  dsimp only
  split
  · exact k.fault _ _ _ r
  · split
    · exact k.fault _ _ _ r
    · split
      · exact k.dispatch _ _ _ _ _ r
      · exact r

theorem Kept.takeChar (k : Kept P) (p : PortId) (c : SerialChar) (s : State) (h : P s) : P (s.takeChar p c) := by
  unfold State.takeChar
  split
  · split
    · exact k.takeAddress _ _ _ h
    · unfold State.takeBody
      split
      · unfold State.takeInto
        dsimp only
        split
        · split
          · exact k.recv _ _ _ h
          · exact k.recv _ _ _ (k.fault _ _ _ h)
        · split
          · exact k.complete _ _ _ h
          · exact k.recv _ _ _ h
      · exact h
  · exact h

theorem Kept.takeBreak (k : Kept P) (p : PortId) (s : State) (h : P s) : P (s.takeBreak p) := by
  unfold State.takeBreak
  split
  · split
    · exact h
    · exact k.recv _ _ _ h
    · exact k.recv _ _ _ (k.fault _ _ _ h)
  · exact h

theorem Kept.charTimeout (k : Kept P) (p : PortId) (s : State) (h : P s) : P (s.charTimeout p) := by
  unfold State.charTimeout
  split
  · split
    · exact k.recv _ _ _ (k.fault _ _ _ h)
    · exact h
  · exact h

theorem Kept.replyEnds (k : Kept P) (p : PortId) (s : State) (h : P s) : P (s.replyEnds p) := by
  unfold State.replyEnds
  split
  · exact k.start _ _ h
  · split
    · exact k.inForce _ (k.recv _ _ _ (k.job _ _ _ h))
    · exact k.job _ _ _ h
  · exact h

theorem Kept.writeEnds (k : Kept P) (held : Option (List Half)) (s : State) (h : P s) : P (s.writeEnds held) := by
  unfold State.writeEnds
  split
  · dsimp only
    split
    · exact k.answer _ _ _ _ (k.saved _ .good s.freeCount s h)
    · exact k.answer _ _ _ _ (k.saved _ s.status s.freeCount s h)
  · exact h

theorem Kept.halt (k : Kept P) (s : State) (h : P s) : P s.halt := by
  have w : P s.stopWrite := by
    unfold State.stopWrite
    split
    · exact k.saved _ s.status _ s h
    · exact h
  exact k.job .craft none _ (k.job .main none _ w)

theorem Kept.losePower (k : Kept P) (s : State) (h : P s) : P s.losePower :=
  k.power false s.halt.resetLow _ (k.halt _ h)

theorem Kept.pinLow (k : Kept P) (s : State) (h : P s) : P s.pinLow :=
  k.power s.halt.powered true _ (k.halt _ h)

theorem Kept.applyPower (k : Kept P) (s : State) (h : P s) : P s.applyPower := by
  unfold State.applyPower
  split
  · exact k.power true s.resetLow _ h
  · exact k.start _ _ (k.power true s.resetLow _ h)

theorem Kept.pinHigh (k : Kept P) (s : State) (h : P s) : P s.pinHigh := by
  unfold State.pinHigh
  split
  · split
    · exact k.start _ _ (k.power s.powered false _ h)
    · exact k.power s.powered false _ h
  · exact h

/-! ### exec and step -/

theorem Kept.event (k : Kept P) (t : Nat) (f : State → State) (hf : ∀ s, P s → P (f s)) (s : State) (h : P s) :
    P (s.event t f) := by
  unfold State.event
  split
  · exact hf _ (k.time _ _ h)
  · exact k.time _ _ h

/-- A property that the operations keep is kept by every command. -/
theorem Kept.exec (k : Kept P) (c : Instr) (s u : State) (h : P s) (he : exec c s = .next u) : P u := by
  cases hc : requestOf c with
  | some q =>
    rw [exec_request hc] at he
    cases he
    exact k.message _ _ _ _ _ (k.time _ _ h)
  | none =>
    cases c <;> simp only [requestOf, reduceCtorEq] at hc
    case saveWriteEnd t held => cases he; exact k.event t _ (k.writeEnds held) s h
    case batch t run =>
      cases run with
      | begin hd subs n => cases he; exact k.message _ _ _ _ _ (k.time _ _ h)
      | go p n =>
        cases he
        show P (if (s.advance t).running then (s.advance t).batchOn p n else s.advance t)
        split
        · exact k.batchOn _ _ _ (k.time _ _ h)
        · exact k.time _ _ h
    case unknownKindRequest t hd kind payload => cases he; exact k.message _ _ _ _ _ (k.time _ _ h)
    case addressCharacter t p c => cases he; exact k.event t _ (k.takeChar p c) s h
    case bodyCharacter t p c => cases he; exact k.event t _ (k.takeChar p c) s h
    case breakSeen t p => cases he; exact k.event t _ (k.takeBreak p) s h
    case characterTimeout t p => cases he; exact k.event t _ (k.charTimeout p) s h
    case replySent t p => cases he; exact k.event t _ (k.replyEnds p) s h
    case syncUp t l => cases he; exact k.event t _ (k.syncUp l) s h
    case syncLost t l => cases he; exact k.event t _ (k.syncLost l) s h
    case trainingDeadlineExpiry t l => cases he; exact k.event t _ (k.deadline l) s h
    case upstreamArrival t l tag len =>
      replace he : execUpstreamArrival t l tag len s = .next u := he
      unfold execUpstreamArrival at he
      split at he
      · cases he; exact k.event t _ (fun v => k.arriveUp l tag.val len v ‹_›) s h
      · exact nomatch he
    case downstreamArrival t tag len =>
      replace he : execDownstreamArrival t tag len s = .next u := he
      unfold execDownstreamArrival at he
      split at he
      · cases he; exact k.event t _ (fun v => k.arriveDown tag.val len v ‹_›) s h
      · exact nomatch he
    case transceiverTake t l => cases he; exact k.event t _ (k.takeDown l) s h
    case uplinkTake t => cases he; exact k.event t _ k.takeUp s h
    case holdExpiry t l tag => cases he; exact k.event t _ (k.expireHeld l tag.val) s h
    case schedulerDecision t => cases he; exact k.event t _ k.decide s h
    case uplinkStatusReport t r => cases he; exact k.event t _ (k.uplink r) s h
    case stepEvent t => cases he; exact k.event t _ k.stepGen s h
    case warmupTimerExpiry t => cases he; exact k.event t _ k.endWarmup s h
    case firstSettleExpiry t => cases he; exact k.event t _ k.endFirstSettle s h
    case secondSettleExpiry t => cases he; exact k.event t _ k.endSecondSettle s h
    case measurementReading t r => cases he; exact k.event t _ (k.reading r) s h
    case hazardCrossing t => cases he; exact k.event t _ k.hazard s h
    case releaseSettleExpiry t => cases he; exact k.event t _ k.endRelease s h
    case dwellExpiry t => cases he; exact k.event t _ k.endDwell s h
    case exitSettleExpiry t => cases he; exact k.event t _ k.endExit s h
    case inputLevelChange t p v => cases he; exact k.input p v _ (k.time _ _ h)
    case debounceExpiry t p => cases he; exact k.event t _ (k.endDebounce p) s h
    case surgeClearExpiry t => cases he; exact k.event t _ k.endSurgeClear s h
    case quietExpiry t => cases he; exact k.event t _ k.endQuiet s h
    case powerOn t => cases he; exact k.applyPower _ (k.time _ _ h)
    case powerLoss t => cases he; exact k.losePower _ (k.time _ _ h)
    case resetPinLow t => cases he; exact k.pinLow _ (k.time _ _ h)
    case resetPinRelease t => cases he; exact k.pinHigh _ (k.time _ _ h)

/-- A property that the operations keep is kept by every step. -/
theorem Kept.step (k : Kept P) (s u : State) (h : P s) (hs : step s = .next u) : P u := by
  unfold Machine.step at hs
  split at hs
  · cases hs; exact h
  · exact k.exec _ _ _ (k.queue _ _ h) hs

end Sys2Proof.Machine
end

