-- ==== Sys2Proof/Laws/Layouts.lean ====
section
/-! SUPPORT. The layouts of requests in the words of the statements (R195 to R199) against the reader of the model: what
is laid out is read, and what is read is laid out so. -/

namespace Sys2Proof.Machine

/-! ### Numbers and sets of lines (R195, R196) -/

theorem toNat_half (lo hi : Byte) : (half lo hi).toNat = hi.toNat * 256 + lo.toNat := by
  rw [half, BitVec.toNat_append, ← Nat.shiftLeft_add_eq_or_of_lt lo.isLt, Nat.shiftLeft_eq]

theorem toNat_lineSet (b0 b1 b2 : Byte) :
    (lineSet b0 b1 b2).toNat = (b2.toNat * 256 + b1.toNat) * 256 + b0.toNat := by
  rw [lineSet, BitVec.toNat_append, ← Nat.shiftLeft_add_eq_or_of_lt b0.isLt, BitVec.toNat_append,
    ← Nat.shiftLeft_add_eq_or_of_lt b1.isLt, Nat.shiftLeft_eq, Nat.shiftLeft_eq]

/-- A two-byte number is read from the bytes it is laid out in. -/
theorem half_laid (v : Half) : half (BitVec.ofNat 8 v.toNat) (BitVec.ofNat 8 (v.toNat / 256)) = v := by
  apply BitVec.eq_of_toNat_eq
  have := v.isLt
  simp only [toNat_half, BitVec.toNat_ofNat]
  omega

/-- The number that two bytes are read as is laid out in them. -/
theorem laid_half (lo hi : Byte) : Half.laid (half lo hi) = [lo, hi] := by
  have := lo.isLt
  have := hi.isLt
  simp only [Half.laid, toNat_half, List.cons.injEq, and_true]
  constructor <;> apply BitVec.eq_of_toNat_eq <;> rw [BitVec.toNat_ofNat] <;> omega

theorem lineSet_laid (m : LineSet) : lineSet (BitVec.ofNat 8 m.toNat) (BitVec.ofNat 8 (m.toNat / 256))
    (BitVec.ofNat 8 (m.toNat / 65536)) = m := by
  apply BitVec.eq_of_toNat_eq
  have := m.isLt
  simp only [toNat_lineSet, BitVec.toNat_ofNat]
  omega

theorem laid_lineSet (b0 b1 b2 : Byte) :
    [BitVec.ofNat 8 (lineSet b0 b1 b2).toNat, BitVec.ofNat 8 ((lineSet b0 b1 b2).toNat / 256),
      BitVec.ofNat 8 ((lineSet b0 b1 b2).toNat / 65536)] = [b0, b1, b2] := by
  have := b0.isLt
  have := b1.isLt
  have := b2.isLt
  simp only [toNat_lineSet, List.cons.injEq, and_true]
  refine ⟨?_, ?_, ?_⟩ <;> apply BitVec.eq_of_toNat_eq <;> rw [BitVec.toNat_ofNat] <;> omega

/-! ### Flow content, steps and sub-requests (R184, R199) -/

theorem readContent_laid (c : FlowContent) : readContent (FlowContent.laid c) = some c := by
  simp only [FlowContent.laid, Half.laid, List.cons_append, List.nil_append, readContent, half_laid, lineSet_laid]

theorem laid_of_readContent {bs : List Byte} {c : FlowContent} (h : readContent bs = some c) :
    FlowContent.laid c = bs := by
  unfold readContent at h
  split at h
  · cases h
    simp only [FlowContent.laid, laid_half, laid_lineSet, List.cons_append, List.nil_append]
  · cases h

theorem readSteps_laid (steps : List RawStep) : readSteps (steps.flatMap RawStep.laid) = steps := by
  induction steps with
  | nil => rfl
  | cons x rest ih =>
    simp only [List.flatMap_cons, RawStep.laid, Half.laid, List.cons_append, List.nil_append, readSteps, half_laid, ih]

/-- Bytes that are a whole number of steps are what their steps are laid out in. -/
theorem laid_of_readSteps (n : Nat) (bs : List Byte) (h : bs.length = 15 * n) :
    (readSteps bs).length = n ∧ (readSteps bs).flatMap RawStep.laid = bs := by
  induction n generalizing bs with
  | zero =>
    cases List.length_eq_zero_iff.mp h
    exact ⟨rfl, rfl⟩
  | succ n ih =>
    match bs, h with
    | k :: f0 :: f1 :: h0 :: h1 :: e :: p :: w0 :: w1 :: lp :: l0 :: l1 :: up :: u0 :: u1 :: rest, h =>
      have := ih rest (by simp only [List.length_cons] at h; omega)
      simp only [readSteps, List.length_cons, List.flatMap_cons, RawStep.laid, laid_half, this.1, this.2,
        List.cons_append, List.nil_append, and_self]

theorem length_steps_laid (steps : List RawStep) : (steps.flatMap RawStep.laid).length = 15 * steps.length := by
  induction steps with
  | nil => rfl
  | cons x rest ih =>
    simp only [List.flatMap_cons, List.length_append, ih, RawStep.laid, Half.laid, List.length_cons, List.length_nil]
    omega

theorem readSubs_laid (subs : List RawSub) (h : ∀ x ∈ subs, x.payload.length ≤ 255) :
    readSubs subs.length (subs.flatMap RawSub.laid) = some subs := by
  induction subs with
  | nil => rfl
  | cons x rest ih =>
    have hx := h x List.mem_cons_self
    have hl : (BitVec.ofNat 8 x.payload.length).toNat = x.payload.length := by
      rw [BitVec.toNat_ofNat]; omega
    simp only [List.length_cons, List.flatMap_cons, RawSub.laid, List.cons_append, readSubs, hl,
      List.length_append, Nat.le_add_right, if_true, List.drop_left, List.take_left,
      ih fun y hy => h y (List.mem_cons_of_mem x hy), Option.map_some]

/-- Bytes that n sub-requests fill exactly are what those are laid out in. -/
theorem laid_of_readSubs (n : Nat) (bs : List Byte) (subs : List RawSub) (h : readSubs n bs = some subs) :
    subs.length = n ∧ (∀ x ∈ subs, x.payload.length ≤ 255) ∧ subs.flatMap RawSub.laid = bs := by
  induction n generalizing bs subs with
  | zero =>
    match bs, h with
    | [], h =>
      cases h
      simp
  | succ n ih =>
    match bs, h with
    | kind :: len :: rest, h =>
      simp only [readSubs] at h
      split at h
      · rename_i hl
        obtain ⟨more, hm, rfl⟩ := Option.map_eq_some_iff.mp h
        obtain ⟨h1, h2, h3⟩ := ih _ _ hm
        have ht : (rest.take len.toNat).length = len.toNat := by rw [List.length_take]; omega
        refine ⟨congrArg Nat.succ h1, fun x hx => ?_, ?_⟩
        · rcases List.mem_cons.mp hx with rfl | hx
          · have := len.isLt
            show (rest.take len.toNat).length ≤ 255
            omega
          · exact h2 x hx
        · simp only [List.flatMap_cons, RawSub.laid, ht, h3, List.cons_append, List.take_append_drop,
            BitVec.ofNat_toNat, BitVec.setWidth_eq]
      · cases h

/-! ### Codes (R196) -/

theorem contentCodesOk_iff (c : FlowContent) : contentCodesOk c = true ↔ ContentCodes c := by
  have h : (ownerOfByte c.owner).isSome = true ↔ c.owner.toNat ≤ 23 ∨ c.owner = 0x80 := by
    unfold ownerOfByte
    split
    · simp; omega
    · split <;> simp_all
      omega
  simp only [contentCodesOk, ContentCodes, flagOk, Bool.and_eq_true, decide_eq_true_eq, h, and_assoc]

theorem stepCodesOk_iff (x : RawStep) : stepCodesOk x = true ↔ StepCodes x := by
  simp only [stepCodesOk, StepCodes, flagOk, Bool.and_eq_true, decide_eq_true_eq, and_assoc]

end Sys2Proof.Machine
end

