-- ==== Sys2Proof/Laws/Words.lean ====
section
/-! SUPPORT. The words in which the statements speak of flow content and of cabinet points, each equal to the test that
the model makes: a proof rewrites the one into the other and unfolds neither. -/

namespace Sys2Proof.Machine

/-! ### Cabinet points (R159, R160) -/

theorem permits_iff (p : PointNo) (f : PointFn) : Permits p f ↔ (pointGroup p).permits f = true := by
  cases f <;> revert p <;> unfold Permits <;> decide +kernel

theorem drives_iff (p : PointNo) (f : PointFn) : Drives p f ↔ drivesWith p f = true := by
  cases f <;> revert p <;> unfold Drives <;> decide +kernel

/-! ### The flow table (R48, R49) -/

theorem Owner.collides_iff (a b : Owner) : a.collides b = true ↔ a = b ∨ a = .shared ∨ b = .shared := by
  cases a <;> cases b <;> simp [Owner.collides]

theorem rangesMeet_iff (b1 n1 b2 n2 : Nat) : rangesMeet b1 n1 b2 n2 = true ↔ b1 < b2 + n2 ∧ b2 < b1 + n1 := by
  simp [rangesMeet]

theorem entriesMeet_iff (e f : FlowEntry) : EntriesMeet e f ↔ e.overlaps f = true := by
  simp only [EntriesMeet, FlowEntry.overlaps, FlowEntry.overlapsUp, FlowEntry.overlapsDown, rangesMeet_iff, FlowEntry.span,
    Bool.or_eq_true, Bool.and_eq_true, Owner.collides_iff, and_assoc]

theorem lineByte_lt (l : LineNo) : (lineByte l).toNat < 24 := by rw [lineByte_toNat]; exact l.isLt

theorem ownerNamed_iff (c : FlowContent) (o : Owner) : OwnerNamed c o ↔ ownerOfByte c.owner = some o := by
  unfold OwnerNamed ownerOfByte
  split
  · rename_i h
    constructor
    · rintro (⟨l, e, rfl⟩ | ⟨e, rfl⟩)
      · simp [e, lineByte_toNat]
      · exact absurd h (by rw [e]; decide)
    · rintro ⟨⟩
      exact .inl ⟨⟨_, h⟩, BitVec.eq_of_toNat_eq (lineByte_toNat ⟨_, h⟩).symm, rfl⟩
  · rename_i h
    constructor
    · rintro (⟨l, e, rfl⟩ | ⟨e, rfl⟩)
      · exact absurd (e ▸ lineByte_lt l) h
      · simp [e]
    · intro e
      split at e
      · exact .inr ⟨‹_›, (Option.some.inj e).symm⟩
      · exact nomatch e

/-- Content with a known owner makes its entry exactly when it fits (R49). -/
theorem FlowContent.entry_of_named (equipped : LineNo → Bool) (c : FlowContent) (o : Owner) (h : OwnerNamed c o) :
    (ContentFits equipped c → FlowContent.entry equipped c = some (FlowContent.written o c)) ∧
    (¬ContentFits equipped c → FlowContent.entry equipped c = none) := by
  have hn := (ownerNamed_iff c o).mp h
  have base : ∀ b n : Nat, baseOk b n = true ↔ b ≤ 4095 ∧ n ∣ b := fun b n => by simp [baseOk, Nat.dvd_iff_mod_eq_zero]
  have owner : ownerOk equipped o (c.down == 1) c.members = true ↔
      ((∃ l, c.owner = lineByte l ∧ equipped l = true ∧ c.members = 0) ∨
        (c.owner = 0x80 ∧ c.down = 1 ∧ c.members ≠ 0 ∧ ∀ l, LineSet.has c.members l = true → equipped l = true) ∨
        (c.owner = 0x80 ∧ c.down ≠ 1 ∧ c.members = 0)) := by
    rcases h with ⟨l, e, rfl⟩ | ⟨e, rfl⟩
    · have ne : lineByte l ≠ (0x80 : Byte) := fun h => absurd (h ▸ lineByte_lt l) (by decide)
      have inj : ∀ k, lineByte l = lineByte k ↔ k = l := fun k =>
        ⟨fun h => Fin.ext (by have := congrArg BitVec.toNat h; rw [lineByte_toNat, lineByte_toNat] at this; exact this.symm),
          fun h => h ▸ rfl⟩
      simp only [ownerOk, e, ne, inj, false_and, or_false, exists_eq_left, Bool.and_eq_true, beq_iff_eq]
    · have ne : ∀ l, (0x80 : Byte) ≠ lineByte l := fun l h => absurd (h ▸ lineByte_lt l) (by decide)
      simp only [ownerOk, e, ne, false_and, exists_false, false_or, true_and, LineSet.lines]
      by_cases hd : c.down = (1 : Byte)
      · simp only [hd, beq_self_eq_true, if_true, true_and, not_true, ne_eq, false_and, or_false, Bool.and_eq_true,
          bne_iff_ne, List.all_filter, List.all_eq_true, Bool.or_eq_true, Bool.not_eq_true', allLines, List.mem_finRange,
          forall_const, imp_iff_not_or, Bool.not_eq_true]
      · simp only [beq_eq_false_iff_ne.mpr hd, hd, ne_eq, not_false_eq_true, true_and, false_and, false_or, beq_iff_eq,
          Bool.false_eq_true, if_false]
  have fits : ContentFits equipped c ↔ (decide (c.span.toNat ≤ 6) && baseOk c.lineBase.toNat (2 ^ c.span.toNat) &&
      baseOk c.uplinkBase.toNat (2 ^ c.span.toNat) && (c.up == 1 || c.down == 1) &&
      ownerOk equipped o (c.down == 1) c.members) = true := by
    rw [Bool.and_eq_true, owner]
    simp only [Bool.and_eq_true, base, ContentFits, decide_eq_true_eq, Bool.or_eq_true, beq_iff_eq]
    constructor
    · rintro ⟨a, b, c, d, e, f, g⟩; exact ⟨⟨⟨⟨a, b, d⟩, c, e⟩, f⟩, g⟩
    · rintro ⟨⟨⟨⟨a, b, d⟩, c, e⟩, f⟩, g⟩; exact ⟨a, b, c, d, e, f, g⟩
  simp only [fits, FlowContent.entry, hn, FlowContent.written]
  exact ⟨fun h => if_pos h, fun h => if_neg h⟩

end Sys2Proof.Machine
end

