-- ==== Sys2Proof/Tests/Slice0.lean ====
section
/-! SUPPORT. Tests: the checks of WellFormed refuse what they are for; single steps on small states; and for every
obligation with hypotheses a theorem witness_<its name> in which concrete states and operands meet them, clause by
clause, at the ends of their ranges. -/

set_option Elab.async false

namespace Sys2Proof.Tests
open Sys2Proof.Machine

/-! ### Operands and states -/

def l1 : LineNo := 1
def r0 : State := State.reset
/-- A request of the main link, one of the craft port, and a group message. -/
def hm : Header := { port := .main, group := false, tag := 9 }
def hc : Header := { port := .craft, group := false, tag := 8 }
def hg : Header := { port := .main, group := true, tag := 7 }
/-- An undamaged character with its mark bit. -/
def charOf (mark : Bool) (data : Byte) : SerialChar :=
  { data, mark, parity := (dataOnes data + mark.toNat) % 2 == 1, stop := true }
/-- The machine with line 0 in a state, with a point's record changed, with a port at a job. -/
def lineAt (st : LineState) : State := r0.setLine 0 fun r => { r with state := st }
def pointAt (p : PointNo) (fn : PointFn) (level : Option Level) (window : Option Nat) : State :=
  r0.setPoint p fun r => { r with fn := fn, debounced := level, window := window }
def doorAt : State := pointAt 0 .door (some .high) none
def stopped : State := { r0 with powered := false }
/-- What a command answers: a next state with a property, or a fault. -/
def nextIs (i : Instr) (s : State) (p : State → Bool) : Bool :=
  match exec i s with
  | .next u => p u
  | .fault _ => false
  | .refused _ => false
def faults (i : Instr) (s : State) : Bool :=
  match exec i s with
  | .next _ => false
  | .fault f => f == .frameNeverPresented
  | .refused _ => false
/-- The reply going out on a port, by its status and payload. -/
def replies (p : PortId) (st : Status) (payload : List Byte) (u : State) : Bool :=
  match (u.port p).job with
  | some (.sending body _) => (body.drop 3).take (payload.length + 1) == st.code :: payload
  | _ => false
/-! ### A busy machine: frames, a held frame, a flow entry, an order at its first step -/

def entry0 : FlowEntry :=
  { kept := false, owner := .line 0, lineBase := 8, uplinkBase := 16, spanExp := 3, up := true, down := true,
    members := 0, matchUp := 0, matchDown := 0 }
def loop0 : HostStep := { stim := .loop 52, exp := 7, period := 1, window := 10, lower := some 5, upper := some 9 }
def order1 : TestOrder :=
  { id := 1, origin := .main, line := l1, interrupt := false, quarantineOnFail := false, clearOnPass := false, steps := [loop0] }
def pool2 : Pool :=
  { free := 766, nextId := 2, uplinkDrops := 0
    frames := [(0, ⟨.line 0, 16, 100, 1, 1⟩), (1, ⟨.line 0, 99, 64, 1, 1⟩)] }
def busyAt (ph : Phase) (conn : Conn) (g : Generator) : State :=
  let v := (r0.setLine 0 fun r => { r with state := .inService }).setLine l1 fun r =>
    { r with state := .withdrawn .idle conn }
  { v with
    pool := pool2
    hold := [{ frame := 1, expiry := 1000000 }]
    flows := v.flows.set 0 (some entry0)
    sched := { v.sched with ingress := v.sched.ingress.set 0 [0], active := [0], deficit := v.sched.deficit.set 0 1024 }
    uplink := { status := some .one, asked := false }
    gen := g
    engine := { v.engine with lastId := 1, current := some ⟨order1, ph, some 5, [], .pass⟩ }
    energy := { v.energy with supply := .mains }
    points := { v.points with testPower := true } }
def driving : Generator :=
  { code := 2100, drive := true, program := .level 2100, exp := 7, period := 1, motion := .settled, sine := none,
    dir := none, next := none }
def busy : State := busyAt (.step 1 (some 5000)) .onBus driving

theorem busy_flows : ∀ k : FlowIdx, busy.flows[k] = if k = 0 then some entry0 else none := by decide +kernel
theorem busy_ingress : ∀ l : LineNo, busy.sched.ingress[l] = if l = 0 then [0] else [] := by decide +kernel
theorem busy_egress : ∀ l : LineNo, busy.egress[l] = [] := by decide +kernel
theorem busy_zero {j : FlowIdx} {e : FlowEntry} (h : busy.flows[j] = some e) : j = 0 ∧ e = entry0 := by
  rw [busy_flows] at h
  split at h
  · exact ⟨‹_›, (Option.some.inj h).symm⟩
  · exact absurd h (by simp)
theorem sum_zero (f : LineNo → Nat) (h : ∀ l, f l = 0) (xs : List LineNo) : (xs.map f).sum = 0 := by
  induction xs with
  | nil => rfl
  | cons l rest ih => simp [h l, ih]
theorem busy_positions (id : Nat) (h0 : id ≠ 0) (h1 : id ≠ 1) : busy.positions id = 0 := by
  have a : (busy.hold.map Held.frame).count id = 0 := by
    show List.count id [1] = 0
    simp [Ne.symm h1]
  have b : busy.sched.launch.count id = 0 := by show List.count id [] = 0; rfl
  have c : ∀ l : LineNo, busy.sched.ingress[l].count id = 0 := fun l => by
    rw [busy_ingress]; split
    · simp [Ne.symm h0]
    · rfl
  have d : ∀ l : LineNo, busy.egress[l].count id = 0 := fun l => by rw [busy_egress]; rfl
  simp only [State.positions, a, b, sum_zero _ c, sum_zero _ d]
/-- The laws of Safety hold of the busy machine, so that their premises are met by a machine at work. -/
theorem busy_pool : PoolOk busy where
  conserved := by decide +kernel
  distinct := by decide +kernel
  fresh := by decide +kernel
  sized := by decide +kernel
  counted := by decide +kernel
  recorded := fun id h => by
    by_cases h0 : id = 0
    · exact ⟨(0, _), List.mem_cons_self, h0.symm⟩
    by_cases h1 : id = 1
    · exact ⟨(1, _), List.mem_cons_of_mem _ List.mem_cons_self, h1.symm⟩
    exact absurd h (by rw [busy_positions id h0 h1]; exact Nat.lt_irrefl 0)
  heldOnce := by decide +kernel
theorem busy_flowsOk : FlowsOk busy where
  up := fun _ _ _ _ _ _ hj hk _ _ => (busy_zero hj).1.trans (busy_zero hk).1.symm
  down := fun _ _ _ _ _ hj hk _ _ => (busy_zero hj).1.trans (busy_zero hk).1.symm
theorem busy_linesOk : LinesOk busy where
  shedOnce := by decide +kernel
  shedExactly := by decide +kernel
  withdrawnExactly := fun l => by
    have h : ∀ l : LineNo, (busy.line l).state.kind = .withdrawn ↔ l1 = l := by decide +kernel
    rw [h l]
    exact ⟨fun e => ⟨_, rfl, e⟩, fun ⟨c, hc, e⟩ => by cases hc; exact e⟩
  equippedNames := by decide +kernel
theorem busy_energyOk : EnergyOk busy where
  cap := by decide +kernel
  budgets := fun st => by cases st <;> decide +kernel
  within := by decide +kernel
theorem zero_faults : FaultsOk FaultCounts.zero := ⟨by decide, by decide, by decide, by decide, by decide, by decide, by decide⟩
theorem busy_rangesOk : RangesOk busy where
  notices := by decide +kernel
  lost := by decide +kernel
  orders := by decide +kernel
  results := by decide +kernel
  launch := by decide +kernel
  hold := by decide +kernel
  egress := by decide +kernel
  ingress := by decide +kernel
  fails := by decide +kernel
  profiles := by decide +kernel
  params := by decide +kernel
  rate := by decide +kernel
  dropInForce := by decide +kernel
  rateInForce := by decide +kernel
  mainFaults := zero_faults
  craftFaults := zero_faults
theorem busy_schedOk : SchedOk busy where
  listedOnce := by decide +kernel
  listedExactly := by decide +kernel
  unlisted := by decide +kernel
  waiting := by decide +kernel
  current := by decide +kernel
theorem busy_benchOk : BenchOk busy where
  power := rfl
  idle := fun h => nomatch h
  phase := fun c h => by
    cases h
    exact ⟨rfl, by decide +kernel⟩
theorem busy_idsOk : IdsOk busy where
  distinct := by decide +kernel
  range := by decide +kernel
  last := by decide +kernel

/-! ### WellFormed refuses -/

theorem test_wf_craft_group : (Instr.ident 0 { port := .craft, group := true, tag := 0 }).wf = false := by decide
theorem test_wf_sub_length : RawSub.wf { kind := 0x10, payload := List.replicate 256 0 } = false := by decide +kernel
theorem test_wf_batch_long :
    (Instr.batch 0 (.begin hm [{ kind := 0x10, payload := List.replicate 245 0 }] 1)).wf = false := by decide +kernel
theorem test_wf_batch_fits :
    (Instr.batch 0 (.begin hm [{ kind := 0x10, payload := List.replicate 244 0 }] 1)).wf = true := by decide +kernel
theorem test_wf_batch_group : (Instr.batch 0 (.begin { hc with group := true } [] 1)).wf = false := by decide
theorem test_wf_batch_go : (Instr.batch 0 (.go .main 0)).wf = false := by decide
theorem test_wf_order_long :
    (Instr.testOrder 0 hm 0 0 0 0 (List.replicate 17 ⟨0, 0, 0, 4, 1, 10, 0, 0, 0, 0⟩)).wf = false := by decide +kernel
theorem test_wf_known_kind : (Instr.unknownKindRequest 0 hm 0x10 []).wf = false := by decide
theorem test_wf_long_payload : (Instr.unknownKindRequest 0 hm 0x09 (List.replicate 248 0)).wf = false := by
  decide +kernel
theorem test_wf_address : (Instr.addressCharacter 0 .main (charOf false 7)).wf = false := by decide +kernel
theorem test_wf_address_damaged : (Instr.addressCharacter 0 .main { charOf true 7 with stop := false }).wf = false := by
  decide +kernel
theorem test_wf_body : (Instr.bodyCharacter 0 .main (charOf true 7)).wf = false := by decide +kernel
theorem test_wf_short_up : (Instr.upstreamArrival 0 0 0 63).wf = false := by decide
theorem test_wf_long_up : (Instr.upstreamArrival 0 0 0 1537).wf = false := by decide
theorem test_wf_short_down : (Instr.downstreamArrival 0 0 63).wf = false := by decide
theorem test_wf_lengths : (Instr.downstreamArrival 0 0 64).wf = true ∧ (Instr.downstreamArrival 0 0 1536).wf = true := by
  decide

/-! ### Single steps -/

theorem test_line_start : nextIs (.lineStart 5 hm 0) r0 (fun u =>
    (u.line 0).state == .training 90000005 && u.committed == 19 && replies .main .ok [] u) = true := by decide +kernel
theorem test_line_start_budget : nextIs (.lineStart 5 hm 0) ({ r0 with energy := { r0.energy with budgets :=
    { r0.energy.budgets with battLow := 18 } } }) (fun u => (u.line 0).state == .idle && replies .main .budget [] u) = true := by
  decide +kernel
theorem test_line_number : nextIs (.lineStart 5 hm 24) r0 (replies .main .range []) = true := by decide +kernel
theorem test_craft_door_shut : nextIs (.lineStart 5 hc 0) r0 (replies .craft .denied []) = true := by decide +kernel
theorem test_craft_door_open : nextIs (.lineStart 5 hc 0) doorAt (replies .craft .ok []) = true := by decide +kernel
theorem test_ident : nextIs (.ident 5 hm) r0 (replies .main .ok [0x43, 0x4C, 0x32, 0x34]) = true := by decide +kernel
theorem test_sync_up : nextIs (.syncUp 5 0) (lineAt (.training 9)) (fun u => (u.line 0).state == .inService) = true := by
  decide +kernel
theorem test_deadline : nextIs (.trainingDeadlineExpiry 9 0) (lineAt (.training 9)) (fun u =>
    (u.line 0).state == .idle && (u.line 0).failCount == 1) = true := by decide +kernel
theorem test_flow_place : nextIs (.flowPlace 5 hm ⟨0, 1, 1, 1, 16, 32, 3, 0⟩) busy (fun u =>
    replies .main .ok [1, 0, 0] u && (u.flows[(1 : FlowIdx)]).isSome) = true := by decide +kernel
theorem test_flow_overlap : nextIs (.flowPlace 5 hm ⟨0, 1, 0, 0, 15, 32, 0, 0⟩) busy (replies .main .overlap []) = true := by
  decide +kernel
theorem test_flow_find : nextIs (.flowFind 5 hm 0 0 15) busy (replies .main .ok [0, 23, 0]) = true := by decide +kernel
theorem test_upstream : nextIs (.upstreamArrival 5 0 8 129) busy (fun u =>
    u.sched.ingress[(0 : LineNo)] == [0, 2] && u.pool.free == 764) = true := by decide +kernel
theorem test_downstream : nextIs (.downstreamArrival 5 23 64) busy (fun u =>
    u.egress[(0 : LineNo)] == [2] && (u.pool.find 2).map Frame.tag == some 15) = true := by decide +kernel
theorem test_scheduler : nextIs (.schedulerDecision 5) busy (fun u =>
    u.sched.launch == [0] && u.sched.active.isEmpty) = true := by decide +kernel
theorem test_hold_expiry : nextIs (.holdExpiry 1000000 0 99) busy (fun u => u.hold.isEmpty && u.pool.free == 767) = true := by
  decide +kernel
theorem test_reading_fail : nextIs (.measurementReading 5000 (.value 10)) busy (fun u =>
    match u.engine.current with
    | some c => c.soFar == .fail && c.phase == .releaseRamp && c.results == [⟨.loop, 10, .fail⟩]
    | none => false) = true := by decide +kernel
theorem test_hazard : nextIs (.hazardCrossing 5) busy (fun u => !u.gen.drive && u.gen.code == 2048 && !u.onBus) = true := by
  decide +kernel
theorem test_supply : nextIs (.supply 5 hm 1) r0 (fun u => u.budget == 255 && replies .main .ok [1, 255] u) = true := by
  decide +kernel
theorem test_point : nextIs (.pointAssign 5 hm 0 1 1) r0 (fun u => (u.point 0).fn == .door && (u.point 0).polarity == .activeLow) =
    true := by decide +kernel
theorem test_save : nextIs (.saveWriteEnd 5 none) (r0.setJob .main (some (.save 3 [1, 2]))) (fun u =>
    u.store == ⟨[1, 2], false⟩ && u.status == .good) = true := by decide +kernel
theorem test_batch_stops : nextIs (.batch 5 (.begin hm [⟨0x10, [0]⟩, ⟨0x10, [24]⟩, ⟨0x11, [0]⟩] 3)) r0 (fun u =>
    replies .main .stopped [1, 0, 0, 1, Status.range.code] u && (u.line 0).state == .training 90000005) = true := by decide +kernel
theorem test_message : nextIs (.bodyCharacter 5 .main (charOf false 0xFC)) (r0.setRecv .main (.take
    ⟨7, false, [3, 0x01, 0], some 4, false, 0, 20000⟩)) (replies .main .ok [0x43, 0x4C, 0x32, 0x34]) = true := by decide +kernel
/-- The IDENT exchange of chapter 12's example: TAG 42, drop address 7, settings GOOD, cause POWER. -/
theorem test_ident_exchange :
    (charOf true 7).parity = false ∧ (charOf true 7).bits = [false, true, true, true, false, false, false, false, false,
      true, false, true] ∧
    nextIs (.bodyCharacter 5 .main (charOf false 210)) ({ r0 with status := .good }.setRecv .main (.take
      ⟨7, false, [3, 0x01, 42], some 4, false, 0, 20000⟩)) (fun u => (u.sentChars .main).map SerialChar.data ==
        [12, 0x01, 42, 0, 0x43, 0x4C, 0x32, 0x34, 3, 7, 0, 0, 202]) = true := by decide +kernel
/-- A BATCH that came as characters waits, and its row takes its sub-request. -/
theorem test_batch_by_characters :
    nextIs (.bodyCharacter 5 .main (charOf false 214)) (r0.setRecv .main (.take
      ⟨7, false, [7, 0x08, 9, 1, 0x10, 1, 0], some 8, false, 0, 20000⟩)) (fun u =>
        (u.port .main).job == some (.batch 9 [⟨0x10, [0]⟩] []) && (u.line 0).state == .idle &&
        nextIs (.batch 6 (.go .main 1)) u (fun v => (v.line 0).state == .training 90000006 && replies .main .ok [1, 0, 0] v)) =
      true := by decide +kernel
theorem test_uplink_asked :
    r0.asksUplink = true ∧ nextIs (.uplinkStatusReport 5 none) r0 (fun u => !u.asksUplink) = true := by decide +kernel
theorem test_power_loss : nextIs (.powerLoss 5) busy (fun u => !u.running && !u.driveEnable && u.stimulusCode == 2048) = true := by
  decide +kernel
theorem test_table_word : decodeTableWord 8 0 = none := rfl

/-! ### Witnesses: the step, the ports, the dispatcher -/

theorem witness_EveryCommandCompletes :
    r0.pending = [] ∧ nextIs (.syncUp 5 0) r0 (fun u => u.now == 5) = true ∧ ¬(64 ≤ 63 ∧ 63 ≤ 1536) ∧
    ¬(64 ≤ 1537 ∧ 1537 ≤ 1536) ∧ faults (.upstreamArrival 5 0 0 63) r0 = true ∧
    faults (.downstreamArrival 5 0 1537) r0 = true ∧ nextIs (.upstreamArrival 5 0 0 64) r0 (fun _ => true) = true ∧
    nextIs (.downstreamArrival 5 0 1536) r0 (fun _ => true) = true := by decide +kernel
theorem witness_StoppedPart :
    stopped.running = false ∧ { r0 with resetLow := true }.running = false ∧ (Instr.lineStart 5 hm 0).wf = true ∧
    (Instr.upstreamArrival 5 0 0 64).wf = true := by decide +kernel
theorem witness_AddressCharacter :
    r0.receiving .main = true ∧ r0.receiving .craft = true ∧ (charOf true 7).isAddress = true ∧
    (charOf true 31).isAddress = true ∧ (charOf true 8).isAddress = true ∧ (charOf true 0).isAddress = true := by
  decide +kernel
/-- The main link with a reply going out: it receives nothing, for AddressCharacter, BodyCharacterTaken and
BreakAndTimeout. -/
def sendingMain : State := r0.setJob .main (some (.sending [1] false))
theorem witness_main_link_sends :
    sendingMain.running = true ∧ sendingMain.ports.main.job = some (.sending [1] false) ∧
    sendingMain.receiving .main = false ∧ sendingMain.receiving .craft = true ∧ r0.ports.main.job = none := by
  decide +kernel
/-- A partial message with its body so far and the number expected. -/
def partOf (body : List Byte) (n : Option Nat) (damaged : Bool) : Partial :=
  ⟨7, false, body, n, damaged, 0, 20000⟩
def takingAt (p : PortId) (m : Partial) : State := r0.setRecv p (.take m)
theorem witness_BodyCharacterTaken :
    r0.receiving .main = true ∧ (r0.port .main).recv = .hunt ∧ ((r0.setRecv .craft .skip).port .craft).recv = .skip ∧
    (∀ d ∈ ([2, 3, 250, 251] : List Byte), (charOf false d).isAddress = false) ∧
    (takingAt .main (partOf [] none false)).receiving .main = true ∧
    ((takingAt .main (partOf [] none false)).port .main).recv = .take (partOf [] none false) ∧
    ((takingAt .craft (partOf [3] (some 4) false)).port .craft).recv = .take (partOf [3] (some 4) false) ∧
    (partOf [3] (some 4) false).body.length + 1 ≠ 4 := by decide +kernel
theorem witness_BodyCharacterCompletes :
    let whole := partOf [3, 0x01, 0] (some 4) false
    let s := takingAt .main whole
    let broken := partOf [3, 0x01, 0] (some 4) true
    s.receiving .main = true ∧ (charOf false 0xFC).isAddress = false ∧ (s.port .main).recv = .take whole ∧
    whole.expected = some (whole.body.length + 1) ∧ broken.damaged = true ∧
    ((takingAt .main broken).port .main).recv = .take broken ∧ broken.expected = some (broken.body.length + 1) ∧
    { charOf false 0xFC with stop := false }.damaged = true ∧ { charOf false 0xFC with stop := false }.isAddress = false ∧
    whole.damaged = false ∧ (charOf false 0xFC).damaged = false ∧ (whole.body ++ [0xFC]).sum = 0 ∧
    (whole.body ++ [0xFD]).sum ≠ 0 ∧ (charOf false 0xFD).damaged = false ∧
    whole.body ++ [0xFC] = 3 :: 0x01 :: 0 :: [0xFC] ∧ ((takingAt .craft whole).port .craft).recv = .take whole ∧
    (takingAt .craft whole).receiving .craft = true := by decide +kernel
theorem witness_BreakAndTimeout :
    r0.receiving .main = true ∧ (r0.setRecv .main .skip).receiving .main = true ∧
    (takingAt .main (partOf [] none false)).receiving .main = true ∧ r0.running = true ∧
    0 + (partOf [] none false).wait < 20001 ∧ ¬0 + (partOf [] none false).wait < 20000 := by decide +kernel
theorem witness_ReplyEnds :
    let out (p : PortId) (restart : Bool) := r0.setJob p (some (.sending [4, 1, 9, 0, 0xF2] restart))
    (out .main false).running = true ∧ (out .main false).ports.main.job = some (.sending [4, 1, 9, 0, 0xF2] false) ∧
    (out .craft false).ports.craft.job = some (.sending [4, 1, 9, 0, 0xF2] false) ∧
    ((out .craft true).port .craft).job = some (.sending [4, 1, 9, 0, 0xF2] true) ∧
    ((out .main true).port .main).job = some (.sending [4, 1, 9, 0, 0xF2] true) ∧ (r0.port .main).job = none := by
  decide +kernel
theorem witness_ReplyBegins : ([] : List Byte).length ≤ 251 ∧ (List.replicate 251 (0 : Byte)).length ≤ 251 := by
  decide +kernel
theorem witness_MessageWhileExecuting :
    let s := r0.setJob .main (some (.save 3 [1]))
    let q := r0.setJob .main (some (.sending [1] false))
    s.running = true ∧ (s.port hm.port).job ≠ none ∧ requestOf (.lineStart 5 hm 0) = some (hm, .lineStart 0) ∧
    s.transmitting .main = false ∧ (q.port hm.port).job ≠ none ∧ q.transmitting .main = true ∧
    ((r0.setJob .craft (some .running)).port hc.port).job ≠ none := by decide +kernel
theorem witness_DispatcherChecks :
    Ready hm.port r0 ∧ Ready hc.port r0 ∧ Direct hm ∧ Direct hc ∧ acceptedKinds.contains 0x09 = false ∧
    acceptedKinds.contains 0x00 = false ∧ parse 0x10 [] = .badLength ∧ parse 0x10 [0, 0] = .badLength ∧
    requestOf (.lineStart 5 hc 0) = some (hc, .lineStart 0) ∧ permitted hc.port r0.doorOpen (.lineStart 0) = false ∧
    permitted hc.port doorAt.doorOpen (.status 1) = false ∧ Ready hc.port doorAt ∧
    permitted hm.port r0.doorOpen (.lineStart 24) = true ∧ fieldsOk (.lineStart 24) = false ∧
    fieldsOk (.lineStart 23) = true ∧ permitted .main r0.doorOpen (.flowRead 64) = true ∧ fieldsOk (.flowRead 64) = false ∧
    fieldsOk (.pointDrive 12 0) = false ∧ fieldsOk (.testCancel 0) = false := by decide +kernel
/-- The table's layouts, read from bytes written out: a two-byte value, flow content, a batch, a step. -/
theorem test_parse :
    parse 0x03 [1, 0x2C, 0x01] = .req (.setParameter 1 300) ∧
    parse 0x21 [0, 1, 1, 0x80, 0x34, 0x02, 0x78, 0x05, 0, 0x01, 0x02, 0x80] =
      .req (.flowPlace ⟨0, 1, 1, 0x80, 0x0234, 0x0578, 0, 0x800201⟩) ∧
    parse 0x08 [2, 0x10, 1, 5, 0x07, 0] = .req (.batch [⟨0x10, [5]⟩, ⟨0x07, []⟩]) ∧ parse 0x08 [2, 0x10, 1, 5] = .badLength ∧
    parse 0x30 [3, 0, 1, 0, 1, 2, 0x01, 0xFF, 0x02, 0, 7, 4, 0xF4, 0x01, 1, 5, 0, 0, 6, 1] =
      .req (.testOrder 3 0 1 0 [⟨2, 0xFF01, 2, 7, 4, 500, 1, 5, 0, 262⟩]) := by decide +kernel
/-- Requests whose counts fit their bytes and one whose do not; then fields at the ends of their ranges. -/
theorem witness_DispatcherChecks_counts :
    Declares (.batch (List.replicate 255 ⟨0x10, [0]⟩)) ∧ ¬Declares (.batch (List.replicate 256 ⟨0x10, [0]⟩)) ∧
    Declares (.testOrder 0 0 0 0 (List.replicate 255 ⟨0, 0, 0, 4, 1, 10, 0, 0, 0, 0⟩)) ∧ Declares .ident := by
  simp only [Declares]
  decide +kernel
theorem witness_DispatcherChecks_fields :
    InRange (.lineStart 23) ∧ ¬InRange (.lineStart 24) ∧ InRange (.flowRead 63) ∧ ¬InRange (.flowRead 64) ∧
    InRange (.flowFind 0 23 4095) ∧ ¬InRange (.flowFind 0 0 4096) ∧ InRange (.flowFind 1 24 0) ∧ ¬InRange (.flowFind 0 24 0) ∧
    InRange (.batch (List.replicate 8 ⟨0x10, [0]⟩)) ∧ ¬InRange (.batch []) := by
  simp only [InRange]
  decide +kernel
theorem witness_DispatcherChecks_codes :
    InRange (.testCancel 255) ∧ ¬InRange (.testCancel 0) ∧ InRange (.testResult 1 0) ∧ ¬InRange (.testResult 0 0) ∧
    InRange (.pointAssign 11 11 1) ∧ ¬InRange (.pointAssign 12 0 0) ∧ ¬InRange (.pointAssign 0 12 0) ∧
    InRange (.supply 4) ∧ ¬InRange (.supply 5) ∧ InRange (.flowPlace ⟨1, 1, 1, 0x80, 0, 0, 0, 0⟩) ∧
    ¬InRange (.flowPlace ⟨1, 1, 1, 24, 0, 0, 0, 0⟩) := by
  simp only [InRange, ContentCodes]
  decide +kernel
theorem witness_GroupMessages :
    Ready .main r0 ∧ requestOf (.lineStart 5 hg 0) = some ({ port := .main, group := true, tag := 7 }, .lineStart 0) ∧
    (∀ v, Req.lineStart 0 ≠ .supply v) ∧ Req.lineStart 0 ≠ .testHalt ∧ Req.lineStart 0 ≠ .restart ∧
    requestOf (.supply 5 hg 0) = some (hg, .supply 0) ∧ 4 < (5 : Byte).toNat ∧ (1 : Byte) = supplyCode .mains ∧
    (4 : Byte) = supplyCode .battCrit ∧
    requestOf (.testHalt 5 hg) = some (hg, .testHalt) ∧ requestOf (.restart 5 hg) = some (hg, .restart) ∧
    acceptedKinds.contains 0x09 = false ∧ parse 0x40 [] = .badLength ∧ parse 0x34 [0] = .badLength := by
  exact ⟨by decide +kernel, by decide +kernel, fun _ => (nomatch ·), (nomatch ·), (nomatch ·),
    by decide +kernel⟩

/-! ### Witnesses: reports, settings, batch -/

theorem witness_Reports :
    Ready hm.port r0 ∧ Ready hc.port r0 ∧ Direct hm ∧ Direct hc ∧ Entitled hm.port r0 ∧ Ready hc.port doorAt ∧
    Entitled hc.port doorAt ∧ hm.port = .main ∧ busy.sched.active.length ≤ 24 ∧ allLines.length ≤ 24 ∧
    (List.replicate 5 (⟨.loop, 10, .fail⟩ : StepResult)).length ≤ 5 ∧ r0.flows[(0 : FlowIdx)] = none ∧
    busy.flows[(0 : FlowIdx)] = some entry0 := by decide +kernel
def ceilingAt (n : Nat) : State :=
  { r0 with params := { r0.params with capCeiling := n }, energy := { r0.energy with cap := n } }
theorem witness_SetParameter :
    Ready hm.port r0 ∧ Direct hm ∧ hm.port = .main ∧ paramOk 0 1 = false ∧ paramOk 11 1 = false ∧ paramOk 1 31 = false ∧
    paramOk 1 30 = true ∧ paramOk 1 1 = true ∧ paramOk 1 7 = true ∧ r0.params.get 1 = 7 ∧ r0.params.get 1 ≠ 30 ∧
    paramOk 10 1 = true ∧ r0.params.get 10 ≠ 1 ∧ 1 < r0.energy.cap ∧ Ready .main (ceilingAt 2) ∧
    paramOk 2 96 = true ∧ paramOk 2 95 = false ∧ paramOk 3 5 = true ∧ paramOk 3 256 = false ∧ paramOk 4 5000 = true ∧
    paramOk 4 51 = false ∧ paramOk 5 250 = true ∧ paramOk 5 9 = false ∧ paramOk 6 8 = false ∧ paramOk 7 121 = false ∧
    paramOk 8 3 = false ∧ paramOk 9 60 = true ∧ paramOk 9 0 = false ∧ paramOk 10 5 = false ∧
    paramOk 10 3 = true ∧ (ceilingAt 2).params.get 10 ≠ 3 ∧ ¬3 < (ceilingAt 2).energy.cap ∧
    (ceilingAt 2).params.capCeiling < 3 := by decide +kernel
def noticesAt (n : Nat) : State :=
  { r0 with notices := { queue := List.replicate n (.miss 0 1), lost := 2 } }
theorem witness_FetchNotices :
    Ready hm.port (noticesAt 8) ∧ Direct hm ∧ (noticesAt 8).notices.queue.length ≤ 8 ∧
    8 < (noticesAt 9).notices.queue.length ∧ Ready hm.port (noticesAt 9) ∧ Ready hc.port r0 ∧ hc.port = .craft ∧
    Ready hm.port (noticesAt 0) := by decide +kernel
theorem witness_SaveSettings :
    let s := r0.setJob .main (some (.save 3 [1, 2]))
    Ready hm.port r0 ∧ Direct hm ∧ hm.port = .main ∧ s.running = true ∧ s.ports.main.job = some (.save 3 [1, 2]) := by
  decide +kernel
theorem witness_Restart :
    Ready hm.port r0 ∧ Direct hm ∧ Entitled hm.port r0 ∧ Ready hc.port doorAt ∧ Entitled hc.port doorAt ∧
    Ready hc.port r0 ∧ hc.port = .craft ∧ r0.doorOpen = false := by decide +kernel
theorem witness_Batch :
    let one : RawSub := { kind := 0x10, payload := [0] }
    let s := r0.setJob .main (some (.batch 3 [one] []))
    Ready hm.port r0 ∧ Direct hm ∧ Entitled hm.port r0 ∧ ([] : List RawSub).length = 0 ∧ 8 < (List.replicate 9 one).length ∧
    1 ≤ [one].length ∧ (List.replicate 8 one).length ≤ 8 ∧ s.running = true ∧
    (s.port .main).job = some (.batch 3 [one] []) ∧ (subRun .main one r0).1.status = .ok ∧
    (subRun .main { kind := 0x10, payload := [24] } r0).1.status ≠ .ok ∧
    (subRun .main { kind := 0x08, payload := [0] } r0).1.status = .unknown ∧ parse 0x10 [] = .badLength ∧ parse 0x10 [0] = .req (.lineStart 0) ∧
    Ready hc.port r0 ∧ Direct hc ∧ hc.port = .craft ∧ r0.doorOpen = false := by
  decide +kernel

/-! ### Witnesses: lines -/

/-- The budget that the state's supply has becomes n. -/
def budgetAt (n : Nat) (s : State) : State :=
  { s with energy := { s.energy with budgets := { s.energy.budgets with battLow := n } } }
theorem witness_LineStart :
    Ready hm.port r0 ∧ Direct hm ∧ Entitled hm.port r0 ∧ 1 ≤ (r0.line 0).profile.cost ∧ (r0.line 0).state = .idle ∧
    (budgetAt 19 r0).committed + ((budgetAt 19 r0).line 0).profile.cost ≤ (budgetAt 19 r0).budget ∧
    Ready hm.port (budgetAt 18 r0) ∧
    (budgetAt 18 r0).budget < (budgetAt 18 r0).committed + ((budgetAt 18 r0).line 0).profile.cost ∧
    (∀ st ∈ ([.training 9, .inService, .shed, .withdrawn .idle .offBus, .withdrawn .training .onBus,
        .withdrawn (.quarantined .test) .onBus, .quarantined .training, .unequipped] : List LineState),
      Ready hm.port (lineAt st) ∧ ((lineAt st).line 0).state = st ∧ 1 ≤ ((lineAt st).line 0).profile.cost) ∧
    Ready hc.port doorAt ∧ Entitled hc.port doorAt := by decide +kernel
theorem witness_LineStop :
    (∀ st ∈ ([.training 9, .inService, .idle, .shed, .withdrawn .idle .offBus, .withdrawn .training .onBus,
        .withdrawn (.quarantined .test) .onBus, .quarantined .training, .unequipped] : List LineState),
      Ready hm.port (lineAt st) ∧ ((lineAt st).line 0).state = st ∧ 1 ≤ ((lineAt st).line 0).profile.cost ∧
        Entitled hm.port (lineAt st)) ∧ Direct hm := by decide +kernel
theorem flows_free : ∀ (k : FlowIdx) (e : FlowEntry), r0.flows[k] ≠ some e := by
  have h : ∀ k : FlowIdx, r0.flows[k] = none := by decide +kernel
  intro k e; rw [h]; exact fun h => nomatch h
def queuedAt : State := { r0 with engine := { r0.engine with queue := [{ order1 with line := 0 }], lastId := 1 } }
theorem witness_LineClearAndEquip :
    (∀ st ∈ ([.quarantined .test, .withdrawn (.quarantined .training) .onBus, .idle, .unequipped, .inService] : List LineState),
      Ready hm.port (lineAt st) ∧ Direct hm ∧ Entitled hm.port (lineAt st) ∧ ((lineAt st).line 0).state = st) ∧
    (r0.line 0).state = .idle ∧ (∀ o ∈ r0.engine.queue, o.line ≠ 0) ∧ hm.port = .main ∧
    (∀ (k : FlowIdx) e, r0.flows[k] = some e → e.owner ≠ .line 0 ∧ LineSet.has e.members 0 = false) ∧
    (∃ (k : FlowIdx) (e : FlowEntry), busy.flows[k] = some e ∧ e.owner = .line 0) ∧ Ready hm.port busy ∧
    (∃ o ∈ queuedAt.engine.queue, o.line = 0) ∧ Ready hm.port queuedAt := by
  refine ⟨by decide +kernel, by decide +kernel, by decide +kernel, rfl, fun k e h => absurd h (flows_free k e),
    ⟨0, entry0, by decide +kernel, rfl⟩, by decide +kernel, ⟨_, List.mem_cons_self, rfl⟩, by decide +kernel⟩
/-- Weight, keep class, cost and ingress limit in the ranges of R2. -/
def profileIn (w k c g : Byte) : Bool :=
  decide (1 ≤ w.toNat ∧ w.toNat ≤ 12 ∧ k.toNat ≤ 3 ∧ 1 ≤ c.toNat ∧ c.toNat ≤ 15 ∧ 1 ≤ g.toNat ∧ g.toNat ≤ 48)
theorem witness_LineProfile :
    Ready hm.port r0 ∧ Direct hm ∧ hm.port = .main ∧ (1 : Byte).toNat ≤ 1 ∧ (0 : Byte).toNat ≤ 1 ∧
    ((lineAt .unequipped).line 0).state = .unequipped ∧ Ready hm.port (lineAt .unequipped) ∧
    (r0.line 0).state ≠ .unequipped ∧
    profileIn 0 0 1 1 = false ∧ profileIn 13 0 1 1 = false ∧ profileIn 1 4 1 1 = false ∧ profileIn 1 0 0 1 = false ∧
    profileIn 1 0 16 1 = false ∧ profileIn 1 0 1 0 = false ∧ profileIn 1 0 1 49 = false ∧ profileIn 1 0 1 1 = true ∧
    profileIn 12 3 15 48 = true ∧
    ((lineAt .inService).line 0).state = .inService ∧ Ready hm.port (lineAt .inService) ∧
    ((lineAt .inService).line 0).profile.cost = 3 := by decide +kernel
theorem witness_SyncAndDeadline :
    r0.running = true ∧ (lineAt (.training 9)).running = true ∧ ((lineAt (.training 9)).line 0).state = .training 9 ∧
    9 ≤ max (lineAt (.training 9)).now 9 ∧ 1 ≤ ((lineAt (.training 9)).line 0).profile.cost ∧
    max (lineAt (.training 9)).now 8 < 9 ∧ ((lineAt .inService).line 0).state = .inService := by decide +kernel
theorem witness_LineMoves :
    ((lineAt .inService).line 0).state = .inService ∧ LineState.idle ≠ .inService ∧ ¬(r0.line 0).state = .inService ∧
    r0.running = true := by decide +kernel

/-! ### Witnesses: flow table and traffic -/

theorem witness_FlowWrite :
    let good : FlowContent := ⟨0, 1, 1, 1, 16, 32, 3, 0⟩
    let shared : FlowContent := ⟨0, 0, 1, 0x80, 4095, 4095, 0, 1⟩
    Ready hm.port busy ∧ Direct hm ∧ hm.port = .main ∧ ContentCodes good ∧ ContentCodes shared ∧
    good.span.toNat ≤ 6 ∧ 2 ^ good.span.toNat ∣ good.lineBase.toNat ∧ 2 ^ good.span.toNat ∣ good.uplinkBase.toNat ∧
    good.owner = lineByte 1 ∧ busy.equipped 1 = true ∧ good.members = 0 ∧
    (∀ l, LineSet.has shared.members l = true → busy.equipped l = true) ∧ shared.members ≠ 0 ∧
    ¬(⟨0, 0, 0, 1, 16, 32, 3, 0⟩ : FlowContent).up = 1 ∧ ¬(2 ^ 3 ∣ 17) ∧ ¬(7 ≤ 6) ∧
    (∀ j : FlowIdx, j ≠ 0 → busy.flows[j] = none) ∧ busy.flows[(0 : FlowIdx)] = some entry0 ∧
    entry0.lineBase < 8 + 2 ^ 0 ∧ (8 : Nat) < entry0.lineBase + 2 ^ entry0.spanExp := by
  simp only [ContentCodes]
  decide +kernel
def fullTable : State :=
  { r0 with flows := Vector.ofFn fun k => some { entry0 with owner := .line 2, lineBase := 64 * k.val, uplinkBase := 64 * k.val } }
theorem witness_FlowWrite_full : (∀ j : FlowIdx, fullTable.flows[j] ≠ none) ∧ Ready hm.port fullTable := by decide +kernel
theorem witness_FlowDrop :
    Ready hm.port busy ∧ Direct hm ∧ 64 ≤ (64 : Byte).toNat ∧ (63 : Byte).toNat = (63 : FlowIdx).val ∧
    busy.flows[(63 : FlowIdx)] = none ∧ (0 : Byte).toNat = (0 : FlowIdx).val ∧ busy.flows[(0 : FlowIdx)] ≠ none := by
  decide +kernel
theorem witness_FlowClear : Ready hm.port busy ∧ Direct hm ∧ (0 : Byte).toNat ≤ 1 ∧ (1 : Byte).toNat ≤ 1 := by
  decide +kernel
theorem witness_FlowFind :
    (Ready hm.port busy ∧ Direct hm ∧ Entitled hm.port busy) ∧ FlowsOk busy ∧
    (busy.flows[(0 : FlowIdx)] = some entry0 ∧ entry0.up = true ∧ entry0.owner = .line 0 ∧ entry0.down = true ∧
      entry0.lineBase ≤ 15 ∧ 15 < entry0.lineBase + 2 ^ entry0.spanExp ∧
      entry0.uplinkBase ≤ 23 ∧ 23 < entry0.uplinkBase + 2 ^ entry0.spanExp) ∧
    (∀ (k : FlowIdx) e, busy.flows[k] = some e →
      ¬(e.up = true ∧ (e.owner = .line 0 ∨ e.owner = .shared) ∧ e.lineBase ≤ 16 ∧ 16 < e.lineBase + 2 ^ e.spanExp)) ∧
    (∀ (k : FlowIdx) e, busy.flows[k] = some e →
      ¬(e.down = true ∧ e.uplinkBase ≤ 24 ∧ 24 < e.uplinkBase + 2 ^ e.spanExp)) ∧
    (4095 < (4096 : Half).toNat ∧ 1 < (2 : Byte).toNat ∧ 24 ≤ (24 : Byte).toNat ∧ (4095 : Half).toNat ≤ 4095) := by
  refine ⟨by decide +kernel, busy_flowsOk, by decide +kernel, fun k e h => ?_, fun k e h => ?_, by decide +kernel⟩
  · obtain ⟨rfl, rfl⟩ := busy_zero h; decide
  · obtain ⟨rfl, rfl⟩ := busy_zero h; decide
/-- The busy machine with n free cells, n frames in line 0's ingress queue, and n more held. -/
def freeAt (n : Nat) : State := { busy with pool := { busy.pool with free := n } }
def ingressAt (n : Nat) : State :=
  { busy with sched := { busy.sched with ingress := busy.sched.ingress.set 0 (List.replicate n 0) } }
def heldAt (n : Nat) : State := { busy with hold := List.replicate n { frame := 1, expiry := 1000000 } }
theorem witness_UpstreamArrival :
    FlowsOk busy ∧ FlowsOk (freeAt 1) ∧ FlowsOk (ingressAt 16) ∧ FlowsOk (heldAt 8) ∧
    (busy.running = true ∧ (busy.line 2).state ≠ .inService ∧ (busy.line 0).state = .inService ∧
      (freeAt 1).pool.free < (129 + 127) / 128 ∧ (64 + 127) / 128 ≤ (freeAt 1).pool.free ∧
      busy.flows[(0 : FlowIdx)] = some entry0 ∧ entry0.up = true ∧ entry0.owner = .line 0 ∧ entry0.lineBase ≤ 8 ∧
      8 < entry0.lineBase + 2 ^ entry0.spanExp ∧
      (ingressAt 15).sched.ingress[(0 : LineNo)].length < ((ingressAt 15).line 0).profile.limit ∧
      ((ingressAt 16).line 0).profile.limit ≤ (ingressAt 16).sched.ingress[(0 : LineNo)].length ∧
      (heldAt 7).hold.length < 8 ∧ 8 ≤ (heldAt 8).hold.length) ∧
    (∀ (k : FlowIdx) e, busy.flows[k] = some e →
      ¬(e.up = true ∧ (e.owner = .line 0 ∨ e.owner = .shared) ∧ e.lineBase ≤ 99 ∧ 99 < e.lineBase + 2 ^ e.spanExp)) ∧
    (∃ h ∈ busy.hold, ∃ f, busy.pool.find h.frame = some f ∧ f.origin = .line 0 ∧ f.tag = 99) ∧
    ¬(∃ h ∈ busy.hold, ∃ f, busy.pool.find h.frame = some f ∧ f.origin = .line 0 ∧ f.tag = 98) := by
  refine ⟨busy_flowsOk, ⟨busy_flowsOk.up, busy_flowsOk.down⟩, ⟨busy_flowsOk.up, busy_flowsOk.down⟩,
    ⟨busy_flowsOk.up, busy_flowsOk.down⟩, by decide +kernel, fun k e h => ?_,
    ⟨_, List.mem_cons_self, _, rfl, rfl, rfl⟩, ?_⟩
  · obtain ⟨rfl, rfl⟩ := busy_zero h; decide
  · rintro ⟨h, hm, f, hf, -, ht⟩
    cases List.mem_singleton.mp hm
    cases Option.some.inj hf
    exact absurd ht (by decide)
theorem witness_DownstreamArrival :
    FlowsOk busy ∧ FlowsOk (freeAt 0) ∧ busy.running = true ∧ busy.flows[(0 : FlowIdx)] = some entry0 ∧
    entry0.down = true ∧ entry0.uplinkBase ≤ 16 ∧ 16 < entry0.uplinkBase + 2 ^ entry0.spanExp ∧
    entry0.owner = .line 0 ∧ (busy.line 0).state = .inService ∧ busy.egress[(0 : LineNo)].length < 24 ∧
    (∀ (k : FlowIdx) e, busy.flows[k] = some e →
      ¬(e.down = true ∧ e.uplinkBase ≤ 24 ∧ 24 < e.uplinkBase + 2 ^ e.spanExp)) := by
  refine ⟨busy_flowsOk, ⟨busy_flowsOk.up, busy_flowsOk.down⟩, by decide +kernel, by decide +kernel, rfl, by decide,
    by decide, rfl, by decide +kernel, by decide +kernel, fun k e h => ?_⟩
  obtain ⟨rfl, rfl⟩ := busy_zero h; decide
def takesAt : State :=
  { busy with egress := busy.egress.set 0 [1], sched := { busy.sched with launch := [0] } }
theorem witness_UplinkAndTakes :
    busy.running = true ∧ busy.uplink.status = some .one ∧ busy.uplink.status ≠ none ∧ busy.uplink.status ≠ some .two ∧
    (takesAt.line 0).state = .inService ∧ takesAt.egress[(0 : LineNo)] = [1] ∧ takesAt.sched.launch = [0] ∧
    (takesAt.pool.find 0).map Frame.origin = some (.line 0) ∧ busy.egress[(0 : LineNo)] = [] ∧ r0.uplink.status = none ∧
    (pool2.frames.map Prod.fst).Nodup ∧ (pool2.find 0).map Frame.refs = some 1 ∧
    (({ pool2 with frames := [(0, ⟨.uplink, 16, 100, 1, 2⟩)] } : Pool).find 0).map Frame.refs = some 2 := by
  decide +kernel
theorem witness_HeldFramesEnd :
    busy.running = true ∧ busy.findHeld 0 99 = some { frame := 1, expiry := 1000000 } ∧ busy.findHeld 0 98 = none ∧
    1000000 ≤ max busy.now 1000000 ∧ max busy.now 999999 < 1000000 ∧ PoolOk busy ∧
    busy.flows[(0 : FlowIdx)] = some entry0 :=
  ⟨by decide +kernel, by decide +kernel, by decide +kernel, by decide +kernel, by decide +kernel, busy_pool,
    by decide +kernel⟩
/-- Lines 0 and, when given, 1 in the active list, line 0 with n frames of 100 bytes and a deficit. -/
def roundAt (n : Nat) (rest : List LineNo) (deficit : Nat) : State :=
  { busy with sched := { busy.sched with
    ingress := (busy.sched.ingress.set 0 (List.replicate n 0)).set 1 [0], active := 0 :: rest
    deficit := busy.sched.deficit.set 0 deficit } }
theorem witness_SchedulerDecision :
    busy.running = true ∧ (roundAt 2 [1] 100).sched.active.Nodup ∧ r0.sched.active = [] ∧ r0.sched.active.Nodup ∧
    (∀ n ∈ [1, 2], ∀ rest ∈ ([[], [1]] : List (List LineNo)), ∀ d ∈ [99, 100],
      (roundAt n rest d).sched.launch.length < 4 ∧ (roundAt n rest d).sched.active = 0 :: rest ∧
      (roundAt n rest d).sched.ingress[(0 : LineNo)].head? = some 0) ∧
    (roundAt 1 [] 100).frameLength 0 ≤ (roundAt 1 [] 100).sched.deficit[(0 : LineNo)] ∧
    (roundAt 1 [] 99).sched.deficit[(0 : LineNo)] < (roundAt 1 [] 99).frameLength 0 ∧
    4 ≤ [0, 0, 0, 0].length := by decide +kernel

/-! ### Witnesses: tests -/

def stepOf (kind : Byte) (first high : Half) : RawStep := ⟨kind, first, high, 7, 1, 10, 1, 5, 1, 5⟩
theorem witness_TestOrderPlaced_id :
    RangesOk busy ∧ busy.engine.lastId ≤ 255 ∧ busy.engine.nextId = 2 ∧ (2 : Nat) ∉ busy.engine.ids ∧
    (255 : Nat) ∉ busy.engine.ids ∧ ({ busy with engine := { busy.engine with lastId := 255 } } : State).engine.nextId = 2 :=
  ⟨busy_rangesOk, by decide +kernel, by decide +kernel, by decide +kernel, by decide +kernel, by decide +kernel⟩
theorem witness_TestOrderPlaced :
    let one := [stepOf 0 52 0]
    Ready hm.port r0 ∧ Direct hm ∧ Entitled hm.port r0 ∧ Ready hc.port doorAt ∧ Entitled hc.port doorAt ∧
    (∀ x ∈ one, StepCodes x) ∧ (lineAt .unequipped).equipped 0 = false ∧ r0.equipped 0 = true ∧
    5 < (List.replicate 6 (stepOf 0 52 0)).length ∧
    hostSteps [stepOf 0 2048 0] = none ∧ (hostSteps one).isSome = true ∧
    (hostSteps (List.replicate 5 (stepOf 3 2047 0))).isSome = true ∧ r0.engine.queue.length < 8 ∧
    8 ≤ (List.replicate 8 order1).length ∧
    (∀ r ∈ [stepOf 0 0xF800 0, stepOf 1 2047 0, stepOf 2 0xF800 2047, stepOf 3 0 0],
      StepCodes r ∧ (RawStep.host r).isSome = true) ∧
    (∀ r ∈ [stepOf 0 0xF7FF 0, stepOf 1 2048 0, stepOf 2 5 5, stepOf 3 0xFFFF 0],
      StepCodes r ∧ (RawStep.host r).isSome = false) ∧
    (∀ r ∈ [{ stepOf 0 0 0 with exp := 8 }, { stepOf 1 0 0 with period := 0 }, { stepOf 2 0 1 with window := 9 },
        { stepOf 3 0 0 with window := 2001 }, { stepOf 3 0 0 with lower := 6 }],
      StepCodes r ∧ (RawStep.host r).isSome = false) := by
  simp only [StepCodes]
  decide +kernel
/-- The machine with order 1 queued, from the main link or from the craft port, and the door open. -/
def cancelAt (origin : PortId) : State :=
  { doorAt with engine := { doorAt.engine with queue := [{ order1 with origin }], lastId := 1 } }
theorem witness_TestOrderCancelled :
    Ready hm.port (cancelAt .main) ∧ Direct hm ∧ Entitled hm.port (cancelAt .main) ∧ (1 : Byte) ≠ 0 ∧
    (cancelAt .main).engine.queue.find? (fun q => q.id == (1 : Byte).toNat) = some order1 ∧
    Ready hc.port (cancelAt .main) ∧ Entitled hc.port (cancelAt .main) ∧ hc.port = .craft ∧ order1.origin = .main ∧
    (∀ o ∈ busy.engine.queue, o.id ≠ (1 : Byte).toNat) ∧ (busy.engine.current.map fun c => c.order.id) = some 1 ∧
    (busy.engine.current.map fun c => c.phase.early) = some true ∧ Ready hm.port busy ∧
    ((busyAt .releaseRamp .onBus driving).engine.current.map fun c => c.phase.early) = some false ∧
    r0.engine.current = none ∧ r0.engine.queue = [] := by decide +kernel
def result1 : Result :=
  { id := 1, origin := .main, line := l1, outcome := .aborted, cause := some .cancel, foreignValue := none, steps := [],
    exit := none, returned := none, readMain := false, readCraft := true }
def resultAt : State := { doorAt with engine := { doorAt.engine with results := [result1], lastId := 1 } }
theorem witness_TestResultAndHalt :
    Ready hm.port resultAt ∧ Direct hm ∧ Entitled hm.port resultAt ∧ Entitled hc.port resultAt ∧ (1 : Byte) ≠ 0 ∧
    resultAt.engine.results.find? (fun r => !r.readMain) = some result1 ∧
    resultAt.engine.results.find? (fun r => !r.readCraft) = none ∧
    resultAt.engine.results.find? (fun r => r.id == (1 : Byte).toNat) = some result1 ∧ hm.port = .main ∧
    r0.engine.current = none ∧ busy.engine.current.isSome = true ∧
    (busy.engine.current.map fun c => c.phase.early) = some true ∧
    ((busyAt .releaseRamp .onBus driving).engine.current.map fun c => c.phase.early) = some false := by decide +kernel
/-- Order 1 queued for line 1 in a state, with the budget n in force. -/
def attemptAt (st : LineState) (intr : Bool) (n : Nat) : State :=
  let v := budgetAt n (r0.setLine l1 fun r => { r with state := st })
  { v with engine := { v.engine with queue := [{ order1 with interrupt := intr }], lastId := 1 } }
theorem witness_Attempt :
    busy.engine.current ≠ none ∧ r0.engine.queue = [] ∧
    (∀ st ∈ ([.idle, .shed, .quarantined .test] : List LineState), ∀ n ∈ [21, 22],
      (attemptAt st false n).engine.current = none ∧ ((attemptAt st false n).line l1).state = st ∧
      ((attemptAt st false n).engine.queue.find? (fun q => q.origin == .craft)).or
        (attemptAt st false n).engine.queue.head? = some order1 ∧ (attemptAt st false n).points.surge = .calm ∧
      (attemptAt st false n).energy.supply ≠ .battCrit) ∧
    (attemptAt .idle false 22).committed + 6 ≤ (attemptAt .idle false 22).budget ∧
    ¬(attemptAt .idle false 21).committed + 6 ≤ (attemptAt .idle false 21).budget ∧
    ((attemptAt .inService true 22).line l1).state = .inService ∧
    (attemptAt .inService true 22).committed + 6 ≤
      (attemptAt .inService true 22).budget + ((attemptAt .inService true 22).line l1).profile.cost ∧
    (attemptAt .inService false 25).committed + 6 ≤ (attemptAt .inService false 25).budget := by decide +kernel

/-! ### Witnesses: generator, phases, exits -/

def genAt (program : Program) (motion : Motion) (code : Nat) (sine : Option Nat) (dir : Option Dir) : State :=
  { r0 with gen := { driving with program, motion, code, sine, dir, next := some 20 } }
theorem witness_StepEvent :
    r0.running = true ∧ (∀ e, r0.gen.next ≠ some e) ∧ (genAt (.level 2100) .ramping 2048 none none).gen.next = some 20 ∧
    max r0.now 19 < 20 ∧ 20 ≤ max r0.now 20 ∧ max 2048 2176 - min 2048 2176 ≤ 2 ^ 7 ∧
    ¬max 2048 2177 - min 2048 2177 ≤ 2 ^ 7 ∧
    (genAt (.triangle 2048 2100) .settled 2048 none (some .up)).gen.dir = some .up ∧
    (genAt (.triangle 2048 2100) .settled 2100 none (some .down)).gen.dir = some .down ∧
    (genAt (.sine 2047 0) .settled 2048 (some 31) none).gen.sine = some 31 ∧ 31 < 32 ∧ 0 < 32 ∧
    (Program.level 2100).settling ≠ r0.gen.code ∧ Program.rest.settling = r0.gen.code := by
  refine ⟨by decide +kernel, fun e => by simp [r0, State.reset, Generator.atRest], by decide +kernel⟩
theorem witness_EngineTimers :
    (∀ ph ∈ ([.warmup 9, .firstSettle 9, .secondSettle 9, .foreign none, .step 1 none, .releaseRamp,
        .exit ⟨.cancel, none, .ramp, .ramp, false⟩] : List Phase),
      (busyAt ph .onBus driving).running = true ∧
      (busyAt ph .onBus driving).engine.current = some ⟨order1, ph, some 5, [], .pass⟩ ∧
      ((busyAt ph .onBus driving).line order1.line).state = .withdrawn .idle .onBus) ∧
    order1.steps[1 - 1]? = some loop0 ∧ (9 ≤ max busy.now 9) ∧ max busy.now 8 < 9 ∧
    (busyAt (.secondSettle 9) .onBus Generator.atRest).gen.code = 2048 := by decide +kernel
theorem witness_Readings :
    r0.running = true ∧ r0.engine.current = none ∧
    (∀ ph ∈ ([.foreign (some 9), .step 1 (some 9), .foreign none, .step 1 none, .releaseRamp, .warmup 9] : List Phase),
      (busyAt ph .onBus driving).running = true ∧
      (busyAt ph .onBus driving).engine.current = some ⟨order1, ph, some 5, [], .pass⟩) ∧
    10 * busy.params.hazardLimit ≤ max 3 (max 600 4) ∧ max 599 (max 3 4) < 10 * busy.params.hazardLimit ∧
    order1.steps[0]? = some loop0 ∧ order1.steps.length ≤ 1 ∧ 1 < [loop0, loop0].length ∧ [loop0, loop0][1]? = some loop0 := by
  decide +kernel
theorem witness_StepVerdict :
    busy.running = true ∧ busy.engine.current = some ⟨order1, .step 1 (some 5000), some 5, [], .pass⟩ ∧
    order1.steps[1 - 1]? = some loop0 ∧ 1 ≤ 1 ∧ loop0.lower = some 5 ∧ loop0.upper = some 9 ∧ ¬(5 : Half).toNat < 5 ∧
    (4 : Half).toNat < 5 ∧ ¬9 < (9 : Half).toNat ∧ 9 < (65535 : Half).toNat ∧
    ({ loop0 with lower := none, upper := none } : HostStep).lower = none ∧ 1 = order1.steps.length := by decide +kernel
theorem witness_HazardAndExits :
    (∀ ph ∈ ([.foreign none, .step 1 (some 5000), .exit ⟨.cancel, none, .ramp, .ramp, false⟩,
        .exit ⟨.cancel, none, .dwell, .dwell 9, false⟩, .exit ⟨.cancel, none, .cut, .settle 9, false⟩, .warmup 9] :
        List Phase), ∀ k ∈ [Conn.onBus, Conn.offBus],
      (busyAt ph k driving).running = true ∧
      (busyAt ph k driving).engine.current = some ⟨order1, ph, some 5, [], .pass⟩ ∧
      ((busyAt ph k driving).line order1.line).state = .withdrawn .idle k) ∧
    busy.params.exitMode = .ramp ∧ paramOk 8 0 = true ∧ paramOk 8 2 = true := by decide +kernel
theorem witness_OrderEnds :
    (∀ ph ∈ ([.releaseSettle 9, .exit ⟨.cancel, none, .cut, .settle 9, false⟩,
        .exit ⟨.cancel, none, .dwell, .dwell 9, false⟩] : List Phase),
      (busyAt ph .onBus driving).running = true ∧
      (busyAt ph .onBus driving).engine.current = some ⟨order1, ph, some 5, [], .pass⟩ ∧
      ((busyAt ph .onBus driving).line order1.line).state = .withdrawn .idle .onBus) ∧
    9 ≤ max busy.now 9 ∧ ¬9 ≤ max busy.now 8 := by decide +kernel

/-! ### Witnesses: energy, points, start, laws -/

def capAt (cap budget : Nat) (st : LineState) : State :=
  let v := budgetAt budget (lineAt st)
  { v with energy := { v.energy with cap, shed := if st = .shed then [0] else [] } }
theorem witness_EnergyPasses :
    r0.energy.supply = .unknown ∧ busy.energy.supply = .mains ∧ busy.committed = 3 + 6 + 16 ∧ r0.committed = 16 ∧
    (∀ cap ∈ [1, 2, 4], ∀ st ∈ ([.idle, .inService, .shed] : List LineState),
      1 ≤ (capAt cap 6 st).energy.cap ∧ (capAt cap 6 st).energy.cap ≤ (capAt cap 6 st).params.capCeiling ∧
      (capAt cap 6 st).params.capCeiling ≤ 4) ∧
    (capAt 1 7 .inService).committed ≤ (capAt 1 7 .inService).budget ∧
    (capAt 1 6 .inService).budget < (capAt 1 6 .inService).committed ∧
    (capAt 4 15 .idle).budget < (capAt 4 15 .idle).committed ∧ 1 < (capAt 4 15 .idle).energy.cap ∧
    (∀ l : LineNo, ((capAt 1 6 .inService).line l).state.counted = true → l = 0) ∧
    (∀ l : LineNo, ((capAt 1 3 .idle).line l).state.counted = false) ∧ (capAt 1 3 .idle).engine.current = none ∧
    (capAt 1 3 .idle).budget < (capAt 1 3 .idle).committed ∧ (capAt 1 7 .shed).energy.shed = [0] ∧
    (capAt 1 7 .shed).committed + ((capAt 1 7 .shed).line 0).profile.cost ≤ (capAt 1 7 .shed).budget ∧
    (capAt 1 6 .shed).budget < (capAt 1 6 .shed).committed + ((capAt 1 6 .shed).line 0).profile.cost ∧
    (capAt 1 7 .idle).committed + 7 ≤ (capAt 1 7 .idle).budget + 4 ∧
    (capAt 1 6 .idle).budget + 4 < (capAt 1 6 .idle).committed + 7 ∧
    (capAt 4 50 .idle).energy.cap = (capAt 4 50 .idle).params.capCeiling := by decide +kernel
/-- Order 1 current in a phase, from a port, its relay closed or open. -/
def phaseAt (origin : PortId) (ph : Phase) (conn : Conn) : State :=
  let v := busyAt ph conn driving
  { v with engine := { v.engine with current := some ⟨{ order1 with origin }, ph, some 5, [], .pass⟩ } }
/-- One phase of each kind, and an exit in each of its stages. -/
def onePhaseEach : List Phase :=
  [.warmup 9, .firstSettle 9, .secondSettle 9, .foreign none, .step 1 none, .releaseRamp, .releaseSettle 9,
   .exit ⟨.cancel, none, .ramp, .ramp, false⟩, .exit ⟨.cancel, none, .dwell, .dwell 9, false⟩,
   .exit ⟨.surge, none, .cut, .settle 9, false⟩, .exit ⟨.hazard, some .door, .cut, .settle 9, true⟩]
/-- For the clauses by phase of EngineTimers, HazardAndExits, OrderEnds, SupplyAndBudget, InputLevels and PointTimers, and
for their clauses on an idle engine. -/
theorem witness_phases :
    r0.engine.current = none ∧ r0.running = true ∧
    (∀ o ∈ [PortId.main, .craft], ∀ ph ∈ onePhaseEach, ∀ k ∈ [Conn.onBus, .offBus],
      (phaseAt o ph k).running = true ∧ (phaseAt o ph k).engine.current = some ⟨{ order1 with origin := o }, ph, some 5, [], .pass⟩ ∧
      ((phaseAt o ph k).line order1.line).state = .withdrawn .idle k) ∧
    onePhaseEach.map Phase.early = [true, true, true, true, true, false, false, false, false, false, false] := by
  decide +kernel
theorem witness_SupplyAndBudget :
    Ready hm.port r0 ∧ Direct hm ∧ hm.port = .main ∧ 4 < (5 : Byte).toNat ∧ (4 : Byte) = supplyCode .battCrit ∧
    (1 : Byte) = supplyCode .mains ∧ r0.energy.supply ≠ .mains ∧ busy.energy.supply = .mains ∧ Ready hm.port busy ∧
    (3 : Byte).toNat < 4 ∧ 4 ≤ (4 : Byte).toNat ∧ 4 ≤ (255 : Byte).toNat := by decide +kernel
theorem witness_PointRequests :
    Ready hm.port r0 ∧ Direct hm ∧ hm.port = .main ∧ (r0.point 0).fn = .unassigned ∧ (doorAt.point 0).fn = .door ∧
    Ready hm.port doorAt ∧ ((pointAt 8 .testPower none none).point 8).fn = .testPower ∧
    ({ pointAt 8 .testPower none none with engine := busy.engine } : State).engine.current ≠ none ∧
    Ready hm.port { pointAt 8 .testPower none none with engine := busy.engine } ∧
    ((pointAt 11 .lamp none none).point 11).fn = .lamp := by decide +kernel
/-- The change of function and polarity: the same function with a level or none, the level active or not under the new
polarity; each function released and taken up; SURGE with its input at the active level and not. -/
theorem witness_PointRequests_change :
    (∀ fn ∈ [PointFn.door, .mains, .spareIn, .surge], ∀ v ∈ [none, some Level.low, some .high],
      ((pointAt 0 fn v none).point 0).fn = fn ∧ ((pointAt 0 fn v none).point 0).polarity ≠ .activeLow ∧
      ((pointAt 0 fn v none).point 0).debounced = v ∧ Ready hm.port (pointAt 0 fn v none)) ∧
    Polarity.activeLow.active = .low ∧ PointFn.door ≠ .surge ∧
    (∀ fn ∈ inputFns ++ outputFns, ((pointAt 4 fn none none).point 4).fn ≠ .unassigned) ∧
    (∀ fn ∈ inputFns ++ outputFns, (r0.point 4).fn ≠ fn) ∧ (r0.point 0).input = Polarity.activeLow.active ∧
    (r0.point 0).input ≠ Polarity.activeHigh.active := by decide +kernel
theorem witness_PointRequests_permits :
    Permits 0 .surge ∧ ¬Permits 2 .surge ∧ Permits 3 .door ∧ Permits 4 .door ∧ ¬Permits 7 .surge ∧ Permits 8 .fan ∧
    ¬Permits 8 .door ∧ Permits 11 .unassigned ∧ Drives 8 .unassigned ∧ Drives 4 .fan ∧ ¬Drives 7 .door ∧ ¬Drives 3 .door := by
  simp only [permits_iff, drives_iff]
  decide +kernel
/-- Points that drive and do not, of a running part, and the door-open condition: the holder's level active and not. -/
theorem witness_PointRequests_points :
    Drives 8 ((pointAt 8 .capA none none).point 8).fn ∧ (pointAt 8 .capA none none).running = true ∧
    Drives 11 (r0.point 11).fn ∧ ¬Drives 0 (r0.point 0).fn ∧ Holds doorAt .door 0 ∧
    (doorAt.point 0).debounced = some (doorAt.point 0).polarity.active ∧ Holds (pointAt 3 .door (some .low) none) .door 3 ∧
    fnCode .fan = 11 ∧ polarityCode .activeLow = 1 := by
  simp only [drives_iff, Holds]
  decide +kernel
theorem witness_InputLevels :
    r0.running = true ∧ (r0.point 0).input = .low ∧ Level.high ≠ .low ∧ Drives 8 (r0.point 8).fn ∧ ¬Drives 0 (r0.point 0).fn ∧
    (r0.point 0).fn ≠ .surge ∧ ((pointAt 0 .surge none none).point 0).fn = .surge ∧
    ¬Drives 0 ((pointAt 0 .surge none none).point 0).fn ∧ Level.high = (r0.point 0).polarity.active ∧
    ((pointAt 0 .surge (some .high) none).point 0).debounced = some (r0.point 0).polarity.active := by
  simp only [drives_iff]
  decide +kernel
theorem witness_PointTimers :
    r0.running = true ∧
    (∀ fn ∈ [PointFn.door, .spareIn, .mains, .battLow, .battCrit, .unassigned],
      ¬Drives 2 ((pointAt 2 fn (some .high) (some 20000)).point 2).fn ∧
      ((pointAt 2 fn (some .high) (some 20000)).point 2).fn ≠ .surge ∧
      ((pointAt 2 fn (some .high) (some 20000)).point 2).window = some 20000) ∧
    20000 ≤ max r0.now 20000 ∧ max r0.now 19999 < 20000 ∧
    Holds (pointAt 0 .surge (some .high) (some 20000)) .surge 0 ∧
    ((pointAt 0 .surge (some .high) (some 20000)).point 0).window = some 20000 ∧
    Holds (pointAt 1 .surge (some .high) none) .surge 1 ∧ ((pointAt 1 .surge (some .high) none).point 1).window = none ∧
    (∀ p, (r0.point p).fn ≠ .surge) ∧ r0.points.surge = .calm ∧ Drives 8 (r0.point 8).fn ∧
    ({ r0 with points := { r0.points with surge := .quiet 9 } } : State).points.surge = .quiet 9 ∧
    (∀ p, (r0.point p).fn ≠ .mains) ∧ ((pointAt 2 .mains (some .high) none).point 2).fn = .mains ∧
    (pointAt 2 .mains (some .high) none).energy.supply ≠ .mains := by
  simp only [drives_iff, Holds]
  decide +kernel
theorem witness_PowerAndStart :
    r0.resetLow = false ∧ r0.powered = true ∧ ({ r0 with resetLow := true } : State).resetLow = true ∧
    stopped.powered = false ∧ r0.ports.main.job = none := by decide +kernel
/-- A store whose good image keeps two entries at index 0 and one each at 1 and 2, the last overlapping, assigns DOOR twice,
and SURGE. -/
def keptStore : State :=
  let good : FlowContent := ⟨1, 1, 1, 1, 16, 32, 3, 0⟩
  let st : Settings := { Settings.default with
    points := ((Settings.default.points.set 0 (.surge, .activeLow)).set 2 (.door, .activeHigh)).set 3 (.door, .activeHigh)
    kept := [(0, good), (0, good), (1, { good with span := 7 }), (2, good)] }
  { r0 with store := { words := st.image, mark := false } }
/-- What the start reads of it: an entry found, none found, content that fits and does not, an overlap; SURGE found active. -/
theorem witness_PowerAndStart_kept :
    let st := Settings.ofWords keptStore.store.words
    keptStore.store.good = true ∧ (r0.setJob .main (some (.save 3 [1]))).ports.main.job = some (.save 3 [1]) ∧
    (st.kept.find? (fun e => e.1 == (0 : FlowIdx).val)).isSome = true ∧ st.kept.find? (fun e => e.1 == (3 : FlowIdx).val) = none ∧
    (keptStore.start .pin).flows[(0 : FlowIdx)].isSome = true ∧ (keptStore.start .pin).flows[(1 : FlowIdx)] = none ∧
    (keptStore.start .pin).flows[(2 : FlowIdx)] = none ∧ ((keptStore.start .pin).point 3).fn = .unassigned ∧
    ((keptStore.start .pin).point 0).fn = .surge ∧
    ((keptStore.start .pin).point 0).input = ((keptStore.start .pin).point 0).polarity.active ∧
    (keptStore.start .pin).notices.queue = [.start .pin .good, .point 0 .surge true] := by decide +kernel
theorem witness_ContentFits :
    let good : FlowContent := ⟨1, 1, 1, 1, 16, 32, 3, 0⟩
    ContentFits r0.equipped good ∧ OwnerNamed good (.line 1) ∧ ¬ContentFits r0.equipped { good with span := 7 } ∧
    EntriesMeet entry0 entry0 ∧ ¬EntriesMeet (FlowContent.written (.line 1) good) { entry0 with owner := .line 1, lineBase := 24, uplinkBase := 40 } := by
  have h := FlowContent.entry_of_named r0.equipped
  refine ⟨Classical.byContradiction fun n => absurd ((h _ (.line 1) (.inl ⟨1, rfl, rfl⟩)).2 n) (by decide +kernel),
    .inl ⟨1, rfl, rfl⟩, fun n => absurd n.1 (by decide), (entriesMeet_iff _ _).mpr (by decide +kernel),
    fun n => absurd ((entriesMeet_iff _ _).mp n) (by decide +kernel)⟩
theorem witness_SavedImageLoads : RangesOk busy ∧ EnergyOk busy := ⟨busy_rangesOk, busy_energyOk⟩
/-- For PoolKept, FlowsKept, LinesKept, EnergyKept, RangesKept, SchedulerKept, BenchKept and OrderIdsKept.
The busy machine with a scheduler decision waiting: every law holds of it, and its step answers a next state. -/
def waiting : State := { busy with pending := [.schedulerDecision 5] }
theorem waiting_steps : ∃ u, step waiting = .next u := by
  have h : (match step waiting with | .next _ => true | _ => false) = true := by decide +kernel
  revert h
  cases step waiting with
  | next u => exact fun _ => ⟨u, rfl⟩
  | fault f => exact fun h => nomatch h
  | refused r => exact fun h => nomatch h
theorem witness_laws :
    PoolOk waiting ∧ FlowsOk waiting ∧ LinesOk waiting ∧ EnergyOk waiting ∧ RangesOk waiting ∧ SchedOk waiting ∧
    BenchOk waiting ∧ IdsOk waiting :=
  ⟨⟨busy_pool.conserved, busy_pool.distinct, busy_pool.fresh, busy_pool.sized, busy_pool.counted, busy_pool.recorded,
      busy_pool.heldOnce⟩,
   ⟨busy_flowsOk.up, busy_flowsOk.down⟩,
   ⟨busy_linesOk.shedOnce, busy_linesOk.shedExactly, busy_linesOk.withdrawnExactly, busy_linesOk.equippedNames⟩,
   ⟨busy_energyOk.cap, busy_energyOk.budgets, busy_energyOk.within⟩,
   ⟨busy_rangesOk.notices, busy_rangesOk.lost, busy_rangesOk.orders, busy_rangesOk.results, busy_rangesOk.launch,
      busy_rangesOk.hold, busy_rangesOk.egress, busy_rangesOk.ingress, busy_rangesOk.fails, busy_rangesOk.profiles,
      busy_rangesOk.params, busy_rangesOk.rate, busy_rangesOk.dropInForce, busy_rangesOk.rateInForce,
      busy_rangesOk.mainFaults, busy_rangesOk.craftFaults⟩,
   ⟨busy_schedOk.listedOnce, busy_schedOk.listedExactly, busy_schedOk.unlisted, busy_schedOk.waiting,
      busy_schedOk.current⟩,
   ⟨busy_benchOk.power, busy_benchOk.idle, fun c h => by cases h; exact ⟨rfl, by decide +kernel⟩⟩,
   ⟨busy_idsOk.distinct, busy_idsOk.range, busy_idsOk.last⟩⟩

end Sys2Proof.Tests
end

section
/-! LINE CLEAR and LINE EQUIP (R14, R18, R19, R20): what each operation of the line supervisor answers case by case,
carried through the dispatcher to the command's row. -/

namespace Sys2Proof.Machine

/-- A request row that passes the dispatcher's checks: what its owning block answers, on the machine with the message
handed over, is the outcome, with the reply going out (R176 to R178). -/
theorem exec_eq_answers {c : Instr} {h : Header} {r : Req} {s : State} {out : Reply × State}
    (hc : requestOf c = some (h, r)) (hr : Ready h.port s) (hd : Direct h)
    (hp : permitted h.port s.doorOpen r = true) (hf : fieldsOk r = true) (hk : answeredAtOnce r = true)
    (ho : own h.port r (s.taken (timeOf c) h.port) = out) :
    exec c s = .next (out.2.answers h (reqKind r) out.1.status out.1.payload) := by
  rw [exec_request hc, State.request_answers _ hr hd hp hf hk, ho]

/-! ### LINE CLEAR at the line supervisor (R18, R14) -/

theorem State.lineClear_of_quarantined {l : LineNo} {s : State} {q : QCause} (hst : (s.line l).state = .quarantined q) :
    s.lineClear l = (Reply.ok [], (s.setFail l 0).moveLine l .idle .request) := by
  simp only [State.lineClear, hst]

theorem State.lineClear_of_target_quarantined {l : LineNo} {s : State} {q : QCause} {c : Conn}
    (hst : (s.line l).state = .withdrawn (.quarantined q) c) :
    s.lineClear l = (Reply.ok [], (s.setFail l 0).setLineState l (.withdrawn .idle c)) := by
  simp only [State.lineClear, hst, State.editTarget]

theorem State.lineClear_of_not_quarantined {l : LineNo} {s : State} (hq : ∀ q, (s.line l).state ≠ .quarantined q)
    (ht : ∀ q c, (s.line l).state ≠ .withdrawn (.quarantined q) c) :
    s.lineClear l = (Reply.bad .state, s) := by
  unfold State.lineClear
  split
  case h_1 q hst => exact absurd hst (hq q)
  case h_2 q c hst => exact absurd hst (ht q c)
  case h_3 => rfl

/-! ### LINE EQUIP at the line supervisor (R19, R20) -/

theorem State.lineEquip_of_unequipped {l : LineNo} {s : State} (hst : (s.line l).state = .unequipped) :
    s.lineEquip l = (Reply.ok [], (s.setFail l 0).moveLine l .idle .request) := by
  simp [State.lineEquip, State.equipped, hst]

theorem State.lineEquip_of_equipped {l : LineNo} {s : State} (hst : (s.line l).state ≠ .unequipped) :
    s.lineEquip l = (Reply.ok [], s) := by
  simp [State.lineEquip, State.equipped, hst]

/-- R20's test in its own words: an owner, a member set or a queued order names the line. -/
theorem State.referenced_iff (s : State) (l : LineNo) :
    s.referenced l = true ↔
      (∃ (k : FlowIdx) (e : FlowEntry), s.flows[k] = some e ∧
        (e.owner = .line l ∨ LineSet.has e.members l = true)) ∨
      (∃ o ∈ s.engine.queue, o.line = l) := by
  simp only [State.referenced, Bool.or_eq_true, List.any_eq_true, allFlows, List.mem_finRange, true_and, beq_iff_eq]
  refine or_congr (exists_congr fun k => ?_) Iff.rfl
  cases s.flows[k] with
  | none => simp
  | some e => simp

theorem State.lineUnequip_of_free {l : LineNo} {s : State}
    (hst : (s.line l).state = .idle ∨ ∃ q, (s.line l).state = .quarantined q) (hn : ¬s.referenced l = true) :
    s.lineUnequip l = (Reply.ok [], (s.setFail l 0).moveLine l .unequipped .request) := by
  rcases hst with hst | ⟨q, hst⟩ <;> simp only [State.lineUnequip, hst, if_neg hn]

theorem State.lineUnequip_of_referenced {l : LineNo} {s : State} (hn : s.referenced l = true) :
    s.lineUnequip l = (Reply.bad .state, s) := by
  unfold State.lineUnequip
  split <;> simp only [if_pos hn]

theorem State.lineUnequip_of_not_idle_or_quarantined {l : LineNo} {s : State} (hi : (s.line l).state ≠ .idle)
    (hq : ∀ q, (s.line l).state ≠ .quarantined q) : s.lineUnequip l = (Reply.bad .state, s) := by
  unfold State.lineUnequip
  split
  case h_1 hst => exact absurd hst hi
  case h_2 q hst => exact absurd hst (hq q)
  case h_3 => rfl

/-! ### The rows -/

section
variable {h : Header} {l : LineNo} {s : State} {out : Reply × State}

theorem exec_lineClear_eq (t : Nat) (hr : Ready h.port s) (hd : Direct h) (he : Entitled h.port s)
    (ho : (s.taken t h.port).lineClear l = out) :
    exec (.lineClear t h (lineByte l)) s = .next (out.2.answers h 0x13 out.1.status out.1.payload) :=
  exec_eq_answers (r := .lineClear (lineByte l)) rfl hr hd (permitted_entitled he rfl) (lineOk_lineByte l) rfl
    ((onLine_lineByte l _ _).trans ho)

/-- LINE EQUIP is not in the craft port's table: it is accepted on the main link alone (R179). -/
theorem exec_lineEquipEquip_eq (t : Nat) (hr : Ready h.port s) (hd : Direct h) (hm : h.port = .main)
    (ho : (s.taken t h.port).lineEquip l = out) :
    exec (.lineEquipEquip t h (lineByte l)) s = .next (out.2.answers h 0x15 out.1.status out.1.payload) :=
  exec_eq_answers (r := .lineEquip (lineByte l) 1) rfl hr hd (by rw [hm]; rfl)
    (by simp only [fieldsOk, lineOk_lineByte]; rfl) rfl ((onLine_lineByte l _ _).trans ho)

theorem exec_lineEquipUnequip_eq (t : Nat) (hr : Ready h.port s) (hd : Direct h) (hm : h.port = .main)
    (ho : (s.taken t h.port).lineUnequip l = out) :
    exec (.lineEquipUnequip t h (lineByte l)) s = .next (out.2.answers h 0x15 out.1.status out.1.payload) :=
  exec_eq_answers (r := .lineEquip (lineByte l) 0) rfl hr hd (by rw [hm]; rfl)
    (by simp only [fieldsOk, lineOk_lineByte]; rfl) rfl ((onLine_lineByte l _ _).trans ho)

end

/-- Handing a message over moves neither the flow table nor the order queue, so the references to a line stay. -/
theorem State.taken_referenced (t : Nat) (p : PortId) (l : LineNo) (s : State) :
    (s.taken t p).referenced l = s.referenced l := by
  simp [State.referenced]

/-- Settles O22: each row is carried to its operation of the line supervisor, and the cases there are those of R18, R19
and R20; the line record is the one that stood before the message was handed over. -/
theorem lineClearAndEquip : Obligations.LineClearAndEquip := by
  intro t h l s hr hd u zero
  have hl : (u.line l).state = (s.line l).state := by rw [State.taken_line]
  have href : u.referenced l = s.referenced l := State.taken_referenced t h.port l s
  refine ⟨fun he => ?clear, fun hm =>
    ⟨fun hst => ?equip, fun hst => ?equipped, fun hst hf ho => ?unequip, fun hx => ?refused⟩⟩
  case clear =>
    split
    case h_1 q hst => exact exec_lineClear_eq t hr hd he (State.lineClear_of_quarantined (hl.trans hst))
    case h_2 q c hst => exact exec_lineClear_eq t hr hd he (State.lineClear_of_target_quarantined (hl.trans hst))
    case h_3 hq ht =>
      exact exec_lineClear_eq t hr hd he (State.lineClear_of_not_quarantined (by rwa [hl]) (by rwa [hl]))
  case equip => exact exec_lineEquipEquip_eq t hr hd hm (State.lineEquip_of_unequipped (hl.trans hst))
  case equipped => exact exec_lineEquipEquip_eq t hr hd hm (State.lineEquip_of_equipped (by rwa [hl]))
  case unequip =>
    have free : ¬u.referenced l = true := by
      rw [href, State.referenced_iff]
      rintro (⟨k, e, hk, named⟩ | ⟨o, hq, named⟩)
      · obtain ⟨howner, hmember⟩ := hf k e hk
        exact named.elim howner (by simp [hmember])
      · exact ho o hq named
    exact exec_lineEquipUnequip_eq t hr hd hm (State.lineUnequip_of_free (by rwa [hl]) free)
  case refused =>
    have stands : u.lineUnequip l = (Reply.bad .state, u) := by
      rcases hx with ⟨hi, hq⟩ | named
      · exact State.lineUnequip_of_not_idle_or_quarantined (by rwa [hl]) (by rwa [hl])
      · exact State.lineUnequip_of_referenced (href.trans ((State.referenced_iff s l).mpr named))
    exact exec_lineEquipUnequip_eq t hr hd hm stands

end Sys2Proof.Machine
end

section
/-! FLOW DROP, FLOW CLEAR and FLOW FIND (R52 to R54): what the flow table's searches find (R45, R46), what each
operation of the flow table answers case by case, and the same carried through the dispatcher to the command's row. -/

namespace Sys2Proof.Machine

/-! ### Rows that the dispatcher refuses, and the flow table it hands on -/

/-- A request row whose fields are out of range: the outcome is RANGE, and no owning block acts (R178 check 5). -/
theorem exec_eq_range {c : Instr} {h : Header} {r : Req} {s : State} (hc : requestOf c = some (h, r))
    (hr : Ready h.port s) (hd : Direct h) (hp : permitted h.port s.doorOpen r = true) (hf : fieldsOk r = false) :
    exec c s = .next ((s.taken (timeOf c) h.port).answers h (reqKind r) .range []) := by
  rw [exec_request hc, State.request_range _ hr hd hp hf]

theorem State.taken_flows (t : Nat) (p : PortId) (s : State) : (s.taken t p).flows = s.flows := by simp

theorem permitted_main {h : Header} (hm : h.port = .main) (door : Bool) (r : Req) :
    permitted h.port door r = true := by
  rw [hm]
  rfl

/-! ### The searches of the flow table (R45, R46) -/

theorem inRange_iff (base span tag : Nat) : inRange base span tag = true ↔ base ≤ tag ∧ tag < base + span := by
  simp only [inRange, Bool.and_eq_true, decide_eq_true_eq]

/-- R45's upstream test in the words of the statements. -/
theorem FlowEntry.matchesUp_iff (e : FlowEntry) (l : LineNo) (tag : Nat) :
    e.matchesUp l tag = true ↔
      e.up = true ∧ (e.owner = .line l ∨ e.owner = .shared) ∧ e.lineBase ≤ tag ∧ tag < e.lineBase + 2 ^ e.spanExp := by
  have takes : e.owner.takes l = true ↔ e.owner = .line l ∨ e.owner = .shared := by
    cases e.owner <;> simp [Owner.takes]
  simp only [FlowEntry.matchesUp, Bool.and_eq_true, takes, inRange_iff, FlowEntry.span, and_assoc]

/-- R46's downstream test in the words of the statements. -/
theorem FlowEntry.matchesDown_iff (e : FlowEntry) (tag : Nat) :
    e.matchesDown tag = true ↔
      e.down = true ∧ e.uplinkBase ≤ tag ∧ tag < e.uplinkBase + 2 ^ e.spanExp := by
  simp only [FlowEntry.matchesDown, Bool.and_eq_true, inRange_iff, FlowEntry.span]

/-- The first valid entry with a property and its index: the one search behind R45 and R46, whose tests differ. -/
def State.firstEntry (s : State) (p : FlowEntry → Bool) : Option (FlowIdx × FlowEntry) :=
  allFlows.findSome? fun k => match s.flows[k] with
    | some e => if p e then some (k, e) else none
    | none => none

theorem State.findUp_eq_firstEntry (s : State) (l : LineNo) (tag : Nat) :
    s.findUp l tag = s.firstEntry fun e => e.matchesUp l tag := rfl

theorem State.findDown_eq_firstEntry (s : State) (tag : Nat) :
    s.findDown tag = s.firstEntry fun e => e.matchesDown tag := rfl

theorem State.firstEntry_eq_none_iff (s : State) (p : FlowEntry → Bool) :
    s.firstEntry p = none ↔ ∀ (k : FlowIdx) (e : FlowEntry), s.flows[k] = some e → ¬p e = true := by
  simp only [State.firstEntry, List.findSome?_eq_none_iff, allFlows, List.mem_finRange, true_imp_iff]
  refine forall_congr' fun k => ?_
  cases s.flows[k] with
  | none => simp
  | some e => simp

/-- What a search finds is valid and has the property. -/
theorem State.firstEntry_sound {s : State} {p : FlowEntry → Bool} {k : FlowIdx} {e : FlowEntry}
    (hm : s.firstEntry p = some (k, e)) : s.flows[k] = some e ∧ p e = true := by
  obtain ⟨j, -, hj⟩ := List.exists_of_findSome?_eq_some hm
  split at hj
  next f hf =>
    obtain ⟨hp, same⟩ := Option.ite_none_right_eq_some.mp hj
    cases same
    exact ⟨hf, hp⟩
  next => cases hj

/-- Where one index alone can have the property, its entry is what the search finds. -/
theorem State.firstEntry_of_unique {s : State} {p : FlowEntry → Bool} {k : FlowIdx} {e : FlowEntry}
    (hk : s.flows[k] = some e) (hp : p e = true)
    (unique : ∀ (j : FlowIdx) (f : FlowEntry), s.flows[j] = some f → p f = true → j = k) :
    s.firstEntry p = some (k, e) := by
  cases hm : s.firstEntry p with
  | none => exact absurd hp ((s.firstEntry_eq_none_iff p).mp hm k e hk)
  | some m =>
    obtain ⟨j, f⟩ := m
    obtain ⟨hj, hf⟩ := State.firstEntry_sound hm
    obtain rfl : j = k := unique j f hj hf
    obtain rfl : f = e := Option.some.inj (hj.symm.trans hk)
    rfl

/-! ### FLOW DROP at the flow table (R52) -/

theorem State.flowDrop_of_invalid {k : FlowIdx} {s : State} (hk : s.flows[k] = none) :
    s.flowDrop k = (Reply.bad .notFound, s) := by
  simp only [State.flowDrop, hk, Option.isSome_none, Bool.false_eq_true, if_false]

theorem State.flowDrop_of_valid {k : FlowIdx} {s : State} (hk : s.flows[k] ≠ none) :
    s.flowDrop k = (Reply.ok [], s.setFlow k none) := by
  simp only [State.flowDrop, Option.isSome_iff_ne_none.mpr hk, if_true]

/-! ### FLOW CLEAR at the flow table (R53) -/

/-- The option byte is ALL or NOT_KEPT, so that not NOT_KEPT is ALL. -/
theorem FlowEntry.cleared_of_option {sel : Byte} (hs : sel.toNat ≤ 1) (e : FlowEntry) :
    e.cleared (sel == 1) = (sel == 0 || !e.kept) := by
  obtain rfl | rfl : sel = 0 ∨ sel = 1 := by bv_omega
  · rfl
  · rfl

theorem clearEntry_some (b : Bool) (e : FlowEntry) :
    clearEntry b (some e) = if e.cleared b then none else some e := by
  cases hc : e.cleared b <;> simp [clearEntry, Option.filter, hc]

theorem State.flowClear_of_count {b : Bool} {s : State} {n : Nat} {flows : Vector (Option FlowEntry) 64}
    (hn : (allFlows.countP fun k => s.flows[k].any (FlowEntry.cleared b)) = n)
    (hf : s.flows.map (clearEntry b) = flows) :
    s.flowClear b = (Reply.ok [byte n], { s with flows := flows }) := by
  rw [State.flowClear, hn, hf]

/-! ### FLOW FIND at the flow table (R54) -/

theorem State.flowFindUp_of_match {s : State} (ok : FlowsOk s) {l : LineNo} {tag : Nat} {k : FlowIdx} {e : FlowEntry}
    (hk : s.flows[k] = some e) (hm : e.matchesUp l tag = true) :
    s.flowFindUp l tag = (Reply.ok (byte k.val :: le2 (e.toUplink tag)), s) := by
  have found : s.findUp l tag = some (k, e) := (s.findUp_eq_firstEntry l tag).trans
    (State.firstEntry_of_unique hk hm fun j f hj hf => ok.up l tag j k f e hj hk hf hm)
  simp only [State.flowFindUp, found, Option.map_some, foundReply]

theorem State.flowFindUp_of_no_match {s : State} {l : LineNo} {tag : Nat}
    (hn : ∀ (k : FlowIdx) (e : FlowEntry), s.flows[k] = some e → ¬e.matchesUp l tag = true) :
    s.flowFindUp l tag = (Reply.bad .notFound, s) := by
  have found : s.findUp l tag = none :=
    (s.findUp_eq_firstEntry l tag).trans ((s.firstEntry_eq_none_iff _).mpr hn)
  simp only [State.flowFindUp, found, Option.map_none, foundReply]

theorem State.flowFindDown_of_match {s : State} (ok : FlowsOk s) {tag : Nat} {k : FlowIdx} {e : FlowEntry}
    (hk : s.flows[k] = some e) (hm : e.matchesDown tag = true) :
    s.flowFindDown tag = (Reply.ok (byte k.val :: le2 (e.toLine tag)), s) := by
  have found : s.findDown tag = some (k, e) := (s.findDown_eq_firstEntry tag).trans
    (State.firstEntry_of_unique hk hm fun j f hj hf => ok.down tag j k f e hj hk hf hm)
  simp only [State.flowFindDown, found, Option.map_some, foundReply]

theorem State.flowFindDown_of_no_match {s : State} {tag : Nat}
    (hn : ∀ (k : FlowIdx) (e : FlowEntry), s.flows[k] = some e → ¬e.matchesDown tag = true) :
    s.flowFindDown tag = (Reply.bad .notFound, s) := by
  have found : s.findDown tag = none :=
    (s.findDown_eq_firstEntry tag).trans ((s.firstEntry_eq_none_iff _).mpr hn)
  simp only [State.flowFindDown, found, Option.map_none, foundReply]

/-- R48's law speaks of the flow table alone. -/
theorem FlowsOk.congr {s u : State} (hu : u.flows = s.flows) (ok : FlowsOk s) : FlowsOk u where
  up := by simpa only [hu] using ok.up
  down := by simpa only [hu] using ok.down

/-- The dispatcher's field check of FLOW FIND in the words of R54: the option, the tag, and with UPSTREAM the line. -/
theorem fieldsOk_flowFind_eq_false_iff (sel line : Byte) (tag : Half) :
    fieldsOk (.flowFind sel line tag) = false ↔ 4095 < tag.toNat ∨ 1 < sel.toNat ∨ (sel ≠ 1 ∧ 24 ≤ line.toNat) := by
  simp only [fieldsOk, flagOk, lineOk, Bool.and_eq_false_iff, Bool.or_eq_false_iff, decide_eq_false_iff_not,
    beq_eq_false_iff_ne, Nat.not_le, Nat.not_lt]
  tauto

/-! ### The rows -/

section
variable {h : Header} {s : State} {out : Reply × State}

theorem exec_flowDrop_eq (t : Nat) (k : FlowIdx) (hr : Ready h.port s) (hd : Direct h) (hm : h.port = .main)
    (ho : (s.taken t h.port).flowDrop k = out) :
    exec (.flowDrop t h (BitVec.ofNat 8 k.val)) s = .next (out.2.answers h 0x22 out.1.status out.1.payload) :=
  exec_eq_answers (r := .flowDrop (BitVec.ofNat 8 k.val)) rfl hr hd (permitted_main hm _ _)
    (by simp only [fieldsOk, flowByte_toNat, k.isLt, decide_true]) rfl ((onFlow_byte k _ _).trans ho)

theorem exec_flowClear_eq (t : Nat) {sel : Byte} (hr : Ready h.port s) (hd : Direct h) (hm : h.port = .main)
    (hs : sel.toNat ≤ 1) (ho : (s.taken t h.port).flowClear (sel == 1) = out) :
    exec (.flowClear t h sel) s = .next (out.2.answers h 0x25 out.1.status out.1.payload) :=
  exec_eq_answers (r := .flowClear sel) rfl hr hd (permitted_main hm _ _) (decide_eq_true hs) rfl ho

/-- FLOW FIND is in the craft port's open-door row: both ports may use it (R179). -/
theorem exec_flowFindUp_eq (t : Nat) (l : LineNo) {tag : Half} (hr : Ready h.port s) (hd : Direct h)
    (he : Entitled h.port s) (ht : tag.toNat ≤ 4095) (ho : (s.taken t h.port).flowFindUp l tag.toNat = out) :
    exec (.flowFind t h 0 (lineByte l) tag) s = .next (out.2.answers h 0x23 out.1.status out.1.payload) :=
  exec_eq_answers (r := .flowFind 0 (lineByte l) tag) rfl hr hd (permitted_entitled he rfl)
    (by simp [fieldsOk, flagOk, lineOk_lineByte, ht]) rfl ((onLine_lineByte l _ _).trans ho)

/-- With DOWNSTREAM the line byte is not looked at. -/
theorem exec_flowFindDown_eq (t : Nat) (line : Byte) {tag : Half} (hr : Ready h.port s) (hd : Direct h)
    (he : Entitled h.port s) (ht : tag.toNat ≤ 4095) (ho : (s.taken t h.port).flowFindDown tag.toNat = out) :
    exec (.flowFind t h 1 line tag) s = .next (out.2.answers h 0x23 out.1.status out.1.payload) :=
  exec_eq_answers (r := .flowFind 1 line tag) rfl hr hd (permitted_entitled he rfl)
    (by simp [fieldsOk, flagOk, ht]) rfl ho

end

/-- Settles O27: an index beyond the table is refused by the dispatcher; within it the two cases are those of the
entry that stood before the message was handed over. -/
theorem flowDrop : Obligations.FlowDrop := by
  intro t h index s hr hd hm u
  refine ⟨fun hi => ?range, fun k hk => ?entry⟩
  case range =>
    exact exec_eq_range (r := .flowDrop index) rfl hr hd (permitted_main hm _ _) (decide_eq_false (Nat.not_lt.mpr hi))
  case entry =>
    have hu : u.flows = s.flows := State.taken_flows t h.port s
    obtain rfl : index = BitVec.ofNat 8 k.val := BitVec.eq_of_toNat_eq (hk.trans (flowByte_toNat k).symm)
    refine ⟨fun hn => ?invalid, fun hv => ?valid⟩
    case invalid => exact exec_flowDrop_eq t k hr hd hm (State.flowDrop_of_invalid (by rwa [hu]))
    case valid =>
      rw [exec_flowDrop_eq t k hr hd hm (State.flowDrop_of_valid (by rwa [hu])), State.setFlow, State.taken_flows]
      rfl

/-- Settles O28: the table that FLOW CLEAR leaves, entry by entry, and the number that it counts, both by the one test
of what goes. -/
theorem flowClear : Obligations.FlowClear := by
  intro t h sel s hr hd hm hs u goes
  have hu : u.flows = s.flows := State.taken_flows t h.port s
  have hgoes : FlowEntry.cleared (sel == 1) = goes := funext (FlowEntry.cleared_of_option hs)
  refine ⟨s.flows.map (clearEntry (sel == 1)), fun k => ?entries, ?row⟩
  case entries =>
    rw [Fin.getElem_fin, Vector.getElem_map, ← Fin.getElem_fin]
    cases s.flows[k] with
    | none => rfl
    | some e => rw [clearEntry_some, hgoes]
  case row =>
    have number : (allFlows.countP fun k => u.flows[k].any (FlowEntry.cleared (sel == 1))) =
        (allFlows.filter fun k => match s.flows[k] with
          | some e => goes e
          | none => false).length := by
      rw [List.countP_eq_length_filter, hu, hgoes]
      congr 2
      funext k
      cases s.flows[k] <;> rfl
    exact exec_flowClear_eq t hr hd hm hs (State.flowClear_of_count number (by rw [hu]))

/-- Settles O29: R48's law makes the matching entry the only one, so that it is what the search finds; neither search
changes the state. -/
theorem flowFind : Obligations.FlowFind := by
  intro t h tag s hr hd he ok u n2
  have hu : u.flows = s.flows := State.taken_flows t h.port s
  have oku : FlowsOk u := ok.congr hu
  refine ⟨fun l ht => ⟨fun k e hk hup howner hlow hhigh => ?up, fun hn => ?noneUp⟩,
    fun line ht => ⟨fun k e hk hdown hlow hhigh => ?down, fun hn => ?noneDown⟩, fun sel line hx => ?range⟩
  case up =>
    exact exec_flowFindUp_eq t l hr hd he ht
      (State.flowFindUp_of_match oku (by rwa [hu]) ((e.matchesUp_iff l _).mpr ⟨hup, howner, hlow, hhigh⟩))
  case noneUp =>
    exact exec_flowFindUp_eq t l hr hd he ht
      (State.flowFindUp_of_no_match fun k e hk hm => hn k e (by rwa [← hu]) ((e.matchesUp_iff l _).mp hm))
  case down =>
    exact exec_flowFindDown_eq t line hr hd he ht
      (State.flowFindDown_of_match oku (by rwa [hu]) ((e.matchesDown_iff _).mpr ⟨hdown, hlow, hhigh⟩))
  case noneDown =>
    exact exec_flowFindDown_eq t line hr hd he ht
      (State.flowFindDown_of_no_match fun k e hk hm => hn k e (by rwa [← hu]) ((e.matchesDown_iff _).mp hm))
  case range =>
    have refused : fieldsOk (.flowFind sel line tag) = false :=
      (fieldsOk_flowFind_eq_false_iff sel line tag).mpr
        (hx.imp_right (Or.imp_right fun ⟨hsel, hline⟩ => ⟨by rw [hsel]; decide, hline⟩))
    exact exec_eq_range (r := .flowFind sel line tag) rfl hr hd (permitted_entitled he rfl) refused

end Sys2Proof.Machine
end

section
/-! SCHEDULER DECISION and the ingress join (R68 to R73): what the beginning and the end of a turn, a grant and a
decision answer case by case, carried to the command's row. -/

namespace Sys2Proof.Machine

/-! ### The turns (R69, R72) -/

theorem State.beginTurn_of_nil {s : State} (ha : s.sched.active = []) : s.beginTurn = s := by
  simp only [State.beginTurn, ha]

/-- The quantum in the words of the statements. -/
theorem State.beginTurn_of_cons {s : State} {l : LineNo} {rest : List LineNo} (ha : s.sched.active = l :: rest) :
    s.beginTurn = { s with sched := { s.sched with
      deficit := s.sched.deficit.set l (s.sched.deficit[l] + 256 * (s.line l).profile.weight) } } := by
  simp only [State.beginTurn, ha, Config.quantumUnit, Nat.mul_comm]

/-- A line alone in the list is its own next line: its turn ends and begins again. -/
theorem State.endTurn_of_alone {s : State} {l : LineNo} (ha : s.sched.active = [l]) :
    s.endTurn = { s with sched := { s.sched with
      deficit := s.sched.deficit.set l (s.sched.deficit[l] + 256 * (s.line l).profile.weight) } } := by
  simp only [State.endTurn, ha, List.nil_append]
  rw [State.beginTurn_of_cons (rest := []) rfl, ← ha]

theorem State.endTurn_of_next {s : State} {l m : LineNo} {ms : List LineNo} (ha : s.sched.active = l :: m :: ms) :
    s.endTurn = { s with sched := { s.sched with
      active := (m :: ms) ++ [l]
      deficit := s.sched.deficit.set m (s.sched.deficit[m] + 256 * (s.line m).profile.weight) } } := by
  simp only [State.endTurn, ha]
  exact State.beginTurn_of_cons (rest := ms ++ [l]) rfl

/-! ### A grant (R71) -/

section
variable {s : State} {l m : LineNo} {ms rest : List LineNo} {id : Nat} {more : List Nat}

theorem State.grant_of_more (hm : more ≠ []) :
    s.grant l rest id more = { s with sched := { s.sched with
      ingress := s.sched.ingress.set l more
      launch := s.sched.launch ++ [id]
      deficit := s.sched.deficit.set l (s.sched.deficit[l] - s.frameLength id) } } := by
  simp only [State.grant, if_neg hm]

/-- The last frame of the last line in the list: no turn begins. -/
theorem State.grant_of_last_alone :
    s.grant l [] id [] = { s with sched := { s.sched with
      ingress := s.sched.ingress.set l []
      launch := s.sched.launch ++ [id]
      active := []
      deficit := s.sched.deficit.set l 0 } } := by
  simp only [State.grant, if_true, Vector.set_set]
  exact State.beginTurn_of_nil rfl

/-- The next line is another one, so that the deficit its quantum is added to is the one that stood. -/
theorem State.grant_of_last_next (hne : l ≠ m) :
    s.grant l (m :: ms) id [] = { s with sched := { s.sched with
      ingress := s.sched.ingress.set l []
      launch := s.sched.launch ++ [id]
      active := m :: ms
      deficit := (s.sched.deficit.set l 0).set m (s.sched.deficit[m] + 256 * (s.line m).profile.weight) } } := by
  have other : (s.sched.deficit.set l 0)[m] = s.sched.deficit[m] :=
    Vector.getElem_set_ne l.isLt m.isLt (Fin.val_ne_of_ne hne)
  simp only [State.grant, if_true, Vector.set_set]
  rw [State.beginTurn_of_cons rfl, other]
  rfl

end

/-! ### A decision (R70) -/

theorem State.decide_of_none {s : State} (hn : s.sched.active = [] ∨ 4 ≤ s.sched.launch.length) : s.decide = s := by
  unfold State.decide
  rcases hn with empty | full
  · simp only [empty, ite_self]
  · exact if_neg (Nat.not_lt.mpr full)

section
variable {s : State} {l : LineNo} {rest : List LineNo} {id : Nat} {more : List Nat}

theorem State.decide_of_fits (hroom : s.sched.launch.length < 4) (ha : s.sched.active = l :: rest)
    (hq : s.sched.ingress[l] = id :: more) (fits : s.frameLength id ≤ s.sched.deficit[l]) :
    s.decide = s.grant l rest id more := by
  simp only [State.decide, Config.launchCapacity, if_pos hroom, ha, hq, if_pos fits]

theorem State.decide_of_exceeds (hroom : s.sched.launch.length < 4) (ha : s.sched.active = l :: rest)
    (hq : s.sched.ingress[l] = id :: more) (exceeds : s.sched.deficit[l] < s.frameLength id) :
    s.decide = s.endTurn := by
  simp only [State.decide, Config.launchCapacity, if_pos hroom, ha, hq, if_neg (Nat.not_le.mpr exceeds)]

end

/-- A decision of a running part, by what the operation answers at the command's time. -/
theorem exec_schedulerDecision_eq {s u : State} {t : Nat} (hr : s.running = true) (hd : (s.advance t).decide = u) :
    exec (.schedulerDecision t) s = .next u := by
  have row : exec (.schedulerDecision t) s = .next (s.event t State.decide) := rfl
  rw [row, State.event_running hr, hd]

/-! ### A frame joins an ingress queue (R30, R68) -/

section
variable {s : State} {l : LineNo}

theorem State.joinIngress_of_listed (id : Nat) (hq : s.sched.ingress[l] ≠ []) :
    s.joinIngress l id = { s with sched := { s.sched with
      ingress := s.sched.ingress.set l (s.sched.ingress[l] ++ [id]) } } := by
  simp only [State.joinIngress, if_neg hq]

theorem State.joinIngress_of_waiting (id : Nat) (hq : s.sched.ingress[l] = []) (ha : s.sched.active ≠ []) :
    s.joinIngress l id = { s with sched := { s.sched with
      ingress := s.sched.ingress.set l (s.sched.ingress[l] ++ [id])
      active := s.sched.active ++ [l]
      deficit := s.sched.deficit.set l 0 } } := by
  simp only [State.joinIngress, if_pos hq, if_neg ha]

/-- The line becomes the head, so that its turn begins, from deficit 0. -/
theorem State.joinIngress_of_first (id : Nat) (hq : s.sched.ingress[l] = []) (ha : s.sched.active = []) :
    s.joinIngress l id = { s with sched := { s.sched with
      ingress := s.sched.ingress.set l (s.sched.ingress[l] ++ [id])
      active := s.sched.active ++ [l]
      deficit := s.sched.deficit.set l (256 * (s.line l).profile.weight) } } := by
  have cleared : (s.sched.deficit.set l 0)[l] = 0 := Vector.getElem_set_self l.isLt
  simp only [State.joinIngress, if_pos hq, if_pos ha]
  rw [State.beginTurn_of_cons (l := l) (rest := []) (by rw [ha]; rfl)]
  simp only [cleared, Nat.zero_add, Vector.set_set]
  rfl

end

/-- The three cases in one equation: only a line with no frame waiting is listed. -/
theorem State.joinIngress_eq (s : State) (l : LineNo) (id : Nat) :
    s.joinIngress l id = { s with sched := { s.sched with
      ingress := s.sched.ingress.set l (s.sched.ingress[l] ++ [id])
      active := if s.sched.ingress[l] = [] then s.sched.active ++ [l] else s.sched.active
      deficit := if s.sched.ingress[l] = [] then
          s.sched.deficit.set l (if s.sched.active = [] then 256 * (s.line l).profile.weight else 0)
        else s.sched.deficit } } := by
  by_cases hq : s.sched.ingress[l] = []
  case neg => simp only [State.joinIngress_of_listed id hq, if_neg hq]
  case pos =>
    by_cases ha : s.sched.active = []
    case pos => simp only [State.joinIngress_of_first id hq ha, if_pos hq, if_pos ha]
    case neg => simp only [State.joinIngress_of_waiting id hq ha, if_pos hq, if_neg ha]

/-- Settles O34: each case of a decision is one of the operation's; a line's grant of its last frame leaves the next
line's deficit alone, since the active list holds no line twice. -/
theorem schedulerDecision : Obligations.SchedulerDecision := by
  refine ⟨?decision, fun l id s => s.joinIngress_eq l id⟩
  intro t s hr nodup a quantum done granted
  refine ⟨fun hn => ?none, fun l rest id more hroom ha hq => ?turn⟩
  case none => exact exec_schedulerDecision_eq hr (State.decide_of_none hn)
  case turn =>
    have grants {u : State} (fits : s.frameLength id ≤ s.sched.deficit[l]) (hg : a.grant l rest id more = u) :
        exec (.schedulerDecision t) s = .next u :=
      exec_schedulerDecision_eq hr ((State.decide_of_fits (s := a) hroom ha hq fits).trans hg)
    have ends {u : State} (exceeds : s.sched.deficit[l] < s.frameLength id) (he : a.endTurn = u) :
        exec (.schedulerDecision t) s = .next u :=
      exec_schedulerDecision_eq hr ((State.decide_of_exceeds (s := a) hroom ha hq exceeds).trans he)
    refine ⟨fun fits hm => ?more, fun fits hm hl => ?lastAlone, fun m ms fits hm hl => ?lastNext,
      fun exceeds hl => ?endAlone, fun m ms exceeds hl => ?endNext⟩
    case more => exact grants fits (State.grant_of_more hm)
    case lastAlone =>
      subst hm hl
      exact grants fits State.grant_of_last_alone
    case lastNext =>
      subst hm hl
      rw [ha] at nodup
      have hne : l ≠ m := List.ne_of_not_mem_cons (List.nodup_cons.mp nodup).1
      exact grants fits (State.grant_of_last_next hne)
    case endAlone =>
      subst hl
      exact ends exceeds (State.endTurn_of_alone ha)
    case endNext =>
      subst hl
      exact ends exceeds (State.endTurn_of_next ha)

end Sys2Proof.Machine
end

section
/-! TEST CANCEL (R125): what the engine answers for an id in its queue, for that of the current order and for one in
neither place, carried to the command's row. -/

namespace Sys2Proof.Machine

/-- The engine's record after a message handed over, as an equation to rewrite with. -/
theorem State.taken_engine (t : Nat) (p : PortId) (s : State) : (s.taken t p).engine = s.engine := by simp

/-! ### An order of the queue -/

section
variable {p : PortId} {id : Nat} {s : State} {o : TestOrder} {c : Current}

theorem State.testCancel_of_queued_denied (hq : s.engine.queue.find? (fun q => q.id == id) = some o)
    (foreign : p = .craft ∧ o.origin = .main) : s.testCancel p id = (Reply.bad .denied, s) := by
  simp only [State.testCancel, hq, if_pos foreign]

theorem State.testCancel_of_queued (hq : s.engine.queue.find? (fun q => q.id == id) = some o)
    (allowed : ¬(p = .craft ∧ o.origin = .main)) :
    s.testCancel p id = (Reply.ok [], (State.removeOrder .cancel s o).attempt) := by
  simp only [State.testCancel, hq, if_neg allowed]

/-! ### The current order, and an id in neither place -/

theorem State.testCancel_of_current_denied (hq : s.engine.queue.find? (fun q => q.id == id) = none)
    (hc : s.engine.current = some c) (hid : c.order.id = id) (foreign : p = .craft ∧ c.order.origin = .main) :
    s.testCancel p id = (Reply.bad .denied, s) := by
  simp only [State.testCancel, hq, hc, if_neg (not_not_intro hid), if_pos foreign]

theorem State.testCancel_of_current_early (hq : s.engine.queue.find? (fun q => q.id == id) = none)
    (hc : s.engine.current = some c) (hid : c.order.id = id) (allowed : ¬(p = .craft ∧ c.order.origin = .main))
    (early : c.phase.early = true) : s.testCancel p id = (Reply.ok [], s.beginExit .cancel) := by
  simp only [State.testCancel, hq, hc, if_neg (not_not_intro hid), if_neg allowed, if_pos early]

theorem State.testCancel_of_current_late (hq : s.engine.queue.find? (fun q => q.id == id) = none)
    (hc : s.engine.current = some c) (hid : c.order.id = id) (allowed : ¬(p = .craft ∧ c.order.origin = .main))
    (late : c.phase.early = false) : s.testCancel p id = (Reply.bad .state, s) := by
  simp only [State.testCancel, hq, hc, if_neg (not_not_intro hid), if_neg allowed, if_neg (Bool.eq_false_iff.mp late)]

theorem State.testCancel_of_neither (hq : s.engine.queue.find? (fun q => q.id == id) = none)
    (hc : ∀ c, s.engine.current = some c → c.order.id ≠ id) : s.testCancel p id = (Reply.bad .notFound, s) := by
  cases hcur : s.engine.current with
  | none => simp only [State.testCancel, hq, hcur]
  | some c => simp only [State.testCancel, hq, hcur, if_pos (hc c hcur)]

end

/-! ### The row -/

/-- TEST CANCEL is in the craft port's open-door row: both ports may use it (R179). -/
theorem exec_testCancel_eq (t : Nat) {h : Header} {id : Byte} {s : State} {out : Reply × State} (hr : Ready h.port s)
    (hd : Direct h) (he : Entitled h.port s) (hid : id ≠ 0)
    (ho : (s.taken t h.port).testCancel h.port id.toNat = out) :
    exec (.testCancel t h id) s = .next (out.2.answers h 0x31 out.1.status out.1.payload) :=
  exec_eq_answers (r := .testCancel id) rfl hr hd (permitted_entitled he rfl) (bne_iff_ne.mpr hid) rfl ho

/-- Settles O36: each place in which the id may stand is a case of the engine's operation; the engine's record is the
one that stood before the message was handed over. -/
theorem testOrderCancelled : Obligations.TestOrderCancelled := by
  intro t h id s hr hd he hid u done foreign
  have hu : u.engine = s.engine := State.taken_engine t h.port s
  have row {out : Reply × State} (ho : u.testCancel h.port id.toNat = out) :
      done (out.2.answers h 0x31 out.1.status out.1.payload) := exec_testCancel_eq t hr hd he hid ho
  refine ⟨fun o hq => ?queued, fun away => ?notQueued⟩
  case queued =>
    intro r left
    have hqu : u.engine.queue.find? (fun q => q.id == id.toNat) = some o := by rw [hu, hq]
    have hleft : u.dequeue o = left := by rw [State.dequeue, hu]
    refine ⟨fun main => row (State.testCancel_of_queued_denied hqu main), fun allowed => ?_⟩
    rw [← hleft]
    exact row (State.testCancel_of_queued hqu allowed)
  case notQueued =>
    have hqu : u.engine.queue.find? (fun q => q.id == id.toNat) = none := by
      rw [hu, List.find?_eq_none]
      exact fun o ho => by simpa using away o ho
    refine ⟨fun c hc hcid => ?current, fun hn => ?neither⟩
    case current =>
      have hcu : u.engine.current = some c := by rw [hu, hc]
      exact ⟨fun main => row (State.testCancel_of_current_denied hqu hcu hcid main),
        fun allowed early => row (State.testCancel_of_current_early hqu hcu hcid allowed early),
        fun allowed late => row (State.testCancel_of_current_late hqu hcu hcid allowed late)⟩
    case neither => exact row (State.testCancel_of_neither hqu (by rwa [hu]))

end Sys2Proof.Machine
end

section
/-! The verdict of a step (R116 to R118): when each verdict is given, what it makes of the outcome so far, and the
current order record through the reading of a step, up to the phase that the load of the next program leaves. -/

namespace Sys2Proof.Machine

/-! ### The verdict and the outcome so far (R117) -/

/-- The value breaks the lower limit. -/
def HostStep.Below (st : HostStep) (value : Nat) : Prop := ∃ n, st.lower = some n ∧ value < n

/-- The value breaks the upper limit. -/
def HostStep.Above (st : HostStep) (value : Nat) : Prop := ∃ n, st.upper = some n ∧ n < value

theorem HostStep.verdict_eq_none_iff (st : HostStep) (value : Nat) :
    st.verdict value = .none ↔ st.lower = none ∧ st.upper = none := by
  cases hl : st.lower <;> cases hu : st.upper <;> simp [HostStep.verdict, hl, hu, ite_eq_iff]

theorem HostStep.verdict_eq_fail_iff (st : HostStep) (value : Nat) :
    st.verdict value = .fail ↔ st.Below value ∨ st.Above value := by
  cases hl : st.lower <;> cases hu : st.upper <;>
    simp [HostStep.verdict, HostStep.Below, HostStep.Above, hl, hu, imp_iff_not_or]

theorem HostStep.verdict_eq_pass_iff (st : HostStep) (value : Nat) :
    st.verdict value = .pass ↔ (st.lower ≠ none ∨ st.upper ≠ none) ∧ ¬st.Below value ∧ ¬st.Above value := by
  rw [← not_or, ← HostStep.verdict_eq_fail_iff, ← not_and_or, ← HostStep.verdict_eq_none_iff st value]
  cases st.verdict value <;> simp

theorem SoFar.after_fail {o : SoFar} (h : o ≠ .hazard) : o.after .fail = .fail := by
  cases o with
  | pass => rfl
  | fail => rfl
  | hazard => exact absurd rfl h

theorem SoFar.hazard_after (v : Verdict) : SoFar.hazard.after v = .hazard := by
  cases v <;> rfl

theorem SoFar.after_of_ne_fail {o : SoFar} {v : Verdict} (h : v ≠ .fail) : o.after v = o := by
  cases v with
  | pass => rfl
  | none => rfl
  | fail => exact absurd rfl h

/-! ### The current order through a load (R90, R91, R116, R118) -/

section
variable {s : State} {c : Current}

theorem State.withCurrent_current {f : Current → Current} (hc : s.engine.current = some c) :
    (s.withCurrent f).engine.current = some (f c) := by
  simp only [State.withCurrent_engine, hc, Option.map_some]

theorem State.setPhase_current {ph : Phase} (hc : s.engine.current = some c) :
    (s.setPhase ph).engine.current = some { c with phase := ph } := State.withCurrent_current hc

theorem State.levelReached_of_step {k : Nat} (hc : s.engine.current = some c) (hp : c.phase = .step k none) :
    s.levelReached = s.setPhase (.step k (some (s.now + ms (c.order.windowOf k)))) := by
  simp only [State.levelReached, hc, hp]

theorem State.levelReached_of_releaseRamp (hc : s.engine.current = some c) (hp : c.phase = .releaseRamp) :
    s.levelReached = s.leaveBus .releaseSettle := by
  simp only [State.levelReached, hc, hp]

theorem State.leaveBus_current (settled : Nat → Phase) (hc : s.engine.current = some c) :
    (s.leaveBus settled).engine.current = some { c with phase := settled (s.now + Config.settleTime) } :=
  State.setPhase_current (by simp [hc])

/-- A load leaves the engine as it stands, or acts on the level reached with the engine as it stands. -/
theorem State.load_cases (prog : Program) (e p : Nat) (s : State) :
    (s.load prog e p).engine = s.engine ∨
      ∃ u : State, u.engine = s.engine ∧ s.load prog e p = u.levelReached := by
  obtain ⟨u, hu, loaded⟩ : ∃ u : State, u.engine = s.engine ∧
      s.load prog e p = if (s.gen.load prog e p s.now).2 then u.levelReached else u :=
    ⟨{ s with gen := (s.gen.load prog e p s.now).1 }, rfl, rfl⟩
  rw [loaded]
  split
  · exact .inr ⟨u, hu, rfl⟩
  · exact .inl hu

/-- STEP k begins with its window closed, or open when the generator settles within the load (R91, R116). -/
theorem State.beginStep_current {k : Nat} {st : HostStep} (hc : s.engine.current = some c)
    (hst : c.order.steps[k - 1]? = some st) :
    ∃ w, (s.beginStep c.order k).engine.current = some { c with phase := .step k w } := by
  have closed : (s.setPhase (.step k none)).engine.current = some { c with phase := .step k none } :=
    State.setPhase_current hc
  simp only [State.beginStep, hst]
  obtain kept | ⟨u, hu, reached⟩ := State.load_cases st.stim.program st.exp st.period (s.setPhase (.step k none))
  · exact ⟨none, by rw [kept, closed]⟩
  · rw [← hu] at closed
    rw [reached, State.levelReached_of_step closed rfl]
    exact ⟨_, State.setPhase_current (c := { c with phase := .step k none }) closed⟩

/-- RELEASE begins in its ramp, or past it when the generator is at rest already (R91, R118). -/
theorem State.beginRelease_current (e p : Nat) (hc : s.engine.current = some c) :
    ∃ ph, (ph = .releaseRamp ∨ ∃ timer, ph = .releaseSettle timer) ∧
      (s.beginRelease e p).engine.current = some { c with phase := ph } := by
  have ramp : (s.setPhase .releaseRamp).engine.current = some { c with phase := .releaseRamp } :=
    State.setPhase_current hc
  unfold State.beginRelease
  obtain kept | ⟨u, hu, reached⟩ := State.load_cases .rest e p (s.setPhase .releaseRamp)
  · exact ⟨.releaseRamp, .inl rfl, by rw [kept, ramp]⟩
  · rw [← hu] at ramp
    rw [reached, State.levelReached_of_releaseRamp ramp rfl]
    exact ⟨_, .inr ⟨_, rfl⟩, State.leaveBus_current (c := { c with phase := .releaseRamp }) .releaseSettle ramp⟩

end

/-! ### The reading of a step (R116, R117) -/

/-- The current order with the reading of a step recorded and judged. -/
def Current.judged (c : Current) (st : HostStep) (value : Nat) : Current :=
  { c with
    results := c.results ++ [⟨st.stim.kind, value, st.verdict value⟩]
    soFar := c.soFar.after (st.verdict value) }

section
variable {s : State} {c : Current} {k : Nat} {st : HostStep}

/-- A step before the last is followed by the next one. -/
theorem State.stepReading_current_of_lt (value : Nat) (hc : s.engine.current = some c)
    (hst : c.order.steps[k - 1]? = some st) (hk : k < c.order.steps.length) :
    ∃ w, (s.stepReading c k value).engine.current = some { c.judged st value with phase := .step (k + 1) w } := by
  simp only [State.stepReading, hst, if_pos hk]
  exact State.beginStep_current (c := c.judged st value) (State.withCurrent_current hc) (List.getElem?_eq_getElem hk)

/-- The last step is followed by RELEASE. -/
theorem State.stepReading_current_of_last (value : Nat) (hc : s.engine.current = some c)
    (hst : c.order.steps[k - 1]? = some st) (hk : ¬k < c.order.steps.length) :
    ∃ ph, (ph = .releaseRamp ∨ ∃ timer, ph = .releaseSettle timer) ∧
      (s.stepReading c k value).engine.current = some { c.judged st value with phase := ph } := by
  simp only [State.stepReading, hst, if_neg hk]
  exact State.beginRelease_current _ _ (c := c.judged st value) (State.withCurrent_current hc)

/-- The order after a reading is the judged one in its next phase. -/
theorem State.stepReading_current (value : Nat) (hc : s.engine.current = some c)
    (hst : c.order.steps[k - 1]? = some st) :
    ∃ ph, (s.stepReading c k value).engine.current = some { c.judged st value with phase := ph } ∧
      (k < c.order.steps.length → ∃ w, ph = .step (k + 1) w) ∧
      (k = c.order.steps.length → ph = .releaseRamp ∨ ∃ timer, ph = .releaseSettle timer) := by
  by_cases hk : k < c.order.steps.length
  case pos =>
    obtain ⟨w, hcur⟩ := State.stepReading_current_of_lt value hc hst hk
    exact ⟨_, hcur, fun _ => ⟨w, rfl⟩, fun last => absurd last hk.ne⟩
  case neg =>
    obtain ⟨ph, release, hcur⟩ := State.stepReading_current_of_last value hc hst hk
    exact ⟨ph, hcur, fun more => absurd more hk, fun _ => release⟩

/-- A value that finds a step's window open is that step's reading, on a running part. -/
theorem exec_measurementReading_eq {t w : Nat} {v : Half} (hr : s.running = true) (hc : s.engine.current = some c)
    (hp : c.phase = .step k (some w)) :
    exec (.measurementReading t (.value v)) s = .next ((s.advance t).stepReading c k v.toNat) := by
  have hca : (s.advance t).engine.current = some c := hc
  have row : exec (.measurementReading t (.value v)) s = .next (s.event t (State.takeReading (.value v))) := rfl
  rw [row, State.event_running hr]
  simp only [State.takeReading, hca, hp]

end

/-- Settles O42: the record that the reading leaves is the judged one, whose next phase is told by the number of the
step alone; the clauses on the verdict are those of the limits, those on the outcome so far are those of its update. -/
theorem stepVerdict : Obligations.StepVerdict := by
  intro t s c k w v st hr hc hp hst hk low high some_
  obtain ⟨ph, hcur, next, last⟩ := State.stepReading_current (s := s.advance t) v.toNat hc hst
  refine ⟨_, _, ⟨st.stim.kind, v.toNat, st.verdict v.toNat⟩, exec_measurementReading_eq hr hc hp, hcur, rfl, rfl, rfl,
    fun within => ?pass, fun broken => ?fail, fun without => ?none, fun fails keeps => ?outcomeFail,
    fun hazard => ?outcomeHazard, fun spared => ?outcomeKept, next, last⟩
  case pass => exact (st.verdict_eq_pass_iff _).mpr within
  case fail => exact (st.verdict_eq_fail_iff _).mpr broken.2
  case none => exact (st.verdict_eq_none_iff _).mpr (by simpa only [some_, not_or, not_not] using without)
  case outcomeFail => exact (congrArg c.soFar.after fails).trans (SoFar.after_fail keeps)
  case outcomeHazard => exact (congrArg (SoFar.after · _) hazard).trans (SoFar.hazard_after _)
  case outcomeKept => exact SoFar.after_of_ne_fail spared

end Sys2Proof.Machine
end

section
/-! FETCH NOTICES (R187): what the notice queue answers and keeps, when ATTN is low, and both carried to the command's
row, with the refusal of the craft port. -/

namespace Sys2Proof.Machine

/-! ### Rows that the craft port may not use -/

/-- A request row that its port may not use: the outcome is DENIED, and no owning block acts (R178 check 4). -/
theorem exec_eq_denied {c : Instr} {h : Header} {r : Req} {s : State} (hc : requestOf c = some (h, r))
    (hr : Ready h.port s) (hd : Direct h) (hp : permitted h.port s.doorOpen r = false) :
    exec c s = .next ((s.taken (timeOf c) h.port).answers h (reqKind r) .denied []) := by
  rw [exec_request hc, State.request_denied _ hr hd hp]

/-- A kind that the craft port may not use even with the door open is refused it in either case: with the door shut
the port may use IDENT alone (R179). -/
theorem permitted_craft_of_not_craftKind {r : Req} (opened : craftKind r = false) (shut : r ≠ .ident) (door : Bool) :
    permitted .craft door r = false := by
  cases door with
  | false => exact beq_eq_false_iff_ne.mpr shut
  | true => exact opened

/-! ### The notice queue and ATTN (R186, R187) -/

/-- A fetch answers OK with the number taken, the lost count as it stood and up to 8 oldest notices; the younger ones
stay. -/
theorem State.fetchNotices_eq (s : State) :
    s.fetchNotices =
      (Reply.ok (BitVec.ofNat 8 (min 8 s.notices.queue.length) :: BitVec.ofNat 8 s.notices.lost ::
          (s.notices.queue.take 8).flatMap Notice.bytes),
        { s with notices := { queue := s.notices.queue.drop 8, lost := 0 } }) := by
  simp only [State.fetchNotices, Config.fetchLimit, byte, List.length_take]

theorem State.attnLow_eq_true_iff {s : State} (hr : s.running = true) :
    s.attnLow = true ↔ s.notices.queue ≠ [] := by
  simp [State.attnLow, hr]

theorem State.attnLow_eq_false_iff {s : State} (hr : s.running = true) :
    s.attnLow = false ↔ s.notices.queue = [] := by
  simp [State.attnLow, hr]

theorem State.taken_notices (t : Nat) (p : PortId) (s : State) : (s.taken t p).notices = s.notices := by simp

/-- Handing a message over neither stops nor starts the part. -/
theorem State.taken_running (t : Nat) (p : PortId) (s : State) : (s.taken t p).running = s.running := by
  simp [State.running]

/-! ### The row -/

theorem exec_fetchNotices_craft (t : Nat) {h : Header} {s : State} (hr : Ready h.port s) (hd : Direct h)
    (hc : h.port = .craft) :
    exec (.fetchNotices t h) s = .next ((s.taken t h.port).answers h 0x07 .denied []) :=
  exec_eq_denied (r := .fetchNotices) rfl hr hd (by rw [hc]; exact permitted_craft_of_not_craftKind rfl (by decide) _)

theorem exec_fetchNotices_main (t : Nat) {h : Header} {s : State} {out : Reply × State} (hr : Ready h.port s)
    (hd : Direct h) (hm : h.port = .main) (ho : (s.taken t h.port).fetchNotices = out) :
    exec (.fetchNotices t h) s = .next (out.2.answers h 0x07 out.1.status out.1.payload) :=
  exec_eq_answers (r := .fetchNotices) rfl hr hd (permitted_main hm _ _) rfl rfl ho

/-- Settles O16: the dispatcher refuses the craft port; on the main link the notice queue's own answer goes out, and
ATTN is told by what is left beyond the first 8 notices. -/
theorem fetchNotices : Obligations.FetchNotices := by
  intro t h s hr hd u v
  have hu : u.notices = s.notices := State.taken_notices t h.port s
  have running : v.running = true := (State.taken_running t h.port s).trans hr.1
  refine ⟨exec_fetchNotices_craft t hr hd, fun hm => ⟨?answer, fun emptied => ?high, fun left => ?low⟩⟩
  case answer =>
    have fetched := State.fetchNotices_eq u
    rw [hu] at fetched
    exact exec_fetchNotices_main t hr hd hm fetched
  case high => exact (State.attnLow_eq_false_iff running).mpr (List.drop_eq_nil_iff.mpr emptied)
  case low => exact (State.attnLow_eq_true_iff running).mpr (List.drop_eq_nil_iff.not.mpr left.not_ge)

end Sys2Proof.Machine
end

section
/-! The flow table stays free of double matches (R48): the law as one of the table alone, the four ways in which a
command changes the table (an entry counts a match, goes, is installed, or is loaded at a start), and every step. -/

namespace Sys2Proof.Machine

/-! ### The law of the table (R45, R46, R48) -/

/-- Two entries that match the same frames, upstream and downstream. -/
def FlowEntry.Alike (e f : FlowEntry) : Prop :=
  (∀ l tag, e.matchesUp l tag = f.matchesUp l tag) ∧ ∀ tag, e.matchesDown tag = f.matchesDown tag

/-- A frame, upstream or downstream, that both entries match. -/
def FlowEntry.BothMatch (e f : FlowEntry) : Prop :=
  (∃ l tag, e.matchesUp l tag = true ∧ f.matchesUp l tag = true) ∨
  ∃ tag, e.matchesDown tag = true ∧ f.matchesDown tag = true

/-- No frame is matched by the entries of two indexes. -/
def MatchedOnce (flows : Vector (Option FlowEntry) 64) : Prop :=
  ∀ (j k : FlowIdx) (e f : FlowEntry), flows[j] = some e → flows[k] = some f → e.BothMatch f → j = k

theorem flowsOk_iff (s : State) : FlowsOk s ↔ MatchedOnce s.flows where
  mp ok := by
    rintro j k e f hj hk (⟨l, tag, he, hf⟩ | ⟨tag, he, hf⟩)
    · exact ok.up l tag j k e f hj hk he hf
    · exact ok.down tag j k e f hj hk he hf
  mpr ok :=
    { up := fun l tag j k e f hj hk he hf => ok j k e f hj hk (.inl ⟨l, tag, he, hf⟩)
      down := fun tag j k e f hj hk he hf => ok j k e f hj hk (.inr ⟨tag, he, hf⟩) }

theorem FlowEntry.BothMatch.symm {e f : FlowEntry} (h : e.BothMatch f) : f.BothMatch e := by
  rcases h with ⟨l, tag, he, hf⟩ | ⟨tag, he, hf⟩
  · exact .inl ⟨l, tag, hf, he⟩
  · exact .inr ⟨tag, hf, he⟩

theorem FlowEntry.BothMatch.congr {e e' f f' : FlowEntry} (he : e.Alike e') (hf : f.Alike f') (h : e.BothMatch f) :
    e'.BothMatch f' := by
  simpa only [FlowEntry.BothMatch, he.1, he.2, hf.1, hf.2] using h

/-- Entries that one frame matches overlap by the test of R48. -/
theorem FlowEntry.BothMatch.overlaps {e f : FlowEntry} (h : e.BothMatch f) : e.overlaps f = true := by
  rw [← entriesMeet_iff]
  rcases h with ⟨l, tag, he, hf⟩ | ⟨tag, he, hf⟩
  · obtain ⟨eup, eowner, elow, ehigh⟩ := (FlowEntry.matchesUp_iff e l tag).mp he
    obtain ⟨fup, fowner, flow, fhigh⟩ := (FlowEntry.matchesUp_iff f l tag).mp hf
    refine .inl ⟨eup, fup, ?_, by omega, by omega⟩
    rcases eowner with eowner | eowner
    · rcases fowner with fowner | fowner
      · exact .inl (eowner.trans fowner.symm)
      · exact .inr (.inr fowner)
    · exact .inr (.inl eowner)
  · obtain ⟨edown, elow, ehigh⟩ := (FlowEntry.matchesDown_iff e tag).mp he
    obtain ⟨fdown, flow, fhigh⟩ := (FlowEntry.matchesDown_iff f tag).mp hf
    exact .inr ⟨edown, fdown, by omega, by omega⟩

/-- An entry that overlaps none of the indexes looked at has no frame in common with their entries. -/
theorem not_bothMatch_of_overlapsAny {flows : Vector (Option FlowEntry) 64} {look : FlowIdx → Bool} {e f : FlowEntry}
    {k : FlowIdx} (free : overlapsAny flows look e = false) (seen : look k = true) (hk : flows[k] = some f) :
    ¬e.BothMatch f := by
  intro h
  have found : overlapsAny flows look e = true := by
    refine List.any_eq_true.mpr ⟨k, List.mem_finRange k, ?_⟩
    simp only [seen, hk, h.overlaps, Bool.and_self]
  exact absurd (free.symm.trans found) Bool.false_ne_true

/-! ### The four changes of a table -/

theorem getElem_set_flow (flows : Vector (Option FlowEntry) 64) (k j : FlowIdx) (e : Option FlowEntry) :
    (flows.set k e)[j] = if j = k then e else flows[j] := by
  simp only [Fin.getElem_fin, Vector.getElem_set, Fin.ext_iff, eq_comm]

/-- A table each of whose entries matches as the old entry of its index did. -/
theorem MatchedOnce.of_alike {flows new : Vector (Option FlowEntry) 64} (ok : MatchedOnce flows)
    (old : ∀ (k : FlowIdx) (f : FlowEntry), new[k] = some f → ∃ e, flows[k] = some e ∧ f.Alike e) : MatchedOnce new := by
  intro j k e f hj hk h
  obtain ⟨e', hj', he⟩ := old j e hj
  obtain ⟨f', hk', hf⟩ := old k f hk
  exact ok j k e' f' hj' hk' (h.congr he hf)

/-- An entry is changed in nothing that the searches look at. -/
theorem MatchedOnce.set_map {flows : Vector (Option FlowEntry) 64} (ok : MatchedOnce flows) (k : FlowIdx)
    {g : FlowEntry → FlowEntry} (alike : ∀ e, (g e).Alike e) : MatchedOnce (flows.set k (flows[k].map g)) := by
  refine ok.of_alike fun j f hj => ?_
  rw [getElem_set_flow] at hj
  split at hj
  case isTrue same =>
    subst same
    obtain ⟨e, he, rfl⟩ := Option.map_eq_some_iff.mp hj
    exact ⟨e, he, alike e⟩
  case isFalse => exact ⟨f, hj, fun _ _ => rfl, fun _ => rfl⟩

/-- An entry that overlaps no other is installed. -/
theorem MatchedOnce.set_some {flows : Vector (Option FlowEntry) 64} (ok : MatchedOnce flows) {k : FlowIdx}
    {e : FlowEntry} {look : FlowIdx → Bool} (free : overlapsAny flows look e = false)
    (seen : ∀ j, j ≠ k → look j = true) : MatchedOnce (flows.set k (some e)) := by
  have alone : ∀ (j : FlowIdx) (f : FlowEntry), j ≠ k → flows[j] = some f → ¬e.BothMatch f := fun j f ne hj =>
    not_bothMatch_of_overlapsAny free (seen j ne) hj
  intro i j f g hi hj h
  rw [getElem_set_flow] at hi hj
  split at hi <;> split at hj
  case isTrue.isTrue hik hjk => exact hik.trans hjk.symm
  case isTrue.isFalse hik hjk =>
    cases hi
    exact absurd h (alone j g hjk hj)
  case isFalse.isTrue hik hjk =>
    cases hj
    exact absurd h.symm (alone i f hik hi)
  case isFalse.isFalse => exact ok i j f g hi hj h

theorem MatchedOnce.none : MatchedOnce (Vector.replicate 64 none) := by
  intro j k e f hj
  simp at hj

/-- A start loads an entry only when it overlaps none that was loaded before it (R65). -/
theorem MatchedOnce.loadKept {flows : Vector (Option FlowEntry) 64} (ok : MatchedOnce flows)
    (equipped : LineNo → Bool) (k : FlowIdx) (c : FlowContent) : MatchedOnce (loadKept equipped flows k c) := by
  unfold Machine.loadKept
  split
  case h_1 f _ =>
    split
    case isTrue => exact ok
    case isFalse free =>
      have alike : ({ f with kept := true } : FlowEntry).Alike f := ⟨fun _ _ => rfl, fun _ => rfl⟩
      refine (ok.set_some (k := k) (Bool.eq_false_iff.mpr free) fun _ _ => rfl).of_alike fun j g hj => ?_
      rw [getElem_set_flow] at hj ⊢
      split at hj
      case isTrue same =>
        cases hj
        exact ⟨f, if_pos same, alike⟩
      case isFalse other => exact ⟨g, (if_neg other).trans hj, fun _ _ => rfl, fun _ => rfl⟩
  case h_2 => exact ok

theorem MatchedOnce.startFlows (st : Settings) : MatchedOnce (startFlows st) := by
  refine List.foldlRecOn (motive := MatchedOnce) allFlows _ MatchedOnce.none fun flows ok k _ => ?_
  split
  · exact ok.loadKept _ _ _
  · exact ok

/-! ### The operations that change the table -/

theorem FlowsOk.setFlow_map {s : State} (ok : FlowsOk s) (k : FlowIdx) {g : FlowEntry → FlowEntry}
    (alike : ∀ e, (g e).Alike e) : FlowsOk (s.setFlow k (s.flows[k].map g)) :=
  (flowsOk_iff _).mpr (((flowsOk_iff s).mp ok).set_map k alike)

theorem FlowsOk.countMatchUp {s : State} (ok : FlowsOk s) (k : FlowIdx) : FlowsOk (s.countMatchUp k) :=
  ok.setFlow_map k fun _ => ⟨fun _ _ => rfl, fun _ => rfl⟩

theorem FlowsOk.countMatchDown {s : State} (ok : FlowsOk s) (k : FlowIdx) : FlowsOk (s.countMatchDown k) :=
  ok.setFlow_map k fun _ => ⟨fun _ _ => rfl, fun _ => rfl⟩

theorem FlowsOk.arriveUp {s : State} (ok : FlowsOk s) (l : LineNo) (tag len : Nat) : FlowsOk (s.arriveUp l tag len) := by
  unfold State.arriveUp
  split
  · exact ok.congr (by simp)
  · split
    · exact ok.congr (by simp)
    · split
      case h_1 k e _ =>
        dsimp only
        split
        · exact (ok.countMatchUp k).congr (by simp)
        · exact (ok.countMatchUp k).congr (by simp)
      case h_2 => exact ok.congr (by simp)

theorem FlowsOk.arriveDown {s : State} (ok : FlowsOk s) (tag len : Nat) : FlowsOk (s.arriveDown tag len) := by
  unfold State.arriveDown
  split
  case h_1 => exact ok.congr (by simp)
  case h_2 k e _ =>
    dsimp only
    split
    · exact (ok.countMatchDown k).congr (by simp)
    · split <;> exact (ok.countMatchDown k).congr (by simp)

theorem FlowsOk.releaseOne {acc : State × Nat × Nat} (ok : FlowsOk acc.1) (k : FlowIdx) (e : FlowEntry) (h : Held) :
    FlowsOk (State.releaseOne k e h acc).1 := by
  obtain ⟨s, placed, dropped⟩ := acc
  unfold State.releaseOne
  dsimp only
  split
  · exact ok
  · split
    · split <;> exact (ok.countMatchUp k).congr (by simp)
    · exact ok

/-- An entry that overlaps no other index is installed, and the release pass runs over the held frames (R50, R62). -/
theorem FlowsOk.install {s : State} (ok : FlowsOk s) {k : FlowIdx} {e : FlowEntry} {look : FlowIdx → Bool}
    (free : overlapsAny s.flows look e = false) (seen : ∀ j, j ≠ k → look j = true) : FlowsOk (s.install k e).1 := by
  have written : FlowsOk (s.setFlow k (some e)) := (flowsOk_iff _).mpr (((flowsOk_iff s).mp ok).set_some free seen)
  exact List.foldlRecOn (motive := fun acc : State × Nat × Nat => FlowsOk acc.1) _ _ written fun _ ok h _ => ok.releaseOne k e h

theorem FlowsOk.flowPut {s : State} (ok : FlowsOk s) (k : FlowIdx) (c : FlowContent) : FlowsOk (s.flowPut k c).2 := by
  unfold State.flowPut
  split
  · exact ok
  · split
    · exact ok
    · exact ok.install (Bool.eq_false_iff.mpr ‹_›) fun j other => bne_iff_ne.mpr other

theorem FlowsOk.flowPlace {s : State} (ok : FlowsOk s) (c : FlowContent) : FlowsOk (s.flowPlace c).2 := by
  unfold State.flowPlace
  split
  · exact ok
  · split
    · exact ok
    · split
      · exact ok
      · exact ok.install (Bool.eq_false_iff.mpr ‹_›) fun _ _ => rfl

theorem FlowsOk.flowDrop {s : State} (ok : FlowsOk s) (k : FlowIdx) : FlowsOk (s.flowDrop k).2 := by
  unfold State.flowDrop
  split
  · refine (flowsOk_iff _).mpr (((flowsOk_iff s).mp ok).of_alike fun j f hj => ?_)
    rw [State.setFlow_flows, getElem_set_flow] at hj
    split at hj
    · cases hj
    · exact ⟨f, hj, fun _ _ => rfl, fun _ => rfl⟩
  · exact ok

theorem FlowsOk.flowClear {s : State} (ok : FlowsOk s) (notKept : Bool) : FlowsOk (s.flowClear notKept).2 := by
  refine (flowsOk_iff _).mpr (((flowsOk_iff s).mp ok).of_alike fun j f hj => ⟨f, ?_, fun _ _ => rfl, fun _ => rfl⟩)
  simp only [State.flowClear, Fin.getElem_fin, Vector.getElem_map] at hj
  exact (Option.filter_eq_some_iff.mp hj).1

theorem FlowsOk.start (s : State) (cause : StartCause) : FlowsOk (s.start cause) := by
  have begun : ∀ (st : Settings) (v : SettingsStatus) (u : State),
      FlowsOk (u.startWith st v cause).sheddingPass.startSurgeNotice := fun st v u =>
    ((flowsOk_iff (u.startWith st v cause)).mpr (MatchedOnce.startFlows st)).congr (by simp)
  unfold State.start
  dsimp only
  split <;> exact begun _ _ _

/-! ### The requests and the steps -/

theorem FlowsOk.own {s : State} (ok : FlowsOk s) (p : PortId) (r : Req) : FlowsOk (own p r s).2 := by
  cases r
  case flowPut i c =>
    simp only [Machine.own, onFlow]
    split
    · exact ok.flowPut _ _
    · exact ok
  case flowPlace c => exact ok.flowPlace c
  case flowDrop i =>
    simp only [Machine.own, onFlow]
    split
    · exact ok.flowDrop _
    · exact ok
  case flowClear sel => exact ok.flowClear _
  all_goals
    refine ok.congr ?_
    simp only [Machine.own, onLine, onPoint, onFlow] <;> (repeat' split) <;>
      simp [State.flowFindUp, State.flowFindDown, State.flowRead]

theorem flowsOk_kept : Kept FlowsOk where
  time _ _ ok := ok.congr (by simp)
  recv _ _ _ ok := ok.congr (by simp)
  job _ _ _ ok := ok.congr (by simp)
  fault _ _ _ ok := ok.congr (by simp)
  inForce _ ok := ok.congr (by simp)
  saved _ _ _ _ ok := ok.congr (by simp)
  power _ _ _ ok := ok.congr (by simp)
  queue _ _ ok := ok.congr (by simp)
  start cause s _ := FlowsOk.start s cause
  own p r _ ok := ok.own p r
  syncUp _ _ ok := ok.congr (by simp)
  syncLost _ _ ok := ok.congr (by simp)
  deadline _ _ ok := ok.congr (by simp)
  arriveUp l tag len _ _ ok := ok.arriveUp l tag len
  arriveDown tag len _ _ ok := ok.arriveDown tag len
  takeDown _ _ ok := ok.congr (by simp)
  takeUp _ ok := ok.congr (by simp)
  expireHeld _ _ _ ok := ok.congr (by simp)
  decide _ ok := ok.congr (by simp)
  uplink _ _ ok := ok.congr (by simp)
  stepGen _ ok := ok.congr (by simp)
  endWarmup _ ok := ok.congr (by simp)
  endFirstSettle _ ok := ok.congr (by simp)
  endSecondSettle _ ok := ok.congr (by simp)
  reading _ _ ok := ok.congr (by simp)
  hazard _ ok := ok.congr (by simp)
  endRelease _ ok := ok.congr (by simp)
  endDwell _ ok := ok.congr (by simp)
  endExit _ ok := ok.congr (by simp)
  input _ _ _ ok := ok.congr (by simp)
  endDebounce _ _ ok := ok.congr (by simp)
  endSurgeClear _ ok := ok.congr (by simp)
  endQuiet _ ok := ok.congr (by simp)

/-- Settles O53: the table changes only where an entry counts a match, goes, is loaded at a start or is installed after
the overlap test, and each of these keeps the law of the table. -/
theorem flowsKept : Obligations.FlowsKept := flowsOk_kept.step

end Sys2Proof.Machine
end

section
/-! What the phases of an order can change of the machine (R111 to R118, R129 to R138): the generator, the record of
the current order but not the order itself, and the test connection of a WITHDRAWN line. Said once as a relation, and
shown of every operation by which the engine goes from phase to phase. -/

namespace Sys2Proof.Machine

/-- Machine u comes from s by the phases of the current order alone. -/
structure Onward (s u : State) : Prop where
  rest : u = { s with lines := u.lines, gen := u.gen, engine := u.engine }
  line : ∀ l, u.line l = s.line l ∨
    ∃ target c c', (s.line l).state = .withdrawn target c ∧ u.line l = { s.line l with state := .withdrawn target c' }
  queue : u.engine.queue = s.engine.queue
  results : u.engine.results = s.engine.results
  lastId : u.engine.lastId = s.engine.lastId
  order : u.engine.current.map Current.order = s.engine.current.map Current.order

theorem Onward.refl (s : State) : Onward s s := ⟨rfl, fun _ => .inl rfl, rfl, rfl, rfl, rfl⟩

theorem Onward.trans {s u v : State} (h : Onward s u) (g : Onward u v) : Onward s v where
  rest := by rw [g.rest, h.rest]
  line l := by
    rcases g.line l with same | ⟨target, c, c', hu, hv⟩
    · rw [same]
      exact h.line l
    · rcases h.line l with same | ⟨target', d, d', hs, hu'⟩
      · rw [same] at hu hv
        exact .inr ⟨target, c, c', hu, hv⟩
      · rw [hu'] at hu hv
        cases hu
        exact .inr ⟨target, d, c', hs, hv⟩
  queue := g.queue.trans h.queue
  results := g.results.trans h.results
  lastId := g.lastId.trans h.lastId
  order := g.order.trans h.order

/-! ### The primitive changes -/

theorem Onward.gen (g : Generator) (s : State) : Onward s { s with gen := g } :=
  ⟨rfl, fun _ => .inl rfl, rfl, rfl, rfl, rfl⟩

theorem Onward.cutGen (s : State) : Onward s s.cutGen := Onward.gen _ s

theorem Onward.setDrive (on : Bool) (s : State) : Onward s (s.setDrive on) := Onward.gen _ s

theorem Onward.withCurrent {f : Current → Current} (keeps : ∀ c, (f c).order = c.order) (s : State) :
    Onward s (s.withCurrent f) := by
  refine ⟨rfl, fun _ => .inl rfl, rfl, rfl, rfl, ?_⟩
  rw [State.withCurrent_engine, Option.map_map]
  exact congrArg (s.engine.current.map ·) (funext keeps)

theorem Onward.setPhase (ph : Phase) (s : State) : Onward s (s.setPhase ph) := Onward.withCurrent (by exact fun _ => rfl) s

theorem Onward.setConn (c : Conn) (s : State) : Onward s (s.setConn c) := by
  unfold State.setConn
  split
  · exact Onward.refl s
  case h_2 cur _ =>
    split
    case h_1 target d hw =>
      refine ⟨rfl, fun l => ?_, rfl, rfl, rfl, rfl⟩
      rw [State.line_setLineState]
      split
      case isTrue same => exact .inr ⟨target, d, c, same ▸ hw, by rw [same]⟩
      case isFalse => exact .inl rfl
    case h_2 => exact Onward.refl s

/-! ### Level reached, loads and steps (R89 to R91) -/

theorem Onward.leaveBus (settled : Nat → Phase) (s : State) : Onward s (s.leaveBus settled) :=
  ((Onward.setDrive false s).trans (Onward.setConn .offBus _)).trans (Onward.setPhase _ _)

theorem Onward.levelReached (s : State) : Onward s s.levelReached := by
  unfold State.levelReached
  split
  · exact Onward.refl s
  · split
    · exact Onward.setPhase _ s
    · exact Onward.setPhase _ s
    · exact Onward.leaveBus _ s
    · split
      · exact Onward.leaveBus _ s
      · exact Onward.refl s
    · exact Onward.refl s

/-- A generator set, with the level reached that it may give. -/
theorem Onward.gen_reached (g : Generator) (reached : Bool) (s : State) :
    Onward s (if reached then ({ s with gen := g } : State).levelReached else { s with gen := g }) := by
  split
  · exact (Onward.gen g s).trans (Onward.levelReached _)
  · exact Onward.gen g s

theorem Onward.load (prog : Program) (e p : Nat) (s : State) : Onward s (s.load prog e p) :=
  Onward.gen_reached _ _ s

theorem Onward.stepGen (s : State) : Onward s s.stepGen := by
  unfold State.stepGen
  split
  · exact Onward.gen_reached _ _ s
  · exact Onward.refl s

/-! ### The exit (R131 to R138) -/

theorem Onward.cutOff (s : State) : Onward s s.cutOff := (Onward.cutGen s).trans (Onward.setConn .offBus _)

theorem Onward.beginExit (cause : Cause) (s : State) : Onward s (s.beginExit cause) := by
  unfold State.beginExit
  dsimp only
  split
  · exact (Onward.cutOff s).trans (Onward.setPhase _ _)
  · exact (Onward.setPhase _ s).trans (Onward.load _ _ _ _)
  · split
    · exact (Onward.cutGen s).trans (Onward.setPhase _ _)
    · exact (Onward.cutOff s).trans (Onward.setPhase _ _)

theorem Onward.escalate (cause : Cause) (x : ExitRec) (s : State) : Onward s (s.escalate cause x) := by
  unfold State.escalate
  dsimp only
  split
  · exact (Onward.cutOff s).trans (Onward.setPhase _ _)
  · exact (Onward.setConn .offBus s).trans (Onward.setPhase _ _)
  · exact Onward.setPhase _ s

theorem Onward.takeHazard (s : State) : Onward s s.takeHazard := by
  unfold State.takeHazard
  split
  · exact Onward.refl s
  · split
    · exact Onward.beginExit _ s
    · exact Onward.beginExit _ s
    · exact Onward.escalate _ _ s
    · exact Onward.refl s

theorem Onward.takeSurge (s : State) : Onward s s.takeSurge := by
  unfold State.takeSurge
  split
  · exact Onward.refl s
  · split
    · exact Onward.escalate _ _ s
    · exact Onward.refl s
    · exact Onward.beginExit _ s

theorem Onward.takeDoor (s : State) : Onward s s.takeDoor := by
  unfold State.takeDoor
  split
  · exact Onward.refl s
  · split
    · split
      · exact Onward.setPhase _ s
      · split
        · exact Onward.beginExit _ s
        · exact Onward.refl s
    · exact Onward.refl s

theorem Onward.takeEnergyPass (s : State) : Onward s s.takeEnergyPass := by
  unfold State.takeEnergyPass
  split
  · exact Onward.refl s
  · split
    · exact Onward.setPhase _ s
    · exact Onward.setPhase _ s
    · exact Onward.beginExit _ s

theorem Onward.takeEnergyCrit (s : State) : Onward s s.takeEnergyCrit := by
  unfold State.takeEnergyCrit
  split
  · exact Onward.refl s
  · split
    · exact Onward.setPhase _ s
    · split
      · exact Onward.beginExit _ s
      · exact Onward.refl s

theorem Onward.endDwell (s : State) : Onward s s.endDwell := by
  unfold State.endDwell
  split
  · exact Onward.refl s
  · split
    · split
      · split
        · exact (Onward.setConn .offBus s).trans (Onward.setPhase _ _)
        · exact Onward.refl s
      · exact Onward.refl s
    · exact Onward.refl s

/-! ### From WARMUP to RELEASE (R112 to R118) -/

theorem Onward.endWarmup (s : State) : Onward s s.endWarmup := by
  unfold State.endWarmup
  split
  · split
    · exact Onward.setPhase _ s
    · exact Onward.refl s
  · exact Onward.refl s

theorem Onward.endFirstSettle (s : State) : Onward s s.endFirstSettle := by
  unfold State.endFirstSettle
  split
  · split
    · exact (Onward.setConn .onBus s).trans (Onward.setPhase _ _)
    · exact Onward.refl s
  · exact Onward.refl s

theorem Onward.endSecondSettle (s : State) : Onward s s.endSecondSettle := by
  unfold State.endSecondSettle
  split
  · split
    · exact ((Onward.setDrive true s).trans (Onward.setPhase _ _)).trans (Onward.load _ _ _ _)
    · exact Onward.refl s
  · exact Onward.refl s

theorem Onward.beginRelease (e p : Nat) (s : State) : Onward s (s.beginRelease e p) :=
  (Onward.setPhase _ s).trans (Onward.load _ _ _ _)

theorem Onward.beginStep (o : TestOrder) (k : Nat) (s : State) : Onward s (s.beginStep o k) := by
  unfold State.beginStep
  split
  · exact (Onward.setPhase _ s).trans (Onward.load _ _ _ _)
  · exact Onward.beginRelease _ _ s

theorem Onward.foreignReading (cur : Current) (v : Nat) (s : State) : Onward s (s.foreignReading cur v) := by
  unfold State.foreignReading
  split
  · exact (Onward.withCurrent (by exact fun _ => rfl) s).trans (Onward.beginRelease _ _ _)
  · exact (Onward.withCurrent (by exact fun _ => rfl) s).trans (Onward.beginStep _ _ _)

theorem Onward.stepReading (cur : Current) (k v : Nat) (s : State) : Onward s (s.stepReading cur k v) := by
  unfold State.stepReading
  split
  · exact Onward.refl s
  · dsimp only
    split
    · exact (Onward.withCurrent (by exact fun _ => rfl) s).trans (Onward.beginStep _ _ _)
    · exact (Onward.withCurrent (by exact fun _ => rfl) s).trans (Onward.beginRelease _ _ _)

theorem Onward.takeReading (r : Reading) (s : State) : Onward s (s.takeReading r) := by
  unfold State.takeReading
  split
  · exact Onward.refl s
  · split
    · exact Onward.foreignReading _ _ s
    · exact Onward.stepReading _ _ _ s
    · exact Onward.refl s

/-! ### What follows for single fields -/

section
variable {s u : State}

theorem Onward.kind (h : Onward s u) (l : LineNo) : (u.line l).state.kind = (s.line l).state.kind := by
  rcases h.line l with same | ⟨_, _, _, hs, hu⟩
  · rw [same]
  · rw [hu, hs]
    rfl

theorem Onward.profile (h : Onward s u) (l : LineNo) : (u.line l).profile = (s.line l).profile := by
  rcases h.line l with same | ⟨_, _, _, _, hu⟩ <;> simp only [*]

theorem Onward.failCount (h : Onward s u) (l : LineNo) : (u.line l).failCount = (s.line l).failCount := by
  rcases h.line l with same | ⟨_, _, _, _, hu⟩ <;> simp only [*]

theorem Onward.energy (h : Onward s u) : u.energy = s.energy := by rw [h.rest]

theorem Onward.points (h : Onward s u) : u.points = s.points := by rw [h.rest]

theorem Onward.params (h : Onward s u) : u.params = s.params := by rw [h.rest]

theorem Onward.flows (h : Onward s u) : u.flows = s.flows := by rw [h.rest]

theorem Onward.isSome (h : Onward s u) : u.engine.current.isSome = s.engine.current.isSome := by
  simpa only [Option.isSome_map] using congrArg Option.isSome h.order

end

end Sys2Proof.Machine
end

section
/-! How a law passes through the requests and the points: the operations of the cabinet points, once for a property that
the supply, the engine and the points' own records keep, and every request at its owning block. -/

namespace Sys2Proof.Machine

variable {P : State → Prop}

/-! ### The cabinet points (R162 to R166) -/

/-- A property kept by what a change of a cabinet point hands on: a notice, an attempt, a cause, a supply state. -/
structure Steady (P : State → Prop) : Prop where
  notice : ∀ (n : Notice) (s : State), P s → P (s.notify n)
  points : ∀ (x : Points) (s : State), x.testPower = s.points.testPower → P s → P { s with points := x }
  source : ∀ (v : SupplySource) (s : State), P s → P { s with energy := { s.energy with source := v } }
  attempt : ∀ s : State, P s → P s.attempt
  surge : ∀ s : State, P s → P s.takeSurge
  door : ∀ s : State, P s → P s.takeDoor
  removed : ∀ (cause : Cause) (os : List TestOrder) (s : State), os.Sublist s.engine.queue → P s →
    P (os.foldl (State.removeOrder cause) s)
  changeSupply : ∀ (new : Supply) (source : SupplySource) (s : State), P s → P (s.changeSupply new source)

namespace Steady

variable (k : Steady P) {s : State}
include k

theorem setPoint (p : PointNo) (f : Point → Point) (hs : P s) : P (s.setPoint p f) := k.points _ s rfl hs

theorem setSurge (v : Surge) (hs : P s) : P (s.setSurge v) := k.points _ s rfl hs

theorem setSupply (new : Supply) (source : SupplySource) (hs : P s) : P (s.setSupply new source) := by
  unfold State.setSupply
  split
  · exact k.source _ s hs
  · exact k.changeSupply _ _ s hs

theorem inputEvent (hs : P s) : P s.inputEvent := by
  unfold State.inputEvent
  split
  · exact hs
  · exact k.setSupply _ _ hs

theorem supplyRequest (st : Option Supply) (hs : P s) : P (s.supplyRequest st).2 := by
  unfold State.supplyRequest
  split
  · exact hs
  · exact k.setSupply _ _ hs

theorem doorLoss (hs : P s) : P s.doorLoss :=
  k.attempt _ (k.door _ (k.removed .door _ s List.filter_sublist hs))

theorem assertSurge (p : PointNo) (notice : Bool) (hs : P s) : P (s.assertSurge p notice) := by
  have asserted := k.setSurge .asserted
    (k.setPoint p (fun r => { r with debounced := some r.polarity.active, window := none }) hs)
  unfold State.assertSurge
  refine k.attempt _ (k.surge _ ?_)
  split
  · exact k.notice _ _ asserted
  · exact asserted

theorem surgeInput (p : PointNo) (lvl : Level) (hs : P s) : P (s.surgeInput p lvl) := by
  unfold State.surgeInput
  split
  · split
    · exact k.setPoint _ _ hs
    · exact k.assertSurge _ _ hs
  · split
    · exact k.setPoint _ _ hs
    · exact hs

theorem inputChange (p : PointNo) (lvl : Level) (hs : P s) : P (s.inputChange p lvl) := by
  have level := k.setPoint p (fun r => { r with input := lvl }) hs
  unfold State.inputChange
  split
  · exact hs
  · dsimp only
    split
    · exact level
    · split
      · exact k.surgeInput _ _ level
      · exact k.setPoint _ _ level

theorem doorMoved (now : Bool) (hs : P s) : P (s.doorMoved now) := by
  unfold State.doorMoved
  split
  · exact hs
  · exact k.doorLoss hs

theorem levelTaken (p : PointNo) (was : Bool) (hs : P s) : P (s.levelTaken p was) := by
  unfold State.levelTaken
  split
  · split
    · exact hs
    · exact k.doorMoved _ (k.notice _ _ hs)
  · split
    · exact hs
    · exact k.notice _ _ hs
  · exact k.inputEvent hs
  · exact k.inputEvent hs
  · exact k.inputEvent hs
  · exact hs

theorem endDebounce (p : PointNo) (hs : P s) : P (s.endDebounce p) := by
  have taken := k.setPoint p (fun r => { r with debounced := some r.input, window := none }) hs
  unfold State.endDebounce
  dsimp only
  split
  · split
    · exact taken
    · exact k.levelTaken _ _ taken
  · exact hs

theorem endSurgeClear (hs : P s) : P s.endSurgeClear := by
  unfold State.endSurgeClear
  split
  · exact hs
  · split
    · exact k.attempt _ (k.notice _ _ (k.setSurge _ (k.setPoint _ _ hs)))
    · exact hs

theorem endQuiet (hs : P s) : P s.endQuiet := by
  unfold State.endQuiet
  split
  · split
    · exact k.attempt _ (k.setSurge _ hs)
    · exact hs
  · exact hs

theorem releaseFn (p : PointNo) (hs : P s) : P (s.releaseFn p) := by
  have bare := k.setPoint p (fun r => { r with fn := .unassigned }) hs
  have calm := k.setSurge .calm (k.setPoint p
    (fun r => { r with debounced := none, window := some (s.now + Config.debounceTime) }) bare)
  unfold State.releaseFn
  dsimp only
  split
  case h_1 =>
    split
    · exact k.doorLoss bare
    · exact bare
  case h_2 =>
    split
    · exact calm
    · exact k.attempt _ calm
  case h_3 => exact k.inputEvent bare
  case h_4 => exact k.inputEvent bare
  case h_5 => exact k.inputEvent bare
  case h_6 => exact bare
  case h_7 => exact bare
  all_goals exact k.setPoint _ _ bare

theorem takeUpFn (p : PointNo) (hs : P s) : P (s.takeUpFn p) := by
  unfold State.takeUpFn
  split
  case h_1 =>
    split
    · exact k.assertSurge _ _ hs
    · exact k.setPoint _ _ hs
  case h_2 => exact k.inputEvent hs
  case h_3 => exact k.inputEvent hs
  case h_4 => exact k.inputEvent hs
  case h_10 => exact hs
  case h_11 => exact hs
  case h_12 => exact hs
  all_goals exact k.setPoint _ _ hs

theorem repolarise (p : PointNo) (pol : Polarity) (hs : P s) : P (s.repolarise p pol) := by
  have turned := k.setPoint p (fun r => { r with polarity := pol }) hs
  unfold State.repolarise
  dsimp only
  split
  · exact turned
  · split
    · exact k.doorMoved _ turned
    · exact k.inputEvent turned
    · exact k.inputEvent turned
    · exact k.inputEvent turned
    · exact turned

theorem assignFn (p : PointNo) (f : PointFn) (pol : Polarity) (hs : P s) : P (s.assignFn p f pol) := by
  unfold State.assignFn
  dsimp only
  split
  · exact hs
  · split
    · exact k.repolarise _ _ hs
    · exact k.takeUpFn _ (k.setPoint _ _ (k.releaseFn _ hs))

theorem pointAssign (p : PointNo) (f : PointFn) (pol : Polarity) (hs : P s) : P (s.pointAssign p f pol).2 := by
  unfold State.pointAssign
  split
  · exact hs
  · split
    · exact hs
    · split
      · exact hs
      · exact k.assignFn _ _ _ hs

theorem pointDrive (p : PointNo) (active : Bool) (hs : P s) : P (s.pointDrive p active).2 := by
  have driven := k.setPoint p (fun r => { r with driven := active }) hs
  unfold State.pointDrive
  split
  · exact driven
  · exact driven
  · exact hs

end Steady

/-! ### Every request at its owning block -/

/-- A property kept by every request that changes more than its port. -/
structure Requests (P : State → Prop) : Prop where
  clearStatus : ∀ s : State, P s → P s.clearStatus
  setParameter : ∀ (id value : Nat) (s : State), P s → P (s.setParameter id value).2
  fetch : ∀ s : State, P s → P s.fetchNotices.2
  lineStart : ∀ (l : LineNo) (s : State), P s → P (s.lineStart l).2
  lineStop : ∀ (l : LineNo) (s : State), P s → P (s.lineStop l).2
  lineProfile : ∀ (l : LineNo) (p : Profile) (s : State), P s → P (s.lineProfile l p).2
  lineClear : ∀ (l : LineNo) (s : State), P s → P (s.lineClear l).2
  lineQuery : ∀ (l : LineNo) (clear : Bool) (s : State), P s → P (s.lineQuery l clear).2
  lineEquip : ∀ (l : LineNo) (s : State), P s → P (s.lineEquip l).2
  lineUnequip : ∀ (l : LineNo) (s : State), P s → P (s.lineUnequip l).2
  flowPut : ∀ (i : FlowIdx) (c : FlowContent) (s : State), P s → P (s.flowPut i c).2
  flowPlace : ∀ (c : FlowContent) (s : State), P s → P (s.flowPlace c).2
  flowDrop : ∀ (i : FlowIdx) (s : State), P s → P (s.flowDrop i).2
  flowClear : ∀ (notKept : Bool) (s : State), P s → P (s.flowClear notKept).2
  testOrder : ∀ (p : PortId) (l : LineNo) (i q c : Bool) (steps : List RawStep) (s : State), P s →
    P (s.testOrder p l i q c steps).2
  testCancel : ∀ (p : PortId) (id : Nat) (s : State), P s → P (s.testCancel p id).2
  testResult : ∀ (p : PortId) (oldest : Bool) (id : Nat) (s : State), P s → P (s.testResult p oldest id).2
  testHalt : ∀ s : State, P s → P s.testHalt.2
  supply : ∀ (st : Option Supply) (s : State), P s → P (s.supplyRequest st).2
  budgetSet : ∀ (st : Option Supply) (n : Nat) (s : State), P s → P (s.budgetSet st n).2
  pointAssign : ∀ (p : PointNo) (f : PointFn) (pol : Polarity) (s : State), P s → P (s.pointAssign p f pol).2
  pointDrive : ∀ (p : PointNo) (active : Bool) (s : State), P s → P (s.pointDrive p active).2

section
variable {s : State}

theorem keeps_onLine (b : Byte) (f : LineNo → State → Reply × State) (hs : P s) (hf : ∀ l, P (f l s).2) :
    P (onLine b f s).2 := by
  unfold onLine
  split
  · exact hf _
  · exact hs

theorem keeps_onPoint (b : Byte) (f : PointNo → State → Reply × State) (hs : P s) (hf : ∀ p, P (f p s).2) :
    P (onPoint b f s).2 := by
  unfold onPoint
  split
  · exact hf _
  · exact hs

theorem keeps_onFlow (b : Byte) (f : FlowIdx → State → Reply × State) (hs : P s) (hf : ∀ i, P (f i s).2) :
    P (onFlow b f s).2 := by
  unfold onFlow
  split
  · exact hf _
  · exact hs

theorem Requests.own (k : Requests P) (p : PortId) (r : Req) (hs : P s) : P (own p r s).2 := by
  cases r
  case status clear =>
    simp only [Machine.own, State.statusRequest]
    split
    · exact k.clearStatus s hs
    · exact hs
  case setParameter id value => exact k.setParameter _ _ s hs
  case getParameter id =>
    simp only [Machine.own, State.getParameter]
    split <;> exact hs
  case fetchNotices => exact k.fetch s hs
  case lineStart l => exact keeps_onLine l _ hs fun l => k.lineStart l s hs
  case lineStop l => exact keeps_onLine l _ hs fun l => k.lineStop l s hs
  case lineProfile l w q c g park => exact keeps_onLine l _ hs fun l => k.lineProfile l _ s hs
  case lineClear l => exact keeps_onLine l _ hs fun l => k.lineClear l s hs
  case lineQuery l clear => exact keeps_onLine l _ hs fun l => k.lineQuery l _ s hs
  case lineEquip l sel =>
    refine keeps_onLine l _ hs fun l => ?_
    split
    · exact k.lineEquip l s hs
    · exact k.lineUnequip l s hs
  case flowPut i c => exact keeps_onFlow i _ hs fun i => k.flowPut i c s hs
  case flowPlace c => exact k.flowPlace c s hs
  case flowDrop i => exact keeps_onFlow i _ hs fun i => k.flowDrop i s hs
  case flowFind sel l tag =>
    simp only [Machine.own]
    split
    · exact hs
    · exact keeps_onLine l _ hs fun _ => hs
  case flowRead i => exact keeps_onFlow i _ hs fun _ => hs
  case flowClear sel => exact k.flowClear _ s hs
  case testOrder l i q c steps => exact keeps_onLine l _ hs fun l => k.testOrder p l _ _ _ steps s hs
  case testCancel id => exact k.testCancel p _ s hs
  case testResult sel id => exact k.testResult p _ _ s hs
  case testHalt => exact k.testHalt s hs
  case supply st => exact k.supply _ s hs
  case budgetSet st n => exact k.budgetSet _ _ s hs
  case pointAssign pt f pol =>
    simp only [Machine.own]
    split
    · exact keeps_onPoint pt _ hs fun q => k.pointAssign q _ _ s hs
    · exact hs
  case pointDrive pt st => exact keeps_onPoint pt _ hs fun q => k.pointDrive q _ s hs
  all_goals exact hs

end

end Sys2Proof.Machine
end

section
/-! How a law that speaks of no order, supply state or point is kept (the pool's, the capacities and ranges): a property
that the primitive changes of lines, notices, energy, engine and points keep is kept by the passes, the attempts, the
ends of orders and the supply, and so by the points, every request and every step. -/

namespace Sys2Proof.Machine

/-- The fail count and the profile of a line record in their ranges (R2, R9). -/
structure LineRec.Ranged (r : LineRec) : Prop where
  fails : r.failCount ≤ 7
  profile : profileOk r.profile.weight r.profile.keep r.profile.cost r.profile.limit = true

/-- A property kept by the primitive changes by which the blocks other than traffic act on the machine. -/
structure Inward (P : State → Prop) : Prop where
  onward : ∀ s u : State, Onward s u → P s → P u
  notice : ∀ (n : Notice) (s : State), P s → P (s.notify n)
  move : ∀ (l : LineNo) (st : LineState) (c : LineCause) (s : State), P s → P (s.moveLine l st c)
  record : ∀ (l : LineNo) (f : LineRec → LineRec) (s : State), (∀ r, r.Ranged → (f r).Ranged) → P s → P (s.setLine l f)
  energy : ∀ (e : Energy) (s : State), P s → P { s with energy := e }
  points : ∀ (x : Points) (s : State), P s → P { s with points := x }
  engine : ∀ (e : Engine) (s : State), e.queue.length ≤ s.engine.queue.length →
    e.results.length ≤ max 16 s.engine.results.length → P s → P { s with engine := e }
  enqueue : ∀ (o : TestOrder) (s : State), s.engine.queue.length < 8 → P s → P (s.enqueue o)
  param : ∀ (id value : Nat) (s : State), paramOk id value = true → P s →
    P { s with params := s.params.put id value }
  flows : ∀ (t : Vector (Option FlowEntry) 64) (s : State), P s → P { s with flows := t }
  install : ∀ (k : FlowIdx) (e : FlowEntry) (s : State), P s → P (s.install k e).1
  clearStatus : ∀ s : State, P s → P s.clearStatus
  fetch : ∀ s : State, P s → P s.fetchNotices.2

namespace Inward

variable {P : State → Prop} (k : Inward P) {s : State}
include k

/-! ### Line records, the shed list, results -/

theorem setFail (l : LineNo) {n : Nat} (h : n ≤ 7) (hs : P s) : P (s.setFail l n) :=
  k.record l _ s (fun _ r => ⟨h, r.profile⟩) hs

theorem editTarget (l : LineNo) (t : Target) (c : Conn) (hs : P s) : P (s.editTarget l t c) :=
  k.record l (fun r => { r with state := .withdrawn t c }) s (fun _ r => ⟨r.fails, r.profile⟩) hs

theorem setShed (ls : List LineNo) (hs : P s) : P (s.setShed ls) := k.energy _ s hs

theorem setCap (c : Nat) (hs : P s) : P (s.setCap c) := k.energy _ s hs

theorem dequeue (o : TestOrder) (hs : P s) : P (s.dequeue o) :=
  k.engine _ s (List.length_filter_le _ _) (le_max_right _ _) hs

theorem storeResult (r : Result) (hs : P s) : P (s.storeResult r) := by
  refine k.notice _ _ (k.engine _ s ?_ ?_ hs) <;> unfold Engine.store <;> split
  · exact le_rfl
  · exact le_rfl
  · simp only [Config.resultCapacity, List.length_append, List.length_singleton] at *
    omega
  · simp only [Config.resultCapacity, List.length_append, List.length_drop, List.length_singleton] at *
    omega

theorem idleEngine (hs : P s) : P s.idleEngine := k.engine _ s le_rfl (le_max_right _ _) hs

/-! ### The passes (R150, R152) -/

theorem shedLoop (n : Nat) (hs : P s) : P (s.shedLoop n) := by
  induction n generalizing s with
  | zero => exact hs
  | succ n ih =>
    rw [State.shedLoop]
    split
    · exact hs
    · split
      · exact ih (k.setCap _ hs)
      · split
        · exact ih (k.move _ _ _ _ (k.setShed _ hs))
        · exact k.onward _ _ (Onward.takeEnergyPass s) hs

theorem sheddingPass (hs : P s) : P s.sheddingPass := k.shedLoop 28 hs

theorem restoreLoop (n : Nat) (hs : P s) : P (s.restoreLoop n) := by
  induction n generalizing s with
  | zero => exact hs
  | succ n ih =>
    rw [State.restoreLoop]
    split
    · exact hs
    · split
      · exact ih (k.move _ _ _ _ (k.setShed _ hs))
      · exact hs

theorem raiseLoop (n : Nat) (hs : P s) : P (s.raiseLoop n) := by
  induction n generalizing s with
  | zero => exact hs
  | succ n ih =>
    rw [State.raiseLoop]
    split
    · exact ih (k.setCap _ hs)
    · exact hs

theorem restoringPass (hs : P s) : P s.restoringPass := k.raiseLoop 3 (k.restoreLoop _ hs)

theorem passFor (before after : Nat) (hs : P s) : P (s.passFor before after) := by
  unfold State.passFor
  split
  · exact k.sheddingPass hs
  · split
    · exact k.restoringPass hs
    · exact hs

theorem budgetPass (before : Nat) (hs : P s) : P (s.budgetPass before) := by
  unfold State.budgetPass
  split
  · exact k.sheddingPass hs
  · split
    · exact k.restoringPass hs
    · exact hs

/-! ### Orders: removed, refused, taken, ended (R107 to R110, R118, R125, R136) -/

theorem removeOrder (cause : Cause) (o : TestOrder) (hs : P s) : P (State.removeOrder cause s o) :=
  k.storeResult _ (k.dequeue o hs)

theorem removeOrders (cause : Cause) (os : List TestOrder) (hs : P s) : P (os.foldl (State.removeOrder cause) s) :=
  List.foldlRecOn (motive := P) os _ hs fun _ hu o _ => k.removeOrder cause o hu

theorem makeCurrent (o : TestOrder) (hs : P s) : P (s.makeCurrent o) :=
  k.points _ _ (k.engine { s.engine with current := some (Current.mk o (.warmup (s.now + Config.warmupTime)) none [] .pass) }
    s le_rfl (le_max_right _ _) hs)

theorem acquire (o : TestOrder) (target : Target) (hs : P s) : P (s.acquire o target) :=
  k.passFor _ _ (k.makeCurrent o (k.move _ _ _ _ (k.setShed _ (k.dequeue o hs))))

theorem refuseOrder (o : TestOrder) (hs : P s) : P (s.refuseOrder o) := k.storeResult _ (k.dequeue o hs)

theorem attemptLoop (n : Nat) (hs : P s) : P (s.attemptLoop n) := by
  induction n generalizing s with
  | zero => exact hs
  | succ n ih =>
    have refused (o : TestOrder) : P ((s.refuseOrder o).attemptLoop n) := ih (k.refuseOrder o hs)
    rw [State.attemptLoop]
    split
    · exact hs
    · split
      · exact hs
      · split
        · split
          · exact k.acquire _ _ hs
          · exact k.acquire _ _ hs
          · split
            · exact k.acquire _ _ hs
            · exact refused _
          · split
            · exact k.acquire _ _ hs
            · exact refused _
          · exact k.acquire _ _ hs
          · exact hs
          · exact hs
        · exact hs

theorem attempt (hs : P s) : P s.attempt := k.attemptLoop _ hs

theorem attemptIfMoved (before : Nat) (hs : P s) : P (s.attemptIfMoved before) := by
  unfold State.attemptIfMoved
  split
  · exact hs
  · exact k.attempt hs

theorem settleChange (before : Nat) (hs : P s) : P (s.settleChange before) := by
  unfold State.settleChange
  split
  · exact hs
  · exact k.attempt (k.passFor _ _ hs)

theorem returnLine (l : LineNo) (target : Target) (r : ReturnState) (hs : P s) : P (s.returnLine l target r) := by
  unfold State.returnLine
  split
  · split
    · exact k.move _ _ _ _ (k.setFail l (Nat.zero_le _) hs)
    · exact k.move _ _ _ _ hs
  · exact k.move _ _ _ _ hs
  · exact k.sheddingPass (k.move _ _ _ _ hs)
  · exact k.move _ _ _ _ (k.setShed _ hs)

theorem finishOrder (c : Current) (hs : P s) : P (s.finishOrder c) :=
  k.attempt (k.restoringPass (k.idleEngine (k.storeResult _ (k.returnLine _ _ _ (k.points _ s hs)))))

theorem endRelease (hs : P s) : P s.endRelease := by
  unfold State.endRelease
  split
  · exact hs
  · split
    · split
      · exact k.finishOrder _ hs
      · exact hs
    · exact hs

theorem endExit (hs : P s) : P s.endExit := by
  unfold State.endExit
  split
  · exact hs
  · split
    · split
      · split
        · exact k.finishOrder _ hs
        · exact hs
      · exact hs
    · exact hs

/-! ### Lines (R7 to R9, R14 to R21) -/

theorem syncUp (l : LineNo) (hs : P s) : P (s.syncUp l) := by
  unfold State.syncUp
  split
  · exact k.move _ _ _ _ (k.setFail l (Nat.zero_le _) hs)
  · exact hs

theorem syncLost (l : LineNo) (hs : P s) : P (s.syncLost l) := by
  unfold State.syncLost
  split
  · exact k.move _ _ _ _ hs
  · exact hs

theorem deadlineExpires (l : LineNo) (hs : P s) : P (s.deadlineExpires l) := by
  unfold State.deadlineExpires
  split
  · split
    · exact k.settleChange _ (k.move _ _ _ _ (k.setFail l (min_le_left _ _) hs))
    · exact hs
  · exact hs

theorem lineStart (l : LineNo) (hs : P s) : P (s.lineStart l).2 := by
  unfold State.lineStart
  split
  · split
    · exact k.settleChange _ (k.move _ _ _ _ hs)
    · exact hs
  · exact hs
  · exact hs
  · exact hs
  · exact k.editTarget _ _ _ hs
  · exact hs
  · exact hs
  · exact hs

theorem lineStop (l : LineNo) (hs : P s) : P (s.lineStop l).2 := by
  unfold State.lineStop
  split
  · exact k.settleChange _ (k.move _ _ _ _ hs)
  · exact k.settleChange _ (k.move _ _ _ _ hs)
  · exact hs
  · exact k.move _ _ _ _ (k.setShed _ hs)
  · exact hs
  · exact k.editTarget _ _ _ hs
  · exact hs
  · exact hs

theorem lineClear (l : LineNo) (hs : P s) : P (s.lineClear l).2 := by
  unfold State.lineClear
  split
  · exact k.move _ _ _ _ (k.setFail l (Nat.zero_le _) hs)
  · exact k.editTarget _ _ _ (k.setFail l (Nat.zero_le _) hs)
  · exact hs

theorem lineEquip (l : LineNo) (hs : P s) : P (s.lineEquip l).2 := by
  unfold State.lineEquip
  split
  · exact hs
  · exact k.move _ _ _ _ (k.setFail l (Nat.zero_le _) hs)

theorem lineUnequip (l : LineNo) (hs : P s) : P (s.lineUnequip l).2 := by
  have gone : P ((s.setFail l 0).moveLine l .unequipped .request) := k.move _ _ _ _ (k.setFail l (Nat.zero_le _) hs)
  unfold State.lineUnequip
  split
  · split
    · exact hs
    · exact gone
  · split
    · exact hs
    · exact gone
  · exact hs

theorem lineProfile (l : LineNo) (p : Profile) (hs : P s) : P (s.lineProfile l p).2 := by
  unfold State.lineProfile
  split
  · exact hs
  · split
    · exact hs
    case isFalse ok => exact k.settleChange _ (k.record l _ s (fun _ r => ⟨r.fails, by simpa using ok⟩) hs)

theorem lineQuery (l : LineNo) (clear : Bool) (hs : P s) : P (s.lineQuery l clear).2 := by
  unfold State.lineQuery
  dsimp only
  split
  · exact k.record l _ s (fun _ r => ⟨r.fails, r.profile⟩) hs
  · exact hs

/-! ### Tests (R103, R124 to R126) -/

theorem testOrder (p : PortId) (l : LineNo) (i q c : Bool) (steps : List RawStep) (hs : P s) :
    P (s.testOrder p l i q c steps).2 := by
  unfold State.testOrder
  split
  · exact hs
  · split
    · exact hs
    · split
      · exact hs
      · split
        · exact hs
        · split
          · exact hs
          case isFalse room => exact k.attempt (k.enqueue _ s (Nat.not_le.mp room) hs)

theorem testCancel (p : PortId) (id : Nat) (hs : P s) : P (s.testCancel p id).2 := by
  unfold State.testCancel
  split
  · split
    · exact hs
    · exact k.attempt (k.removeOrder .cancel _ hs)
  · split
    · exact hs
    · split
      · exact hs
      · split
        · exact hs
        · split
          · exact k.onward _ _ (Onward.beginExit .cancel s) hs
          · exact hs

theorem testResult (p : PortId) (oldest : Bool) (id : Nat) (hs : P s) : P (s.testResult p oldest id).2 := by
  unfold State.testResult
  split
  · exact hs
  · refine k.engine _ s le_rfl ?_ hs
    rw [List.length_map]
    exact le_max_right _ _

theorem testHalt (hs : P s) : P s.testHalt.2 := by
  have removed := k.removeOrders .halt s.engine.queue hs
  unfold State.testHalt
  dsimp only
  split
  · exact removed
  · split
    · exact k.onward _ _ (Onward.beginExit .halt _) removed
    · exact removed

/-! ### Supply, budgets and the cap ceiling (R143 to R149) -/

theorem changeSupply (new : Supply) (source : SupplySource) (hs : P s) : P (s.changeSupply new source) := by
  have noticed := k.notice (.supply new ({ s with energy := { s.energy with supply := new, source := source } } : State).budget
    source) _ (k.energy { s.energy with supply := new, source := source } s hs)
  unfold State.changeSupply
  refine k.attempt (k.budgetPass _ ?_)
  split
  · exact k.onward _ _ (Onward.takeEnergyCrit _) noticed
  · exact noticed

theorem putBudget (st : Supply) (n : Nat) (hs : P s) : P (s.putBudget st n) := by
  have put := k.energy { s.energy with budgets := s.energy.budgets.put st n } s hs
  unfold State.putBudget
  dsimp only
  split
  · exact put
  · exact k.attempt (k.budgetPass _ (k.notice _ _ put))

theorem ceilingSet (old : Nat) (hs : P s) : P (s.ceilingSet old) := by
  unfold State.ceilingSet
  split
  · exact k.attempt (k.restoringPass (k.setCap _ hs))
  · split
    · exact k.attemptIfMoved _ (k.restoringPass hs)
    · exact hs

theorem setParameter (id value : Nat) (hs : P s) : P (s.setParameter id value).2 := by
  unfold State.setParameter
  split
  · exact hs
  · split
    · exact hs
    · have put := k.param id value s (by simp_all) hs
      unfold State.putParameter
      dsimp only
      split
      · exact k.ceilingSet _ put
      · exact put

theorem budgetSet (st : Option Supply) (n : Nat) (hs : P s) : P (s.budgetSet st n).2 := by
  unfold State.budgetSet
  split
  · exact hs
  · split
    · exact hs
    · exact k.putBudget _ _ hs

/-! ### Flow requests (R50 to R53) -/

theorem flowPut (i : FlowIdx) (c : FlowContent) (hs : P s) : P (s.flowPut i c).2 := by
  unfold State.flowPut
  split
  · exact hs
  · split
    · exact hs
    · exact k.install _ _ _ hs

theorem flowPlace (c : FlowContent) (hs : P s) : P (s.flowPlace c).2 := by
  unfold State.flowPlace
  split
  · exact hs
  · split
    · exact hs
    · split
      · exact hs
      · exact k.install _ _ _ hs

theorem flowDrop (i : FlowIdx) (hs : P s) : P (s.flowDrop i).2 := by
  unfold State.flowDrop
  split
  · exact k.flows _ s hs
  · exact hs

/-! ### Points and requests -/

theorem steady : Steady P where
  notice := k.notice
  points x s _ hs := k.points x s hs
  source _ s hs := k.energy _ s hs
  attempt _ hs := k.attempt hs
  surge s hs := k.onward _ _ (Onward.takeSurge s) hs
  door s hs := k.onward _ _ (Onward.takeDoor s) hs
  removed cause os _ _ hs := k.removeOrders cause os hs
  changeSupply new source _ hs := k.changeSupply new source hs

theorem requests : Requests P where
  clearStatus := k.clearStatus
  setParameter id value _ hs := k.setParameter id value hs
  fetch := k.fetch
  lineStart l _ hs := k.lineStart l hs
  lineStop l _ hs := k.lineStop l hs
  lineProfile l p _ hs := k.lineProfile l p hs
  lineClear l _ hs := k.lineClear l hs
  lineQuery l clear _ hs := k.lineQuery l clear hs
  lineEquip l _ hs := k.lineEquip l hs
  lineUnequip l _ hs := k.lineUnequip l hs
  flowPut i c _ hs := k.flowPut i c hs
  flowPlace c _ hs := k.flowPlace c hs
  flowDrop i _ hs := k.flowDrop i hs
  flowClear _ s hs := k.flows _ s hs
  testOrder p l i q c steps _ hs := k.testOrder p l i q c steps hs
  testCancel p id _ hs := k.testCancel p id hs
  testResult p oldest id _ hs := k.testResult p oldest id hs
  testHalt _ hs := k.testHalt hs
  supply st _ hs := k.steady.supplyRequest st hs
  budgetSet st n _ hs := k.budgetSet st n hs
  pointAssign p f pol _ hs := k.steady.pointAssign p f pol hs
  pointDrive p active _ hs := k.steady.pointDrive p active hs

end Inward

/-! ### Every step -/

/-- The rest of what every step rests on: ports, power, starts, and the events of traffic. -/
structure Outward (P : State → Prop) : Prop where
  time : ∀ (t : Nat) (s : State), P s → P (s.advance t)
  port : ∀ (x : Ports) (s : State), x.dropInForce = s.ports.dropInForce → x.rateInForce = s.ports.rateInForce →
    (∀ p, FaultsOk (s.port p).faults → FaultsOk (({ s with ports := x } : State).port p).faults) → P s →
    P { s with ports := x }
  inForce : ∀ s : State, P s → P s.pendingInForce
  saved : ∀ (st : Store) (status : SettingsStatus) (n : Nat) (s : State), P s →
    P { s with store := st, status := status, freeCount := n }
  power : ∀ (on low : Bool) (s : State), P s → P { s with powered := on, resetLow := low }
  queue : ∀ (cs : List Instr) (s : State), P s → P { s with pending := cs }
  start : ∀ (cause : StartCause) (s : State), P s → P (s.start cause)
  arriveUp : ∀ (l : LineNo) (tag len : Nat) (s : State), frameLengthOk len = true → P s → P (s.arriveUp l tag len)
  arriveDown : ∀ (tag len : Nat) (s : State), frameLengthOk len = true → P s → P (s.arriveDown tag len)
  takeDown : ∀ (l : LineNo) (s : State), P s → P (s.takeDown l)
  takeUp : ∀ s : State, P s → P s.takeUp
  expireHeld : ∀ (l : LineNo) (tag : Nat) (s : State), P s → P (s.expireHeld l tag)
  decide : ∀ s : State, P s → P s.decide
  uplink : ∀ (r : Option RateClass) (s : State), P s → P (s.uplinkReport r)

theorem satUp_le (n : Nat) : satUp n ≤ Config.faultLimit := min_le_left _ _

/-- Every fault count stays within its limit as one gains 1 (R171). -/
theorem FaultsOk.add {c : FaultCounts} (ok : FaultsOk c) (k : FaultKind) : FaultsOk (c.add k) := by
  obtain ⟨char, check, length, timeout, brk, overlap, group⟩ := ok
  cases k <;> constructor <;> first | assumption | exact satUp_le _

/-- A port record changed in its receive state or job, or by a fault counted. -/
theorem Outward.setPort {P : State → Prop} (o : Outward P) (p : PortId) (f : PortRec → PortRec)
    (faults : ∀ r, FaultsOk r.faults → FaultsOk (f r).faults) (s : State) (hs : P s) : P (s.setPort p f) := by
  cases p
  case main =>
    refine o.port _ s rfl rfl (fun p ok => ?_) hs
    cases p
    · exact faults _ ok
    · exact ok
  case craft =>
    refine o.port _ s rfl rfl (fun p ok => ?_) hs
    cases p
    · exact ok
    · exact faults _ ok

theorem Outward.kept {P : State → Prop} (o : Outward P) (k : Inward P) : Kept P where
  time := o.time
  recv p v s hs := o.setPort p (fun r => { r with recv := v }) (fun _ ok => ok) s hs
  job p j s hs := o.setPort p (fun r => { r with job := j }) (fun _ ok => ok) s hs
  fault p f s hs := o.setPort p _ (fun _ ok => ok.add f) s hs
  inForce := o.inForce
  saved := o.saved
  power := o.power
  queue := o.queue
  start := o.start
  own p r _ hs := k.requests.own p r hs
  syncUp l _ hs := k.syncUp l hs
  syncLost l _ hs := k.syncLost l hs
  deadline l _ hs := k.deadlineExpires l hs
  arriveUp := o.arriveUp
  arriveDown := o.arriveDown
  takeDown := o.takeDown
  takeUp := o.takeUp
  expireHeld := o.expireHeld
  decide := o.decide
  uplink := o.uplink
  stepGen s hs := k.onward _ _ (Onward.stepGen s) hs
  endWarmup s hs := k.onward _ _ (Onward.endWarmup s) hs
  endFirstSettle s hs := k.onward _ _ (Onward.endFirstSettle s) hs
  endSecondSettle s hs := k.onward _ _ (Onward.endSecondSettle s) hs
  reading r s hs := k.onward _ _ (Onward.takeReading r s) hs
  hazard s hs := k.onward _ _ (Onward.takeHazard s) hs
  endRelease _ hs := k.endRelease hs
  endDwell s hs := k.onward _ _ (Onward.endDwell s) hs
  endExit _ hs := k.endExit hs
  input p v _ hs := k.steady.inputChange p v hs
  endDebounce p _ hs := k.steady.endDebounce p hs
  endSurgeClear _ hs := k.steady.endSurgeClear hs
  endQuiet _ hs := k.steady.endQuiet hs

end Sys2Proof.Machine
end

section
/-! The laws of the buffer pool (R25 to R28, R38): the account of a pool against the number of positions of each frame,
what a new frame, a position given up and a tag rewritten do to that account, and every step. -/

namespace Sys2Proof.Machine

/-! ### The account of a pool -/

/-- The records of a pool and its free cells agree with `pos`, the number of queue positions of each handle. -/
structure Accounted (p : Pool) (pos : Nat → Nat) : Prop where
  conserved : p.free + (p.frames.map fun e => e.2.cells).sum = Config.poolCells
  distinct : (p.frames.map Prod.fst).Nodup
  fresh : ∀ e ∈ p.frames, e.1 < p.nextId
  sized : ∀ e ∈ p.frames, e.2.cells = cellsFor e.2.length ∧ 64 ≤ e.2.length ∧ e.2.length ≤ 1536
  counted : ∀ e ∈ p.frames, e.2.refs = pos e.1 ∧ 1 ≤ e.2.refs
  recorded : ∀ id, 0 < pos id → ∃ e ∈ p.frames, e.1 = id

theorem poolOk_iff (s : State) : PoolOk s ↔ Accounted s.pool s.positions ∧ (s.hold.map Held.frame).Nodup where
  mp := fun ⟨conserved, distinct, fresh, sized, counted, recorded, heldOnce⟩ =>
    ⟨⟨conserved, distinct, fresh, sized, counted, recorded⟩, heldOnce⟩
  mpr := fun ⟨⟨conserved, distinct, fresh, sized, counted, recorded⟩, heldOnce⟩ =>
    ⟨conserved, distinct, fresh, sized, counted, recorded, heldOnce⟩

section
variable {p : Pool} {pos : Nat → Nat}

/-- A handle in a queue has one record, which the pool finds. -/
theorem Accounted.split (h : Accounted p pos) {id : Nat} (placed : 0 < pos id) :
    ∃ as f bs, p.find id = some f ∧ p.frames = as ++ (id, f) :: bs ∧ ∀ e ∈ as ++ bs, e.1 ≠ id := by
  obtain ⟨e, he, same⟩ := h.recorded id placed
  obtain ⟨f, found⟩ := Option.isSome_iff_exists.mp
    (List.lookup_isSome_iff.mpr ⟨e, he, beq_iff_eq.mpr same.symm⟩ : (p.frames.lookup id).isSome = true)
  obtain ⟨as, bs, frames, before⟩ := List.lookup_eq_some_iff.mp found
  refine ⟨as, f, bs, found, frames, fun e he => ?_⟩
  have distinct := h.distinct
  rw [frames, List.map_append, List.map_cons, List.nodup_append, List.nodup_cons] at distinct
  obtain ⟨-, ⟨notAfter, -⟩, -⟩ := distinct
  rcases List.mem_append.mp he with he | he
  · exact (bne_iff_ne.mp (before e he)).symm
  · exact fun same => notAfter (by simpa only [same] using List.mem_map_of_mem (f := Prod.fst) he)

/-- The next handle stands in no queue. -/
theorem Accounted.nextId_free (h : Accounted p pos) : pos p.nextId = 0 := by
  by_contra placed
  obtain ⟨e, he, same⟩ := h.recorded _ (Nat.pos_of_ne_zero placed)
  exact absurd same (h.fresh e he).ne

/-- A frame takes its first positions (R25, R28). -/
theorem Accounted.create (h : Accounted p pos) {origin : Origin} {tag len refs : Nat} {pos' : Nat → Nat}
    (fits : cellsFor len ≤ p.free) (short : 64 ≤ len) (long : len ≤ 1536) (some_ : 1 ≤ refs)
    (more : ∀ k, pos' k = pos k + if k = p.nextId then refs else 0) : Accounted (p.create origin tag len refs) pos' where
  conserved := by
    have := h.conserved
    simp only [Pool.create, List.map_append, List.sum_append, List.map_cons, List.map_nil, List.sum_singleton]
    omega
  distinct := by
    simp only [Pool.create, List.map_append, List.map_cons, List.map_nil]
    refine List.nodup_append.mpr ⟨h.distinct, List.nodup_singleton _, fun a ha b hb same => ?_⟩
    obtain ⟨e, he, rfl⟩ := List.mem_map.mp ha
    exact absurd (same.trans (List.mem_singleton.mp hb)) (h.fresh e he).ne
  fresh e he := by
    rcases List.mem_append.mp he with he | he
    · exact (h.fresh e he).trans (Nat.lt_succ_self _)
    · cases List.mem_singleton.mp he
      exact Nat.lt_succ_self _
  sized e he := by
    rcases List.mem_append.mp he with he | he
    · exact h.sized e he
    · cases List.mem_singleton.mp he
      exact ⟨rfl, short, long⟩
  counted e he := by
    rcases List.mem_append.mp he with he | he
    · rw [more, if_neg (h.fresh e he).ne]
      exact h.counted e he
    · cases List.mem_singleton.mp he
      refine ⟨?_, some_⟩
      rw [more, h.nextId_free, if_pos rfl, Nat.zero_add]
  recorded id placed := by
    rw [more] at placed
    split at placed
    case isTrue same => exact ⟨_, List.mem_append_right _ (List.mem_singleton.mpr rfl), same.symm⟩
    case isFalse =>
      obtain ⟨e, he, same⟩ := h.recorded id placed
      exact ⟨e, List.mem_append_left _ he, same⟩

/-- The records are edited without a change of handle or size. -/
theorem Accounted.map (h : Accounted p pos) {g : Nat × Frame → Nat × Frame} {pos' : Nat → Nat}
    (key : ∀ e, (g e).1 = e.1) (size : ∀ e, (g e).2.cells = e.2.cells ∧ (g e).2.length = e.2.length)
    (refs : ∀ e ∈ p.frames, (g e).2.refs = pos' e.1 ∧ 1 ≤ (g e).2.refs) (placed : ∀ k, 0 < pos' k → 0 < pos k) :
    Accounted { p with frames := p.frames.map g } pos' where
  conserved := by
    simpa only [List.map_map, Function.comp_def, size] using h.conserved
  distinct := by
    simpa only [List.map_map, Function.comp_def, key] using h.distinct
  fresh := by
    simpa only [List.forall_mem_map, key] using h.fresh
  sized := by
    simpa only [List.forall_mem_map, size] using h.sized
  counted := by
    simpa only [List.forall_mem_map, key] using refs
  recorded k some_ := by
    obtain ⟨e, he, same⟩ := h.recorded k (placed k some_)
    exact ⟨g e, List.mem_map_of_mem he, (key e).trans same⟩

/-- A tag is rewritten (R38). -/
theorem Accounted.retag (h : Accounted p pos) (id tag : Nat) : Accounted (p.retag id tag) pos := by
  refine h.map (fun e => ?_) (fun e => ?_) (fun e he => ?_) fun _ some_ => some_
  · split <;> rfl
  · split <;> exact ⟨rfl, rfl⟩
  · have counted := h.counted e he
    split <;> exact counted

/-- The record of one handle goes, with its cells. -/
theorem Accounted.remove (h : Accounted p pos) {id : Nat} {f : Frame} {pos' : Nat → Nat} (here : pos' id = 0)
    (elsewhere : ∀ k, k ≠ id → pos k = pos' k) {as bs : List (Nat × Frame)} (frames : p.frames = as ++ (id, f) :: bs)
    (others : ∀ e ∈ as ++ bs, e.1 ≠ id) : Accounted { p with free := p.free + f.cells, frames := as ++ bs } pos' := by
  have sub : (as ++ bs).Sublist p.frames := by
    rw [frames]
    exact (List.Sublist.refl as).append (List.sublist_cons_self _ _)
  refine ⟨?_, h.distinct.sublist (sub.map _), fun e he => h.fresh e (sub.subset he), fun e he => h.sized e (sub.subset he),
    fun e he => ?_, fun k placed => ?_⟩
  · have total := h.conserved
    simp only [frames, List.map_append, List.map_cons, List.sum_append, List.sum_cons] at total ⊢
    omega
  · rw [← elsewhere _ (others e he)]
    exact h.counted e (sub.subset he)
  · have ne : k ≠ id := fun same => by rw [same, here] at placed; exact absurd placed (lt_irrefl 0)
    obtain ⟨e, he, same⟩ := h.recorded k (by rwa [elsewhere k ne])
    refine ⟨e, ?_, same⟩
    rw [frames] at he
    rcases List.mem_append.mp he with he | he
    · exact List.mem_append_left _ he
    · rcases List.mem_cons.mp he with rfl | he
      · exact absurd same.symm ne
      · exact List.mem_append_right _ he

/-- A frame gives up one position; with its last one its record goes and its cells are free (R28). -/
theorem Accounted.giveUp (h : Accounted p pos) {id : Nat} {pos' : Nat → Nat}
    (less : ∀ k, pos k = pos' k + if k = id then 1 else 0) : Accounted (p.giveUp id) pos' := by
  have here : pos id = pos' id + 1 := by rw [less, if_pos rfl]
  have elsewhere : ∀ k, k ≠ id → pos k = pos' k := fun k ne => by rw [less, if_neg ne, Nat.add_zero]
  obtain ⟨as, f, bs, found, frames, others⟩ := h.split (id := id) (by omega)
  have unique : ∀ e ∈ p.frames, e.1 = id → e = (id, f) := fun e he same => by
    rw [frames] at he
    rcases List.mem_append.mp he with he | he
    · exact absurd same (others e (List.mem_append_left _ he))
    · rcases List.mem_cons.mp he with rfl | he
      · rfl
      · exact absurd same (others e (List.mem_append_right _ he))
  have refs : f.refs = pos id := (h.counted (id, f) (by rw [frames]; exact List.mem_append_right _ List.mem_cons_self)).1
  by_cases last : f.refs ≤ 1
  case pos =>
    have kept : p.frames.filter (fun e => e.1 != id) = as ++ bs := by
      rw [frames, List.filter_append, List.filter_cons_of_neg (by simp), ← List.filter_append]
      exact List.filter_eq_self.mpr fun e he => bne_iff_ne.mpr (others e he)
    simp only [Pool.giveUp, found, if_pos last, kept]
    exact h.remove (by omega) elsewhere frames others
  case neg =>
    simp only [Pool.giveUp, found, if_neg last]
    refine h.map (fun e => ?_) (fun e => ?_) (fun e he => ?_) fun k some_ => ?_
    · split <;> rfl
    · split <;> exact ⟨rfl, rfl⟩
    · split
      case isTrue same =>
        obtain rfl := unique e he same
        simp only
        omega
      case isFalse other =>
        rw [← elsewhere _ other]
        exact h.counted e he
    · have := less k
      omega

/-- Every frame of a queue gives up its position there. -/
theorem Accounted.giveUp_all (ids : List Nat) {p : Pool} {pos pos' : Nat → Nat} (h : Accounted p pos)
    (less : ∀ k, pos k = pos' k + ids.count k) : Accounted (ids.foldl (fun p id => p.giveUp id) p) pos' := by
  induction ids generalizing p pos with
  | nil =>
    have same : pos = pos' := funext less
    exact same ▸ h
  | cons id ids ih =>
    refine ih (h.giveUp (pos' := fun k => pos' k + ids.count k) fun k => ?_) fun _ => rfl
    simp only [less k, List.count_cons, beq_iff_eq, Nat.add_assoc, @eq_comm _ id k]

/-- Only the cells, the records and the next handle enter the account. -/
theorem Accounted.congr {q : Pool} {pos' : Nat → Nat} (h : Accounted p pos) (free : q.free = p.free)
    (frames : q.frames = p.frames) (next : q.nextId = p.nextId) (same : ∀ k, pos' k = pos k) : Accounted q pos' := by
  obtain rfl : pos' = pos := funext same
  obtain ⟨conserved, distinct, fresh, sized, counted, recorded⟩ := h
  constructor <;> simpa only [free, frames, next]

end

/-! ### Positions in the queues of the lines (R30, R33) -/

/-- The number of positions of a handle in the 24 queues of one direction. -/
def queued (q : Vector (List Nat) 24) (id : Nat) : Nat := (allLines.map fun l => q[l].count id).sum

theorem queued_sum (q : Vector (List Nat) 24) (id : Nat) : queued q id = ∑ l : LineNo, q[l].count id := by
  rw [queued, allLines, Fin.sum_univ_def]

theorem getElem_set_line {α : Type} (v : Vector α 24) (l k : LineNo) (a : α) :
    (v.set l a)[k] = if k = l then a else v[k] := by
  simp only [Fin.getElem_fin, Vector.getElem_set, Fin.ext_iff, eq_comm]

/-- One queue is replaced: its own positions change. -/
theorem queued_set (q : Vector (List Nat) 24) (l : LineNo) (ids : List Nat) (id : Nat) :
    queued (q.set l ids) id + q[l].count id = queued q id + ids.count id := by
  have rest : ∀ v : Vector (List Nat) 24, queued v id = v[l].count id + ∑ k ∈ Finset.univ.erase l, v[k].count id :=
    fun v => by
      rw [queued_sum]
      exact (Finset.add_sum_erase Finset.univ (fun k : LineNo => v[k].count id) (Finset.mem_univ l)).symm
  have same : ∑ k ∈ Finset.univ.erase l, (q.set l ids)[k].count id = ∑ k ∈ Finset.univ.erase l, q[k].count id :=
    Finset.sum_congr rfl fun k hk => by rw [getElem_set_line, if_neg (Finset.ne_of_mem_erase hk)]
  rw [rest (q.set l ids), rest q, same, getElem_set_line, if_pos rfl]
  omega

theorem State.positions_eq (s : State) (id : Nat) :
    s.positions id = (s.hold.map Held.frame).count id + queued s.sched.ingress id + s.sched.launch.count id
      + queued s.egress id := rfl

/-! ### The queues after each operation of traffic -/

@[simp] theorem State.beginTurn_queues (s : State) :
    s.beginTurn.sched.ingress = s.sched.ingress ∧ s.beginTurn.sched.active = s.sched.active ∧
    s.beginTurn.sched.launch = s.sched.launch := by
  unfold State.beginTurn
  split <;> simp

@[simp] theorem State.endTurn_queues (s : State) :
    s.endTurn.sched.ingress = s.sched.ingress ∧ s.endTurn.sched.launch = s.sched.launch := by
  unfold State.endTurn
  split <;> simp

@[simp] theorem State.grant_queues (l : LineNo) (rest : List LineNo) (id : Nat) (more : List Nat) (s : State) :
    (s.grant l rest id more).sched.ingress = s.sched.ingress.set l more ∧
    (s.grant l rest id more).sched.launch = s.sched.launch ++ [id] := by
  unfold State.grant
  dsimp only
  split <;> simp

@[simp] theorem State.joinIngress_queues (l : LineNo) (id : Nat) (s : State) :
    (s.joinIngress l id).sched.ingress = s.sched.ingress.set l (s.sched.ingress[l] ++ [id]) ∧
    (s.joinIngress l id).sched.launch = s.sched.launch := by
  rw [State.joinIngress_eq]
  exact ⟨rfl, rfl⟩

/-- An egress queue is emptied: every frame of it gives up its position, and nothing else moves in the pool (R35). -/
theorem State.emptyEgress_queues (l : LineNo) (s : State) :
    (s.emptyEgress l).pool = s.egress[l].foldl (fun p id => p.giveUp id) s.pool ∧
    (s.emptyEgress l).egress = s.egress.set l [] := by
  have fold : ∀ (ids : List Nat) (u : State),
      (ids.foldl (fun v id => (v.giveUp id).dropDown l .notInService) u).pool =
        ids.foldl (fun p id => p.giveUp id) u.pool ∧
      (ids.foldl (fun v id => (v.giveUp id).dropDown l .notInService) u).egress = u.egress := by
    intro ids
    induction ids with
    | nil => exact fun u => ⟨rfl, rfl⟩
    | cons id ids ih => exact fun u => ih ((u.giveUp id).dropDown l .notInService)
  obtain ⟨pool, egress⟩ := fold s.egress[l] s
  exact ⟨pool, congrArg (·.set l []) egress⟩

theorem State.notify_pool (n : Notice) (s : State) : (s.notify n).pool = s.pool := by simp

theorem State.joinIngress_pool (l : LineNo) (id : Nat) (s : State) : (s.joinIngress l id).pool = s.pool := by simp

theorem State.joinEach_pool (id : Nat) (ls : List LineNo) (s : State) :
    (ls.foldl (State.joinEgress id) s).pool = s.pool := by simp

theorem State.positions_joinIngress (l : LineNo) (id k : Nat) (s : State) :
    (s.joinIngress l id).positions k = s.positions k + if k = id then 1 else 0 := by
  have set := queued_set s.sched.ingress l (s.sched.ingress[l] ++ [id]) k
  simp only [List.count_append, List.count_singleton, beq_iff_eq, @eq_comm _ id k] at set
  simp only [State.positions_eq, State.joinIngress_frame, State.joinIngress_queues]
  omega

theorem State.positions_joinEgress (l : LineNo) (id k : Nat) (s : State) :
    (State.joinEgress id s l).positions k = s.positions k + if k = id then 1 else 0 := by
  have set := queued_set s.egress l (s.egress[l] ++ [id]) k
  simp only [List.count_append, List.count_singleton, beq_iff_eq, @eq_comm _ id k] at set
  simp only [State.positions_eq, State.joinEgress]
  omega

theorem State.positions_joinEach (id k : Nat) (ls : List LineNo) (s : State) :
    (ls.foldl (State.joinEgress id) s).positions k = s.positions k + if k = id then ls.length else 0 := by
  induction ls generalizing s with
  | nil => simp
  | cons l ls ih =>
    rw [List.foldl_cons, ih, State.positions_joinEgress, List.length_cons]
    split <;> omega

/-- A held frame stands in the hold list once, and a release or expiry takes that position away. -/
theorem count_unhold {hold : List Held} (once : (hold.map Held.frame).Nodup) {h : Held} (mem : h ∈ hold) (k : Nat) :
    (hold.map Held.frame).count k =
      ((hold.filter fun j => j.frame != h.frame).map Held.frame).count k + if k = h.frame then 1 else 0 := by
  have moved : (hold.filter fun j => j.frame != h.frame).map Held.frame =
      (hold.map Held.frame).filter (fun j => j != h.frame) := by
    rw [List.filter_map]
    rfl
  rw [moved]
  split
  case isTrue same =>
    have gone : h.frame ∉ (hold.map Held.frame).filter fun j => j != h.frame := fun found =>
      absurd rfl (bne_iff_ne.mp (List.mem_filter.mp found).2)
    rw [same, List.count_eq_one_of_mem once (List.mem_map_of_mem mem), List.count_eq_zero_of_not_mem gone]
  case isFalse other => rw [List.count_filter (by simpa using other), Nat.add_zero]

/-! ### The operations that move positions -/

section
variable {s u : State}

theorem PoolOk.congr (ok : PoolOk s) (pool : u.pool = s.pool) (hold : u.hold = s.hold)
    (ingress : u.sched.ingress = s.sched.ingress) (launch : u.sched.launch = s.sched.launch)
    (egress : u.egress = s.egress) : PoolOk u := by
  have positions : u.positions = s.positions := funext fun k => by
    simp only [State.positions_eq, hold, ingress, launch, egress]
  rw [poolOk_iff, pool, positions, hold]
  exact (poolOk_iff s).mp ok

theorem PoolOk.emptyEgress (ok : PoolOk s) (l : LineNo) : PoolOk (s.emptyEgress l) := by
  obtain ⟨account, once⟩ := (poolOk_iff s).mp ok
  obtain ⟨pool, egress⟩ := s.emptyEgress_queues l
  refine (poolOk_iff _).mpr ⟨?_, by simpa using once⟩
  rw [pool]
  refine account.giveUp_all _ fun k => ?_
  have set := queued_set s.egress l [] k
  simp only [State.positions_eq, egress, State.emptyEgress_frame, List.count_nil] at set ⊢
  omega

theorem PoolOk.moveLine (ok : PoolOk s) (l : LineNo) (st : LineState) (c : LineCause) : PoolOk (s.moveLine l st c) := by
  have set : PoolOk ((s.setLineState l st).notify (.line l st.kind c)) :=
    ok.congr (by simp) (by simp) (by simp) (by simp) (by simp)
  unfold State.moveLine
  split
  · exact set.emptyEgress l
  · exact set

/-- One position of a frame is taken away, and the frame gives it up. -/
theorem PoolOk.giveUp (ok : PoolOk s) {id : Nat} (pool : u.pool = s.pool) (once : (u.hold.map Held.frame).Nodup)
    (less : ∀ k, s.positions k = u.positions k + if k = id then 1 else 0) : PoolOk (u.giveUp id) := by
  refine (poolOk_iff _).mpr ⟨?_, once⟩
  rw [State.giveUp_pool, pool]
  exact ((poolOk_iff s).mp ok).1.giveUp less

theorem PoolOk.takeDown (ok : PoolOk s) (l : LineNo) : PoolOk (s.takeDown l) := by
  unfold State.takeDown
  split
  · split
    · exact ok
    case h_2 id rest head =>
      refine ok.giveUp rfl ok.heldOnce fun k => ?_
      have set := queued_set s.egress l rest k
      simp only [head, List.count_cons, beq_iff_eq, @eq_comm _ id k] at set
      simp only [State.positions_eq, State.countDown_frame]
      omega
  · exact ok

theorem PoolOk.takeUp (ok : PoolOk s) : PoolOk s.takeUp := by
  unfold State.takeUp
  split
  · split
    · exact ok
    case h_2 id rest head =>
      refine ok.giveUp (by simp) (by simpa using ok.heldOnce) fun k => ?_
      simp only [State.positions_eq, State.countFrameUp_frame, head, List.count_cons, beq_iff_eq, @eq_comm _ id k]
      omega
  · exact ok

/-- A held frame leaves the hold list, its position with it. -/
theorem State.positions_unhold (once : (s.hold.map Held.frame).Nodup) {h : Held} (mem : h ∈ s.hold) (k : Nat) :
    s.positions k = (s.unhold h).positions k + if k = h.frame then 1 else 0 := by
  have count := count_unhold once mem k
  simp only [State.positions_eq, State.unhold_frame, State.unhold_hold]
  omega

theorem heldOnce_unhold (once : (s.hold.map Held.frame).Nodup) (h : Held) :
    ((s.unhold h).hold.map Held.frame).Nodup := once.sublist (List.filter_sublist.map _)

theorem PoolOk.expireHeld (ok : PoolOk s) (l : LineNo) (tag : Nat) : PoolOk (s.expireHeld l tag) := by
  unfold State.expireHeld
  split
  · exact ok
  case h_2 h found =>
    split
    · have mem : h ∈ s.hold := List.mem_of_find?_eq_some found
      have gone : PoolOk ((s.unhold h).giveUp h.frame) :=
        ok.giveUp rfl (heldOnce_unhold ok.heldOnce h) (State.positions_unhold ok.heldOnce mem)
      exact gone.congr (by simp) (by simp) (by simp) (by simp) (by simp)
    · exact ok

/-- A new frame takes its first positions, which are counted in its record. -/
theorem PoolOk.create (ok : PoolOk s) {origin : Origin} {tag len refs : Nat} (fits : cellsFor len ≤ s.pool.free)
    (length : frameLengthOk len = true) (placed : 1 ≤ refs) (pool : u.pool = s.pool.create origin tag len refs)
    (once : (u.hold.map Held.frame).Nodup)
    (more : ∀ k, u.positions k = s.positions k + if k = s.pool.nextId then refs else 0) : PoolOk u := by
  simp only [frameLengthOk, Bool.and_eq_true, decide_eq_true_eq] at length
  refine (poolOk_iff u).mpr ⟨?_, once⟩
  rw [pool]
  exact ((poolOk_iff s).mp ok).1.create fits length.1 length.2 placed more

/-- The next handle is not among the held frames. -/
theorem PoolOk.nextId_not_held (ok : PoolOk s) : s.pool.nextId ∉ s.hold.map Held.frame := by
  have free := ((poolOk_iff s).mp ok).1.nextId_free
  intro held
  have := List.count_pos_iff.mpr held
  rw [State.positions_eq] at free
  omega

theorem PoolOk.missDecide (ok : PoolOk s) (l : LineNo) {tag len : Nat} (fits : cellsFor len ≤ s.pool.free)
    (length : frameLengthOk len = true) : PoolOk (s.missDecide l tag len) := by
  unfold State.missDecide
  split
  · exact ok.congr (by simp) (by simp) (by simp) (by simp) (by simp)
  · split
    · refine ok.create (refs := 1) fits length le_rfl (State.notify_pool _ _) ?_ fun k => ?_
      · simp only [State.notify_frame, List.map_append, List.map_cons, List.map_nil]
        exact List.nodup_append.mpr ⟨ok.heldOnce, List.nodup_singleton _, fun a ha b hb same =>
          ok.nextId_not_held (List.mem_singleton.mp hb ▸ same ▸ ha)⟩
      · simp only [State.positions_eq, State.notify_frame, List.map_append, List.map_cons, List.map_nil,
          List.count_append, List.count_singleton, beq_iff_eq, @eq_comm _ _ k]
        omega
    · exact ok.congr (by simp) (by simp) (by simp) (by simp) (by simp)

theorem PoolOk.arriveUp (ok : PoolOk s) (l : LineNo) (tag : Nat) {len : Nat} (length : frameLengthOk len = true) :
    PoolOk (s.arriveUp l tag len) := by
  unfold State.arriveUp
  split
  · exact ok.congr (by simp) (by simp) (by simp) (by simp) (by simp)
  · split
    · exact ok.congr (by simp) (by simp) (by simp) (by simp) (by simp)
    case isFalse fits =>
      split
      case h_1 k e _ =>
        dsimp only
        split
        · refine ok.create (refs := 1) (Nat.not_lt.mp fits) length le_rfl
            (State.joinIngress_pool _ _ _) (by simpa using ok.heldOnce) fun k => ?_
          exact State.positions_joinIngress _ _ _ _
        · exact ok.congr (by simp) (by simp) (by simp) (by simp) (by simp)
      case h_2 => exact ok.missDecide l (Nat.not_lt.mp fits) length

theorem PoolOk.arriveDown (ok : PoolOk s) (tag : Nat) {len : Nat} (length : frameLengthOk len = true) :
    PoolOk (s.arriveDown tag len) := by
  unfold State.arriveDown
  split
  case h_1 =>
    obtain ⟨account, once⟩ := (poolOk_iff s).mp ok
    exact (poolOk_iff _).mpr ⟨account.congr rfl rfl rfl fun _ => rfl, once⟩
  case h_2 k e _ =>
    dsimp only
    have counted : PoolOk ((e.targets.filter fun l => !(s.countMatchDown k).eligible l).foldl
        (fun s l => s.dropDown l (s.ineligibleReason l)) (s.countMatchDown k)) :=
      ok.congr (by simp) (by simp) (by simp) (by simp) (by simp)
    split
    · exact counted
    case isFalse some_ =>
      split
      · exact counted.congr (by simp) (by simp) (by simp) (by simp) (by simp)
      case isFalse fits =>
        refine counted.create (Nat.not_lt.mp fits) length (List.length_pos_iff.mpr some_)
          (State.joinEach_pool _ _ _) (by simpa using ok.heldOnce) fun k => ?_
        exact State.positions_joinEach _ _ _ _

theorem PoolOk.decide (ok : PoolOk s) : PoolOk s.decide := by
  unfold State.decide
  split
  · split
    · exact ok
    case h_2 l rest _ =>
      split
      · exact ok
      case h_2 id more head =>
        split
        · obtain ⟨account, once⟩ := (poolOk_iff s).mp ok
          refine (poolOk_iff _).mpr ⟨account.congr (by simp) (by simp) (by simp) fun k => ?_, by simpa using once⟩
          have set := queued_set s.sched.ingress l more k
          simp only [head, List.count_cons] at set
          simp only [State.positions_eq, State.grant_frame, State.grant_queues, List.count_append, List.count_singleton]
          omega
        · exact ok.congr (by simp) (by simp) (by simp) (by simp) (by simp)
  · exact ok

/-! ### The release pass (R62) -/

theorem PoolOk.of_empty (pool : s.pool = Pool.empty) (hold : s.hold = []) (ingress : s.sched.ingress = Vector.replicate 24 [])
    (launch : s.sched.launch = []) (egress : s.egress = Vector.replicate 24 []) : PoolOk s := by
  have none (k : Nat) : s.positions k = 0 := by
    have replicated : queued (Vector.replicate 24 []) k = 0 := by simp [queued_sum]
    simp only [State.positions_eq, hold, ingress, launch, egress, replicated, List.map_nil, List.count_nil]
  rw [poolOk_iff, pool, hold]
  refine ⟨⟨rfl, List.nodup_nil, ?_, ?_, ?_, fun k placed => absurd (none k) placed.ne'⟩, List.nodup_nil⟩ <;>
    exact fun e he => absurd he List.not_mem_nil

end

/-- The release pass reaches a held frame: it changes its queue or gives up its position, and the other held frames
stay in the list. -/
theorem PoolOk.releaseOne {acc : State × Nat × Nat} (ok : PoolOk acc.1) {h : Held} (mem : h ∈ acc.1.hold) (k : FlowIdx)
    (e : FlowEntry) :
    PoolOk (State.releaseOne k e h acc).1 ∧
      ∀ j ∈ acc.1.hold, j.frame ≠ h.frame → j ∈ (State.releaseOne k e h acc).1.hold := by
  obtain ⟨s, placed, dropped⟩ := acc
  unfold State.releaseOne
  dsimp only at ok mem ⊢
  split
  · exact ⟨ok, fun j hj _ => hj⟩
  case h_2 l tag _ =>
    split
    case isFalse => exact ⟨ok, fun j hj _ => hj⟩
    case isTrue =>
      have counted : PoolOk (s.countMatchUp k) := ok.congr (by simp) (by simp) (by simp) (by simp) (by simp)
      have less := State.positions_unhold (h := h) counted.heldOnce (by simpa using mem)
      have once := heldOnce_unhold counted.heldOnce h
      have stays : ∀ j ∈ s.hold, j.frame ≠ h.frame → j ∈ ((s.countMatchUp k).unhold h).hold := fun j hj other => by
        simpa using ⟨hj, other⟩
      split
      · refine ⟨(poolOk_iff _).mpr ⟨?_, by simpa using once⟩, by simpa using stays⟩
        rw [State.joinIngress_pool]
        have account := ((poolOk_iff _).mp counted).1.retag h.frame (e.toUplink tag)
        refine account.congr (by simp) (by simp) (by simp) fun j => ?_
        rw [State.positions_joinIngress, less]
        rfl
      · refine ⟨?_, by simpa using stays⟩
        have gone : PoolOk (((s.countMatchUp k).unhold h).giveUp h.frame) := counted.giveUp rfl once less
        exact gone.congr (by simp) (by simp) (by simp) (by simp) (by simp)

theorem PoolOk.releasePass {s : State} (ok : PoolOk s) (k : FlowIdx) (e : FlowEntry) : PoolOk (s.releasePass k e).1 := by
  have fold : ∀ (hs : List Held) (acc : State × Nat × Nat), PoolOk acc.1 → (hs.map Held.frame).Nodup →
      (∀ h ∈ hs, h ∈ acc.1.hold) → PoolOk (hs.foldl (fun acc h => State.releaseOne k e h acc) acc).1 := by
    intro hs
    induction hs with
    | nil => exact fun _ ok _ _ => ok
    | cons h hs ih =>
      intro acc ok once mem
      obtain ⟨notAgain, once⟩ := List.nodup_cons.mp once
      obtain ⟨released, stays⟩ := ok.releaseOne (mem h List.mem_cons_self) k e
      refine ih _ released once fun j hj => stays j (mem j (List.mem_cons_of_mem _ hj)) fun same => ?_
      exact notAgain (same ▸ List.mem_map_of_mem hj)
  exact fold s.hold (s, 0, 0) ok ok.heldOnce fun _ hj => hj

/-! ### Every step -/

theorem poolOk_inward : Inward PoolOk where
  onward s u h ok := by
    rw [h.rest]
    exact ok.congr rfl rfl rfl rfl rfl
  notice _ _ ok := ok.congr (by simp) (by simp) (by simp) (by simp) (by simp)
  move l st c _ ok := ok.moveLine l st c
  record _ _ _ _ ok := ok.congr (by simp) (by simp) (by simp) (by simp) (by simp)
  energy _ _ ok := ok.congr (by simp) (by simp) (by simp) (by simp) (by simp)
  points _ _ ok := ok.congr (by simp) (by simp) (by simp) (by simp) (by simp)
  engine _ _ _ _ ok := ok.congr (by simp) (by simp) (by simp) (by simp) (by simp)
  enqueue _ _ _ ok := ok.congr (by simp) (by simp) (by simp) (by simp) (by simp)
  param _ _ _ _ ok := ok.congr (by simp) (by simp) (by simp) (by simp) (by simp)
  flows _ _ ok := ok.congr (by simp) (by simp) (by simp) (by simp) (by simp)
  install k e _ ok :=
    (ok.congr (by simp) (by simp) (by simp) (by simp) (by simp) : PoolOk (State.setFlow k (some e) _)).releasePass k e
  clearStatus s ok :=
    have ⟨account, once⟩ := (poolOk_iff s).mp ok
    (poolOk_iff _).mpr ⟨account.congr rfl rfl rfl fun _ => rfl, once⟩
  fetch _ ok := ok.congr (by simp) (by simp) (by simp) (by simp) (by simp)

theorem PoolOk.start (cause : StartCause) (s : State) : PoolOk (s.start cause) := by
  have begun (st : Settings) (v : SettingsStatus) (u : State) :
      PoolOk (u.startWith st v cause).sheddingPass.startSurgeNotice :=
    have cleared : PoolOk (u.startWith st v cause) := PoolOk.of_empty rfl rfl rfl rfl rfl
    (poolOk_inward.sheddingPass cleared).congr (by simp) (by simp) (by simp) (by simp) (by simp)
  unfold State.start
  dsimp only
  split <;> exact begun _ _ _

theorem poolOk_outward : Outward PoolOk where
  time _ _ ok := ok.congr (by simp) (by simp) (by simp) (by simp) (by simp)
  port _ _ _ _ _ ok := ok.congr (by simp) (by simp) (by simp) (by simp) (by simp)
  inForce _ ok := ok.congr (by simp) (by simp) (by simp) (by simp) (by simp)
  saved _ _ _ _ ok := ok.congr (by simp) (by simp) (by simp) (by simp) (by simp)
  power _ _ _ ok := ok.congr (by simp) (by simp) (by simp) (by simp) (by simp)
  queue _ _ ok := ok.congr (by simp) (by simp) (by simp) (by simp) (by simp)
  start cause s _ := PoolOk.start cause s
  arriveUp l tag _ _ length ok := ok.arriveUp l tag length
  arriveDown tag _ _ length ok := ok.arriveDown tag length
  takeDown l _ ok := ok.takeDown l
  takeUp _ ok := ok.takeUp
  expireHeld l tag _ ok := ok.expireHeld l tag
  decide _ ok := ok.decide
  uplink _ _ ok := ok.congr (by simp) (by simp) (by simp) (by simp) (by simp)

theorem poolOk_kept : Kept PoolOk := poolOk_outward.kept poolOk_inward

/-- Settles O52: the account of the pool against the positions in the queues is kept by each of its three operations,
each used where a queue gains or loses the position that it counts. -/
theorem poolKept : Obligations.PoolKept := poolOk_kept.step

end Sys2Proof.Machine
end

section
/-! The parameter table and the settings image (R189, R190): which values a parameter takes, what storing one changes,
and that the words of a good image, and the factory defaults, are settings in their ranges. -/

namespace Sys2Proof.Machine

/-! ### The parameter table (R190, R198) -/

/-- The ten ranges. -/
theorem paramOk_iff (id v : Nat) : paramOk id v = true ↔
    (id = 1 ∧ 1 ≤ v ∧ v ≤ 30) ∨ (id = 2 ∧ v ∈ [96, 192, 384, 1152]) ∨ (id = 3 ∧ 5 ≤ v ∧ v ≤ 255) ∨
    (id = 4 ∧ 50 ≤ v ∧ v ≤ 5000 ∧ 50 ∣ v) ∨ (id = 5 ∧ 10 ≤ v ∧ v ≤ 250) ∨ (id = 6 ∧ 1 ≤ v ∧ v ≤ 7) ∨
    (id = 7 ∧ 10 ≤ v ∧ v ≤ 120) ∨ (id = 8 ∧ v ≤ 2) ∨ (id = 9 ∧ 1 ≤ v ∧ v ≤ 60) ∨ (id = 10 ∧ 1 ≤ v ∧ v ≤ 4) := by
  unfold paramOk
  split <;> simp_all [Nat.dvd_iff_mod_eq_zero, or_assoc, and_assoc]

theorem exitModeOfCode_code {n : Nat} (h : n ≤ 2) : (exitModeOfCode n).code = n := by
  interval_cases n <;> rfl

/-- The value stored under an id is read back (R190). -/
theorem Params.get_put_self (p : Params) {id v : Nat} (ok : paramOk id v = true) : (p.put id v).get id = v := by
  rcases (paramOk_iff id v).mp ok with ⟨rfl, _⟩ | ⟨rfl, _⟩ | ⟨rfl, _⟩ | ⟨rfl, _⟩ | ⟨rfl, _⟩ | ⟨rfl, _⟩ | ⟨rfl, _⟩ |
    ⟨rfl, h⟩ | ⟨rfl, _⟩ | ⟨rfl, _⟩
  case inr.inl => exact Nat.mul_div_cancel v (by decide)
  case inr.inr.inr.inr.inr.inr.inr.inl => exact exitModeOfCode_code h
  all_goals rfl

/-- Storing a value under an id changes no other parameter. -/
theorem Params.get_put_other (p : Params) {id v other : Nat} (ne : other ≠ id) :
    (p.put id v).get other = p.get other := by
  unfold Params.put
  split
  case h_11 => rfl
  all_goals
    unfold Params.get
    split <;> first | rfl | exact absurd rfl ne

/-- The rate is the encoded value in units of 100 baud, where the table takes one. -/
theorem Params.put_rate (p : Params) {id v : Nat} (ok : paramOk id v = true) (rate : p.rate ∈ linkRates) :
    (p.put id v).rate ∈ linkRates := by
  rcases (paramOk_iff id v).mp ok with ⟨rfl, _⟩ | ⟨rfl, h⟩ | ⟨rfl, _⟩ | ⟨rfl, _⟩ | ⟨rfl, _⟩ | ⟨rfl, _⟩ | ⟨rfl, _⟩ |
    ⟨rfl, _⟩ | ⟨rfl, _⟩ | ⟨rfl, _⟩
  case inr.inl =>
    have encoded : ∀ v ∈ [96, 192, 384, 1152], v * 100 ∈ linkRates := by decide
    exact encoded v h
  all_goals exact rate

/-! ### Settings in their ranges (R2, R142, R189, R190, R192) -/

/-- The parameters of a table in their ranges. -/
structure Params.Ranged (p : Params) : Prop where
  params : ∀ id ∈ paramIds, paramOk id (p.get id) = true
  rate : p.rate ∈ linkRates

theorem Params.Ranged.put {p : Params} (ok : p.Ranged) {id v : Nat} (h : paramOk id v = true) : (p.put id v).Ranged where
  params other mem := by
    by_cases same : other = id
    · rw [same, Params.get_put_self p h]
      exact h
    · rw [Params.get_put_other p same]
      exact ok.params other mem
  rate := p.put_rate h ok.rate

theorem Params.Ranged.drop {p : Params} (ok : p.Ranged) : 1 ≤ p.drop ∧ p.drop ≤ 30 := by
  have h := ok.params 1 (by decide)
  simpa [paramOk, Params.get] using h

theorem Params.Ranged.capCeiling {p : Params} (ok : p.Ranged) : 1 ≤ p.capCeiling ∧ p.capCeiling ≤ 4 := by
  have h := ok.params 10 (by decide)
  simpa [paramOk, Params.get] using h

/-- Every parameter, profile and budget of settings in its range. -/
structure Settings.Ranged (st : Settings) : Prop where
  params : st.params.Ranged
  profiles : ∀ l : LineNo, profileOk st.profiles[l].weight st.profiles[l].keep st.profiles[l].cost
    st.profiles[l].limit = true
  budgets : ∀ v : Supply, 4 ≤ st.budgets.of v ∧ st.budgets.of v ≤ 255

theorem Params.default_ranged : Params.default.Ranged := ⟨by decide, by decide⟩

theorem Settings.default_ranged : Settings.default.Ranged where
  params := Params.default_ranged
  profiles l := by
    simp only [Settings.default, Fin.getElem_fin, Vector.getElem_replicate]
    decide
  budgets v := by cases v <;> decide

/-- The words of a good image are settings in their ranges (R189). -/
theorem Settings.ofWords_ranged {ws : List Half} (ok : wordsInRange ws = true) : (Settings.ofWords ws).Ranged := by
  simp only [wordsInRange, Bool.and_eq_true, List.all_eq_true] at ok
  obtain ⟨⟨params, profiles⟩, budgets⟩ := ok
  refine ⟨?_, fun l => ?_, fun v => ?_⟩
  · exact List.foldlRecOn (motive := Params.Ranged) paramIds _ Params.default_ranged fun _ p id mem => p.put (params id mem)
  · have := (profiles l (List.mem_finRange l)).1
    simpa only [Settings.ofWords, Fin.getElem_fin, Vector.getElem_ofFn, profileOfWords] using this
  · have budget (i : Nat) (mem : i ∈ [0, 1, 2, 3]) : 4 ≤ wordAt ws (budgetsAt + i) ∧ wordAt ws (budgetsAt + i) ≤ 255 := by
      simpa [budgetOk] using budgets i mem
    cases v
    · exact budget 2 (by decide)
    · exact budget 0 (by decide)
    · exact budget 1 (by decide)
    · exact budget 2 (by decide)
    · exact budget 3 (by decide)

theorem Settings.ofWords_ranged_of_good {st : Store} (good : st.good = true) : (Settings.ofWords st.words).Ranged := by
  simp only [Store.good, Bool.and_eq_true] at good
  exact Settings.ofWords_ranged good.2

end Sys2Proof.Machine
end

section
/-! Capacities and ranges (R1, R2, R30, R33, R36, R58, R105, R123, R171, R186, R190): the law cut along the records of
the state, so that an operation answers for the records it writes alone, and every step. -/

namespace Sys2Proof.Machine

/-! ### The law by records -/

def Notices.Ranged (n : Notices) : Prop := n.queue.length ≤ 32 ∧ n.lost ≤ 255

def Engine.Ranged (e : Engine) : Prop := e.queue.length ≤ 8 ∧ e.results.length ≤ 16

/-- No queue of 24 holds more than a limit. -/
def Within (limit : Nat) (q : Vector (List Nat) 24) : Prop := ∀ l : LineNo, q[l].length ≤ limit

def Ports.Ranged (x : Ports) : Prop :=
  (1 ≤ x.dropInForce ∧ x.dropInForce ≤ 30) ∧ x.rateInForce ∈ linkRates ∧ FaultsOk x.main.faults ∧ FaultsOk x.craft.faults

def LinesRanged (s : State) : Prop := ∀ l, (s.line l).Ranged

theorem rangesOk_iff (s : State) : RangesOk s ↔
    s.notices.Ranged ∧ s.engine.Ranged ∧ (s.sched.launch.length ≤ 4 ∧ Within 48 s.sched.ingress) ∧ s.hold.length ≤ 8 ∧
    Within 24 s.egress ∧ LinesRanged s ∧ s.params.Ranged ∧ s.ports.Ranged where
  mp ok :=
    ⟨⟨ok.notices, ok.lost⟩, ⟨ok.orders, ok.results⟩, ⟨ok.launch, ok.ingress⟩, ok.hold, ok.egress,
      fun l => ⟨ok.fails l, ok.profiles l⟩, ⟨ok.params, ok.rate⟩,
      ⟨ok.dropInForce, ok.rateInForce, ok.mainFaults, ok.craftFaults⟩⟩
  mpr := fun ⟨⟨notices, lost⟩, ⟨orders, results⟩, ⟨launch, ingress⟩, hold, egress, lines, params, ⟨drop, rate, main, craft⟩⟩ =>
    { notices, lost, orders, results, launch, hold, egress, ingress
      fails := fun l => (lines l).fails
      profiles := fun l => (lines l).profile
      params := params.params
      rate := params.rate
      dropInForce := drop
      rateInForce := rate
      mainFaults := main
      craftFaults := craft }

/-- An operation keeps the law when it keeps each record's part; of the records that it leaves alone the frame lemmas
speak. -/
theorem RangesOk.of_records {s u : State} (ok : RangesOk s)
    (notices : s.notices.Ranged → u.notices.Ranged := by simp)
    (engine : s.engine.Ranged → u.engine.Ranged := by simp)
    (launch : s.sched.launch.length ≤ 4 → u.sched.launch.length ≤ 4 := by simp)
    (ingress : Within 48 s.sched.ingress → Within 48 u.sched.ingress := by simp)
    (hold : s.hold.length ≤ 8 → u.hold.length ≤ 8 := by simp)
    (egress : Within 24 s.egress → Within 24 u.egress := by simp)
    (lines : LinesRanged s → LinesRanged u := by simp [LinesRanged, State.line])
    (params : s.params.Ranged → u.params.Ranged := by simp)
    (ports : s.ports.Ranged → u.ports.Ranged := by simp) : RangesOk u := by
  obtain ⟨notices', engine', ⟨launch', ingress'⟩, hold', egress', lines', params', ports'⟩ := (rangesOk_iff s).mp ok
  exact (rangesOk_iff u).mpr ⟨notices notices', engine engine', ⟨launch launch', ingress ingress'⟩, hold hold',
    egress egress', lines lines', params params', ports ports'⟩

/-! ### What single operations keep -/

theorem State.notify_ranged (n : Notice) (s : State) (ok : s.notices.Ranged) : (s.notify n).notices.Ranged := by
  obtain ⟨queue, lost⟩ := ok
  unfold State.notify
  split
  case isTrue room =>
    refine ⟨?_, lost⟩
    simp only [Config.noticeCapacity, List.length_append, List.length_singleton] at room ⊢
    omega
  case isFalse => exact ⟨queue, min_le_left _ _⟩

theorem Within.set {limit : Nat} {q : Vector (List Nat) 24} (ok : Within limit q) (l : LineNo) {ids : List Nat}
    (short : ids.length ≤ limit) : Within limit (q.set l ids) := by
  intro k
  rw [getElem_set_line]
  split
  · exact short
  · exact ok k

theorem Within.append {limit : Nat} {q : Vector (List Nat) 24} (ok : Within limit q) (l : LineNo) (id : Nat)
    (room : q[l].length < limit) : Within limit (q.set l (q[l] ++ [id])) :=
  ok.set l (by rw [List.length_append]; exact room)

theorem Within.empty (limit : Nat) : Within limit (Vector.replicate 24 []) := fun l => by simp

/-- A line record is changed within its ranges. -/
theorem LinesRanged.setLine {s : State} (ok : LinesRanged s) (l : LineNo) {f : LineRec → LineRec}
    (keeps : ∀ r, r.Ranged → (f r).Ranged) : LinesRanged (s.setLine l f) := by
  intro k
  rw [State.line_setLine]
  split
  · exact keeps _ (ok l)
  · exact ok k

theorem LinesRanged.of_kept {s u : State} (ok : LinesRanged s)
    (kept : ∀ l, (u.line l).profile = (s.line l).profile ∧ (u.line l).failCount = (s.line l).failCount) :
    LinesRanged u := by
  intro l
  obtain ⟨profile, fails⟩ := kept l
  obtain ⟨fails', profile'⟩ := ok l
  exact ⟨by rwa [fails], by rwa [profile]⟩

section
variable {s : State}

theorem LinesRanged.dropUp (ok : LinesRanged s) (l : LineNo) (r : DropReason) : LinesRanged (s.dropUp l r) :=
  ok.setLine l fun _ h => ⟨h.fails, h.profile⟩

theorem LinesRanged.dropDown (ok : LinesRanged s) (l : LineNo) (r : DropReason) : LinesRanged (s.dropDown l r) :=
  ok.setLine l fun _ h => ⟨h.fails, h.profile⟩

theorem LinesRanged.countUp (ok : LinesRanged s) (l : LineNo) (n : Nat) : LinesRanged (s.countUp l n) :=
  ok.setLine l fun _ h => ⟨h.fails, h.profile⟩

theorem LinesRanged.countDown (ok : LinesRanged s) (l : LineNo) (n : Nat) : LinesRanged (s.countDown l n) :=
  ok.setLine l fun _ h => ⟨h.fails, h.profile⟩

theorem RangesOk.moveLine (ok : RangesOk s) (l : LineNo) (st : LineState) (c : LineCause) :
    RangesOk (s.moveLine l st c) := by
  have emptied (u : State) (h : Within 24 u.egress) : Within 24 (u.emptyEgress l).egress := by
    rw [(u.emptyEgress_queues l).2]
    exact h.set l (Nat.zero_le _)
  refine ok.of_records (notices := fun h => ?_) (egress := fun h => ?_)
    (lines := fun h => h.of_kept fun k => (State.moveLine_kept l k st c s).2)
  · have noticed : ((s.setLineState l st).notify (.line l st.kind c)).notices.Ranged := State.notify_ranged _ _ h
    unfold State.moveLine
    dsimp only
    split
    · simpa using noticed
    · exact noticed
  · unfold State.moveLine
    dsimp only
    split
    · exact emptied _ (by simpa using h)
    · simpa using h

theorem RangesOk.notify (ok : RangesOk s) (n : Notice) : RangesOk (s.notify n) :=
  ok.of_records (notices := State.notify_ranged n s)

theorem RangesOk.dropUp (ok : RangesOk s) (l : LineNo) (r : DropReason) : RangesOk (s.dropUp l r) :=
  ok.of_records (lines := fun h => h.dropUp l r)

theorem RangesOk.dropDown (ok : RangesOk s) (l : LineNo) (r : DropReason) : RangesOk (s.dropDown l r) :=
  ok.of_records (lines := fun h => h.dropDown l r)

theorem RangesOk.setFlow (ok : RangesOk s) (k : FlowIdx) (e : Option FlowEntry) : RangesOk (s.setFlow k e) :=
  ok.of_records

theorem RangesOk.pool (ok : RangesOk s) (p : Pool) : RangesOk { s with pool := p } := ok.of_records

/-- A frame joins an ingress queue that stands below its line's limit, which is 48 at most (R2, R30). -/
theorem RangesOk.joinIngress (ok : RangesOk s) (l : LineNo) (id : Nat)
    (room : s.sched.ingress[l].length < (s.line l).profile.limit) : RangesOk (s.joinIngress l id) := by
  have limit : (s.line l).profile.limit ≤ 48 := by
    have profile := ok.profiles l
    simp only [profileOk, Bool.and_eq_true, decide_eq_true_eq] at profile
    exact profile.2
  refine ok.of_records (ingress := fun h => ?_)
  rw [(State.joinIngress_queues l id s).1]
  exact h.append l id (room.trans_le limit)

/-! ### The operations of traffic -/

theorem RangesOk.missDecide (ok : RangesOk s) (l : LineNo) (tag len : Nat) : RangesOk (s.missDecide l tag len) := by
  unfold State.missDecide
  split
  · exact ok.dropUp l _
  · split
    case isTrue room =>
      refine ok.of_records (notices := fun h => State.notify_ranged _ _ h) (hold := fun _ => ?_)
      simp only [Config.holdCapacity, State.notify_frame, List.length_append, List.length_singleton] at room ⊢
      omega
    case isFalse => exact ok.dropUp l _

theorem RangesOk.arriveUp (ok : RangesOk s) (l : LineNo) (tag len : Nat) : RangesOk (s.arriveUp l tag len) := by
  unfold State.arriveUp
  split
  · exact ok.dropUp l _
  · split
    · exact ok.dropUp l _
    · split
      case h_1 k e _ =>
        have counted : RangesOk (s.countMatchUp k) := ok.setFlow k _
        dsimp only
        split
        case isTrue room => exact (counted.pool _).joinIngress l _ room
        case isFalse => exact counted.dropUp l _
      case h_2 => exact ok.missDecide l tag len

/-- Every target that is eligible stands below the capacity of its egress queue, and joins once. -/
theorem RangesOk.joinEach (ls : List LineNo) (once : ls.Nodup) (id : Nat) {s : State} (ok : RangesOk s)
    (room : ∀ l ∈ ls, s.egress[l].length < 24) : RangesOk (ls.foldl (State.joinEgress id) s) := by
  induction ls generalizing s with
  | nil => exact ok
  | cons l ls ih =>
    obtain ⟨notAgain, once⟩ := List.nodup_cons.mp once
    refine ih once (ok.of_records (egress := fun h => h.append l id (room l List.mem_cons_self))) fun k hk => ?_
    rw [State.joinEgress_egress, getElem_set_line, if_neg (ne_of_mem_of_not_mem hk notAgain)]
    exact room k (List.mem_cons_of_mem _ hk)

theorem allLines_nodup : allLines.Nodup := List.nodup_finRange 24

theorem FlowEntry.targets_nodup (e : FlowEntry) : e.targets.Nodup := by
  unfold FlowEntry.targets
  split
  · exact List.nodup_singleton _
  · exact allLines_nodup.filter _

theorem RangesOk.arriveDown (ok : RangesOk s) (tag len : Nat) : RangesOk (s.arriveDown tag len) := by
  unfold State.arriveDown
  split
  case h_1 => exact ok.pool _
  case h_2 k e _ =>
    dsimp only
    have failed : RangesOk ((e.targets.filter fun l => !(s.countMatchDown k).eligible l).foldl
        (fun s l => s.dropDown l (s.ineligibleReason l)) (s.countMatchDown k)) :=
      List.foldlRecOn (motive := RangesOk) _ _ (ok.setFlow k _) fun _ h l _ => h.dropDown l _
    split
    · exact failed
    · split
      · exact List.foldlRecOn (motive := RangesOk) _ _ failed fun _ h l _ => h.dropDown l _
      · refine RangesOk.joinEach _ (e.targets_nodup.filter _) _ (failed.pool _) fun l mem => ?_
        have eligible := (List.mem_filter.mp mem).2
        simp only [State.eligible, Config.egressCapacity, Bool.and_eq_true] at eligible
        simpa using eligible.2

theorem RangesOk.takeDown (ok : RangesOk s) (l : LineNo) : RangesOk (s.takeDown l) := by
  unfold State.takeDown
  split
  · split
    · exact ok
    case h_2 id rest head =>
      refine ok.of_records (egress := fun h => ?_) (lines := fun h => ?_)
      · have short : rest.length ≤ 24 := by
          have := h l
          rw [head, List.length_cons] at this
          omega
        simpa using h.set l short
      · exact LinesRanged.countDown (s := { s with egress := s.egress.set l rest }) h l _
  · exact ok

theorem RangesOk.takeUp (ok : RangesOk s) : RangesOk s.takeUp := by
  unfold State.takeUp
  split
  · split
    · exact ok
    case h_2 id rest head =>
      refine ok.of_records (launch := fun h => ?_) (lines := fun h => ?_)
      · simp only [State.giveUp_frame, State.countFrameUp_frame]
        rw [head, List.length_cons] at h
        omega
      · unfold State.countFrameUp
        split
        · split
          · exact LinesRanged.countUp (s := { s with sched := { s.sched with launch := rest } }) h _ _
          · exact h
        · exact h
  · exact ok

theorem RangesOk.unhold (ok : RangesOk s) (h : Held) : RangesOk (s.unhold h) :=
  ok.of_records (hold := (List.length_filter_le _ _).trans)

theorem RangesOk.giveUp (ok : RangesOk s) (id : Nat) : RangesOk (s.giveUp id) := ok.pool _

theorem RangesOk.expireHeld (ok : RangesOk s) (l : LineNo) (tag : Nat) : RangesOk (s.expireHeld l tag) := by
  unfold State.expireHeld
  split
  · exact ok
  · split
    · exact ((ok.unhold _).giveUp _).dropUp l _
    · exact ok

theorem RangesOk.decide (ok : RangesOk s) : RangesOk s.decide := by
  unfold State.decide
  split
  case isTrue room =>
    split
    · exact ok
    case h_2 l rest _ =>
      split
      · exact ok
      case h_2 id more head =>
        split
        · refine ok.of_records (launch := fun _ => ?_) (ingress := fun h => ?_)
          · simp only [Config.launchCapacity, State.grant_queues, List.length_append, List.length_singleton] at room ⊢
            omega
          · rw [(State.grant_queues l rest id more s).1]
            refine h.set l ?_
            have := h l
            rw [head, List.length_cons] at this
            omega
        · exact ok.of_records
  case isFalse => exact ok

theorem RangesOk.releaseOne {acc : State × Nat × Nat} (ok : RangesOk acc.1) (k : FlowIdx) (e : FlowEntry) (h : Held) :
    RangesOk (State.releaseOne k e h acc).1 := by
  obtain ⟨s, placed, dropped⟩ := acc
  unfold State.releaseOne
  dsimp only at ok ⊢
  split
  · exact ok
  · split
    · have gone : RangesOk ((s.countMatchUp k).unhold h) := RangesOk.unhold (ok.setFlow k _) h
      split
      case isTrue room => exact (gone.pool _).joinIngress _ _ room
      case isFalse => exact (gone.giveUp _).dropUp _ _
    · exact ok

theorem RangesOk.install (ok : RangesOk s) (k : FlowIdx) (e : FlowEntry) : RangesOk (s.install k e).1 :=
  List.foldlRecOn (motive := fun acc : State × Nat × Nat => RangesOk acc.1) _ _ (ok.setFlow k (some e))
    fun _ ok h _ => ok.releaseOne k e h

/-! ### Every step -/

theorem rangesOk_inward : Inward RangesOk where
  onward s u h ok := by
    refine ok.of_records ?_ ?_ ?_ ?_ ?_ ?_ (fun lines => lines.of_kept fun l => ⟨h.profile l, h.failCount l⟩) ?_ ?_
    case refine_2 => exact fun ⟨orders, results⟩ => ⟨by rwa [h.queue], by rwa [h.results]⟩
    all_goals rw [h.rest]; exact id
  notice n _ ok := ok.notify n
  move l st c _ ok := ok.moveLine l st c
  record l _ _ keeps ok := ok.of_records (lines := fun h => h.setLine l keeps)
  energy _ _ ok := ok.of_records
  points _ _ ok := ok.of_records
  engine _ _ queue results ok :=
    ok.of_records (engine := fun ⟨orders, store⟩ => ⟨queue.trans orders, results.trans (max_le le_rfl store)⟩)
  enqueue o s room ok := by
    refine ok.of_records (engine := fun ⟨_, store⟩ => ⟨?_, store⟩)
    simp only [State.enqueue_engine, List.length_append, List.length_singleton]
    omega
  param _ _ _ h ok := ok.of_records (params := fun p => p.put h)
  flows _ _ ok := ok.of_records
  install k e _ ok := ok.install k e
  clearStatus _ ok := by
    refine ok.of_records (ports := fun ⟨drop, rate, _, _⟩ => ⟨drop, rate, ?_, ?_⟩) <;> constructor <;> exact Nat.zero_le _
  fetch _ ok := by
    refine ok.of_records (notices := fun ⟨queue, _⟩ => ⟨?_, Nat.zero_le _⟩)
    exact (List.length_drop ▸ Nat.sub_le _ _ : (List.drop Config.fetchLimit _).length ≤ _).trans queue

/-- A start from settings in their ranges (R192): every list is empty, every count 0. -/
theorem RangesOk.startWith {st : Settings} (h : st.Ranged) (v : SettingsStatus) (cause : StartCause) (s : State) :
    RangesOk (s.startWith st v cause) := by
  have faults : FaultsOk FaultCounts.zero := by constructor <;> exact Nat.zero_le _
  refine (rangesOk_iff _).mpr ⟨⟨Nat.le_add_left 1 31, Nat.zero_le _⟩, ⟨Nat.zero_le _, Nat.zero_le _⟩, ⟨Nat.zero_le _, Within.empty 48⟩,
    Nat.zero_le _, Within.empty 24, fun l => ?_, h.params, ⟨h.params.drop, h.params.rate, faults, faults⟩⟩
  have line : (s.startWith st v cause).line l = startLine st l := by simp [State.line, State.startWith]
  rw [line]
  exact ⟨Nat.zero_le _, h.profiles l⟩

theorem RangesOk.start (cause : StartCause) (s : State) : RangesOk (s.start cause) := by
  have begun {st : Settings} (h : st.Ranged) (v : SettingsStatus) (u : State) :
      RangesOk (u.startWith st v cause).sheddingPass.startSurgeNotice := by
    have passed := rangesOk_inward.sheddingPass (RangesOk.startWith h v cause u)
    unfold State.startSurgeNotice
    split
    · split
      · exact passed.notify _
      · exact passed
    · exact passed
  unfold State.start
  dsimp only
  split
  case isTrue good => exact begun (Settings.ofWords_ranged_of_good good) _ _
  case isFalse => exact begun Settings.default_ranged _ _

theorem rangesOk_outward : Outward RangesOk where
  time _ _ ok := ok.of_records
  port x s drop rate faults ok := by
    refine ok.of_records (ports := fun ⟨drop', rate', main, craft⟩ => ⟨?_, ?_, faults .main main, faults .craft craft⟩)
    · rwa [drop]
    · rwa [rate]
  inForce _ ok :=
    have params : Params.Ranged _ := ⟨ok.params, ok.rate⟩
    ok.of_records (ports := fun ⟨_, _, main, craft⟩ => ⟨params.drop, params.rate, main, craft⟩)
  saved _ _ _ _ ok := ok.of_records
  power _ _ _ ok := ok.of_records
  queue _ _ ok := ok.of_records
  start cause s _ := RangesOk.start cause s
  arriveUp l tag len _ _ ok := ok.arriveUp l tag len
  arriveDown tag len _ _ ok := ok.arriveDown tag len
  takeDown l _ ok := ok.takeDown l
  takeUp _ ok := ok.takeUp
  expireHeld l tag _ ok := ok.expireHeld l tag
  decide _ ok := ok.decide
  uplink r s ok := by
    unfold State.uplinkReport
    dsimp only
    split
    · exact ok.of_records
    · exact RangesOk.notify (ok.of_records) _

theorem rangesOk_kept : Kept RangesOk := rangesOk_outward.kept rangesOk_inward

/-- Settles O56: an operation answers for the records that it writes, each of which it writes after the check of its
capacity or range. -/
theorem rangesKept : Obligations.RangesKept := rangesOk_kept.step

end

end Sys2Proof.Machine
end

section
/-! The laws of the share scheduler (R67 to R73): what a frame that joins an ingress queue, a grant and the end of a turn
do to the active list and the deficits, and every step. -/

namespace Sys2Proof.Machine

section
variable {s u : State}

/-- The law speaks of the ingress queues, the active list and the deficits alone. -/
theorem SchedOk.congr (ok : SchedOk s) (ingress : u.sched.ingress = s.sched.ingress)
    (active : u.sched.active = s.sched.active) (deficit : u.sched.deficit = s.sched.deficit) : SchedOk u where
  listedOnce := by rw [active]; exact ok.listedOnce
  listedExactly := by rw [active, ingress]; exact ok.listedExactly
  unlisted := by rw [active, deficit]; exact ok.unlisted
  waiting := by rw [active, deficit]; exact ok.waiting
  current := by rw [active, deficit]; exact ok.current

theorem SchedOk.frame (ok : SchedOk s) (same : u.sched = s.sched) : SchedOk u :=
  ok.congr (by rw [same]) (by rw [same]) (by rw [same])

/-- A quantum is 3072 at most (R2, R69). -/
theorem RangesOk.quantum_le (ok : RangesOk s) (l : LineNo) : 256 * (s.line l).profile.weight ≤ 3072 := by
  have profile := ok.profiles l
  simp only [profileOk, Bool.and_eq_true, decide_eq_true_eq] at profile
  omega

/-- A frame is 1536 bytes long at most (R26). -/
theorem PoolOk.frameLength_le (ok : PoolOk s) (id : Nat) : s.frameLength id ≤ 1536 := by
  unfold State.frameLength
  split
  case h_1 f found =>
    obtain ⟨as, bs, frames, -⟩ := List.lookup_eq_some_iff.mp found
    exact (ok.sized (id, f) (frames ▸ List.mem_append_right _ List.mem_cons_self)).2.2
  case h_2 => exact Nat.zero_le _

/-! ### A frame joins (R68) -/

theorem SchedOk.joinIngress (ok : SchedOk s) (ranges : RangesOk s) (l : LineNo) (id : Nat) :
    SchedOk (s.joinIngress l id) := by
  have filled : s.sched.ingress[l] ++ [id] ≠ [] := List.append_ne_nil_of_right_ne_nil _ (List.cons_ne_nil _ _)
  rw [State.joinIngress_eq]
  by_cases listed : l ∈ s.sched.active
  case pos =>
    have waits : s.sched.ingress[l] ≠ [] := (ok.listedExactly l).mp listed
    simp only [if_neg waits]
    refine ⟨ok.listedOnce, fun k => ?_, ok.unlisted, ok.waiting, ok.current⟩
    simp only [getElem_set_line]
    split
    case isTrue same => exact iff_of_true (same ▸ listed) filled
    case isFalse => exact ok.listedExactly k
  case neg =>
    have empty : s.sched.ingress[l] = [] := by_contra fun waits => listed ((ok.listedExactly l).mpr waits)
    have quantum := ranges.quantum_le l
    have first : (if s.sched.active = [] then 256 * (s.line l).profile.weight else 0) ≤ 3072 := by split <;> omega
    have others (k : LineNo) (mem : k ∈ s.sched.active) : k ≠ l := ne_of_mem_of_not_mem mem listed
    simp only [if_pos empty]
    refine ⟨?_, fun k => ?_, fun k notIn => ?_, fun k mem => ?_, fun k mem => ?_⟩
    · exact List.nodup_append.mpr ⟨ok.listedOnce, List.nodup_singleton l, fun a ha b hb =>
        List.mem_singleton.mp hb ▸ others a ha⟩
    · simp only [getElem_set_line, List.mem_append, List.mem_singleton]
      split
      case isTrue same => exact iff_of_true (.inr same) filled
      case isFalse other => simpa only [other, or_false] using ok.listedExactly k
    · have other : k ≠ l := fun same => notIn (List.mem_append_right _ (List.mem_singleton.mpr same))
      simp only [getElem_set_line, if_neg other]
      exact ok.unlisted k fun mem => notIn (List.mem_append_left _ mem)
    · cases active : s.sched.active with
      | nil => simp [active] at mem
      | cons m ms =>
        simp only [active, List.cons_append, List.tail_cons, List.mem_append, List.mem_singleton] at mem
        simp only [getElem_set_line, reduceCtorEq, if_false]
        split
        case isTrue => exact Nat.zero_le _
        case isFalse other =>
          exact ok.waiting k (by simpa only [active, List.tail_cons] using mem.resolve_right other)
    · simp only [getElem_set_line]
      split
      case isTrue => omega
      case isFalse other =>
        cases active : s.sched.active with
        | nil => simp [active, Ne.symm other] at mem
        | cons m ms =>
          refine ok.current k ?_
          simpa only [active, List.cons_append, List.head?_cons] using mem

/-! ### The turn of the next line begins (R69, R71, R72) -/

/-- The law but for the head of the active list, which waits like the lines behind it: what stands as a turn ends. -/
structure BetweenTurns (s : State) : Prop where
  listedOnce : s.sched.active.Nodup
  listedExactly : ∀ l : LineNo, l ∈ s.sched.active ↔ s.sched.ingress[l] ≠ []
  unlisted : ∀ l : LineNo, l ∉ s.sched.active → s.sched.deficit[l] = 0
  waiting : ∀ l ∈ s.sched.active, s.sched.deficit[l] ≤ 1535

theorem BetweenTurns.beginTurn (ok : BetweenTurns s) (quantum : ∀ l, 256 * (s.line l).profile.weight ≤ 3072) :
    SchedOk s.beginTurn := by
  cases active : s.sched.active with
  | nil =>
    rw [State.beginTurn_of_nil active]
    exact ⟨ok.listedOnce, ok.listedExactly, ok.unlisted, by simp [active], by simp [active]⟩
  | cons l ls =>
    obtain ⟨notAgain, _⟩ := List.nodup_cons.mp (active ▸ ok.listedOnce)
    rw [State.beginTurn_of_cons active]
    refine ⟨ok.listedOnce, ok.listedExactly, fun k notIn => ?_, fun k mem => ?_, fun k mem => ?_⟩
    · have other : k ≠ l := fun same => notIn (by simp [active, same])
      simpa only [getElem_set_line, if_neg other] using ok.unlisted k notIn
    · have behind : k ∈ ls := by simpa only [active, List.tail_cons] using mem
      simp only [getElem_set_line, if_neg (ne_of_mem_of_not_mem behind notAgain)]
      exact ok.waiting k (active ▸ List.mem_cons_of_mem l behind)
    · have head : k = l := by simpa only [active, List.head?_cons, Option.mem_some_iff, eq_comm] using mem
      have waited := ok.waiting l (active ▸ List.mem_cons_self)
      have := quantum l
      simp only [getElem_set_line, if_pos head]
      omega

/-- The head's next frame does not fit its deficit: it moves behind the others with less than one frame left. -/
theorem SchedOk.endTurn (ok : SchedOk s) (ranges : RangesOk s) {l : LineNo} {rest : List LineNo}
    (active : s.sched.active = l :: rest) (short : s.sched.deficit[l] ≤ 1535) : SchedOk s.endTurn := by
  have perm : (rest ++ [l]).Perm s.sched.active := by
    rw [active]
    exact List.perm_append_singleton l rest
  simp only [State.endTurn, active]
  refine BetweenTurns.beginTurn ⟨perm.nodup_iff.mpr ok.listedOnce, fun k => ?_, fun k notIn => ?_, fun k mem => ?_⟩
    ranges.quantum_le
  · exact perm.mem_iff.trans (ok.listedExactly k)
  · exact ok.unlisted k fun mem => notIn (perm.mem_iff.mpr mem)
  · rcases List.mem_append.mp mem with mem | mem
    · exact ok.waiting k (by rwa [active])
    · exact List.mem_singleton.mp mem ▸ short

/-- A grant: the line keeps its turn while frames wait, and leaves the list with deficit 0 when none does. -/
theorem SchedOk.grant (ok : SchedOk s) (ranges : RangesOk s) {l : LineNo} {rest : List LineNo} {id : Nat}
    {more : List Nat} (active : s.sched.active = l :: rest) : SchedOk (s.grant l rest id more) := by
  obtain ⟨notAgain, once⟩ := List.nodup_cons.mp (active ▸ ok.listedOnce)
  by_cases last : more = []
  case neg =>
    rw [State.grant_of_more last]
    refine ⟨ok.listedOnce, fun k => ?_, fun k notIn => ?_, fun k mem => ?_, fun k mem => ?_⟩
    · simp only [getElem_set_line]
      split
      case isTrue same => exact iff_of_true (by simp [same, active]) last
      case isFalse => exact ok.listedExactly k
    · have other : k ≠ l := fun same => notIn (by simp [same, active])
      simpa only [getElem_set_line, if_neg other] using ok.unlisted k notIn
    · have behind : k ∈ rest := by simpa only [active, List.tail_cons] using mem
      simpa only [getElem_set_line, if_neg (ne_of_mem_of_not_mem behind notAgain)] using ok.waiting k mem
    · have head : k = l := by simpa only [active, List.head?_cons, Option.mem_some_iff, eq_comm] using mem
      simp only [getElem_set_line, if_pos head]
      exact (Nat.sub_le _ _).trans (ok.current l (by simp [active]))
  case pos =>
    simp only [State.grant, if_pos last]
    refine BetweenTurns.beginTurn ⟨once, fun k => ?_, fun k notIn => ?_, fun k mem => ?_⟩ ranges.quantum_le
    · simp only [getElem_set_line]
      split
      case isTrue same => exact iff_of_false (same ▸ notAgain) (not_not_intro last)
      case isFalse other =>
        rw [← ok.listedExactly k, active, List.mem_cons]
        exact (or_iff_right other).symm
    · simp only [getElem_set_line]
      split
      case isTrue => rfl
      case isFalse other =>
        refine ok.unlisted k fun listed => ?_
        rw [active, List.mem_cons] at listed
        exact notIn (listed.resolve_left other)
    · simp only [getElem_set_line, if_neg (ne_of_mem_of_not_mem mem notAgain)]
      exact ok.waiting k (by rwa [active])

theorem SchedOk.decide (ok : SchedOk s) (pool : PoolOk s) (ranges : RangesOk s) : SchedOk s.decide := by
  unfold State.decide
  split
  · split
    · exact ok
    case h_2 l rest active =>
      split
      · exact ok
      case h_2 id more _ =>
        split
        case isTrue => exact ok.grant ranges active
        case isFalse exceeds =>
          have long := pool.frameLength_le id
          exact ok.endTurn ranges active (by omega)
  · exact ok

/-! ### Arrivals, releases and starts -/

theorem SchedOk.arriveUp (ok : SchedOk s) (ranges : RangesOk s) (l : LineNo) (tag len : Nat) :
    SchedOk (s.arriveUp l tag len) := by
  unfold State.arriveUp
  split
  · exact ok.frame (by simp)
  · split
    · exact ok.frame (by simp)
    · split
      case h_1 k e _ =>
        dsimp only
        split
        · have counted : RangesOk (s.countMatchUp k) := ranges.setFlow k _
          refine SchedOk.joinIngress ?_ (counted.pool _) _ _
          exact ok.frame (by simp)
        · exact ok.frame (by simp)
      case h_2 => exact ok.frame (by simp)

theorem SchedOk.releaseOne {acc : State × Nat × Nat} (ok : SchedOk acc.1) (ranges : RangesOk acc.1) (k : FlowIdx)
    (e : FlowEntry) (h : Held) : SchedOk (State.releaseOne k e h acc).1 := by
  obtain ⟨s, placed, dropped⟩ := acc
  unfold State.releaseOne
  dsimp only at ok ranges ⊢
  split
  · exact ok
  · split
    · split
      · have gone : RangesOk ((s.countMatchUp k).unhold h) := RangesOk.unhold (ranges.setFlow k _) h
        refine SchedOk.joinIngress ?_ (gone.pool _) _ _
        exact ok.frame (by simp)
      · exact ok.frame (by simp)
    · exact ok

theorem SchedOk.install (ok : SchedOk s) (ranges : RangesOk s) (k : FlowIdx) (e : FlowEntry) :
    SchedOk (s.install k e).1 := by
  have both : SchedOk (s.install k e).1 ∧ RangesOk (s.install k e).1 :=
    List.foldlRecOn (motive := fun acc : State × Nat × Nat => SchedOk acc.1 ∧ RangesOk acc.1) _ _
      ⟨ok.frame (by simp), ranges.setFlow k (some e)⟩
      fun _ ⟨ok, ranges⟩ h _ => ⟨ok.releaseOne ranges k e h, ranges.releaseOne k e h⟩
  exact both.1

theorem SchedOk.takeUp (ok : SchedOk s) : SchedOk s.takeUp := by
  unfold State.takeUp
  split
  · split
    · exact ok
    · exact ok.congr (by simp) (by simp) (by simp)
  · exact ok

theorem SchedOk.start (cause : StartCause) (s : State) : SchedOk (s.start cause) := by
  have begun (st : Settings) (v : SettingsStatus) (u : State) :
      SchedOk (u.startWith st v cause).sheddingPass.startSurgeNotice := by
    have cleared : SchedOk (u.startWith st v cause) := by
      constructor <;> simp [State.startWith, Sched.empty]
    exact cleared.frame (by simp)
  unfold State.start
  dsimp only
  split <;> exact begun _ _ _

theorem SchedOk.own (ok : SchedOk s) (ranges : RangesOk s) (p : PortId) (r : Req) : SchedOk (own p r s).2 := by
  have placed (k : FlowIdx) (c : FlowContent) : SchedOk (s.flowPut k c).2 := by
    unfold State.flowPut
    split
    · exact ok
    · split
      · exact ok
      · exact ok.install ranges _ _
  cases r
  case flowPut i c =>
    simp only [Machine.own, onFlow]
    split
    · exact placed _ _
    · exact ok
  case flowPlace c =>
    simp only [Machine.own, State.flowPlace]
    split
    · exact ok
    · split
      · exact ok
      · split
        · exact ok
        · exact ok.install ranges _ _
  all_goals
    refine ok.frame ?_
    simp only [Machine.own, onLine, onPoint, onFlow] <;> (repeat' split) <;>
      simp [State.flowFindUp, State.flowFindDown, State.flowRead]

end

/-! ### Every step -/

/-- The scheduler's law with those of the pool and the ranges, which it rests on. -/
def SchedLaw (s : State) : Prop := PoolOk s ∧ RangesOk s ∧ SchedOk s

/-- An operation that leaves the scheduler alone and keeps the two other laws. -/
theorem SchedLaw.frame {s u : State} (law : SchedLaw s) (pool : PoolOk s → PoolOk u) (ranges : RangesOk s → RangesOk u)
    (same : u.sched = s.sched := by simp) : SchedLaw u :=
  have ⟨pool', ranges', sched'⟩ := law
  ⟨pool pool', ranges ranges', sched'.frame same⟩

theorem schedLaw_kept : Kept SchedLaw where
  time t s law := law.frame (poolOk_kept.time t s) (rangesOk_kept.time t s)
  recv p v s law := law.frame (poolOk_kept.recv p v s) (rangesOk_kept.recv p v s)
  job p j s law := law.frame (poolOk_kept.job p j s) (rangesOk_kept.job p j s)
  fault p f s law := law.frame (poolOk_kept.fault p f s) (rangesOk_kept.fault p f s)
  inForce s law := law.frame (poolOk_kept.inForce s) (rangesOk_kept.inForce s)
  saved st v n s law := law.frame (poolOk_kept.saved st v n s) (rangesOk_kept.saved st v n s)
  power on low s law := law.frame (poolOk_kept.power on low s) (rangesOk_kept.power on low s)
  queue cs s law := law.frame (poolOk_kept.queue cs s) (rangesOk_kept.queue cs s)
  start cause s _ := ⟨PoolOk.start cause s, RangesOk.start cause s, SchedOk.start cause s⟩
  own p r s := fun ⟨pool, ranges, sched⟩ =>
    ⟨poolOk_kept.own p r s pool, rangesOk_kept.own p r s ranges, sched.own ranges p r⟩
  syncUp l s law := law.frame (poolOk_kept.syncUp l s) (rangesOk_kept.syncUp l s)
  syncLost l s law := law.frame (poolOk_kept.syncLost l s) (rangesOk_kept.syncLost l s)
  deadline l s law := law.frame (poolOk_kept.deadline l s) (rangesOk_kept.deadline l s)
  arriveUp l tag len s length := fun ⟨pool, ranges, sched⟩ =>
    ⟨pool.arriveUp l tag length, ranges.arriveUp l tag len, sched.arriveUp ranges l tag len⟩
  arriveDown tag len s length law :=
    law.frame (poolOk_kept.arriveDown tag len s length) (rangesOk_kept.arriveDown tag len s length)
  takeDown l s law := law.frame (poolOk_kept.takeDown l s) (rangesOk_kept.takeDown l s)
  takeUp s := fun ⟨pool, ranges, sched⟩ => ⟨pool.takeUp, ranges.takeUp, sched.takeUp⟩
  expireHeld l tag s law := law.frame (poolOk_kept.expireHeld l tag s) (rangesOk_kept.expireHeld l tag s)
  decide s := fun ⟨pool, ranges, sched⟩ => ⟨pool.decide, ranges.decide, sched.decide pool ranges⟩
  uplink r s law := law.frame (poolOk_kept.uplink r s) (rangesOk_kept.uplink r s)
  stepGen s law := law.frame (poolOk_kept.stepGen s) (rangesOk_kept.stepGen s)
  endWarmup s law := law.frame (poolOk_kept.endWarmup s) (rangesOk_kept.endWarmup s)
  endFirstSettle s law := law.frame (poolOk_kept.endFirstSettle s) (rangesOk_kept.endFirstSettle s)
  endSecondSettle s law := law.frame (poolOk_kept.endSecondSettle s) (rangesOk_kept.endSecondSettle s)
  reading r s law := law.frame (poolOk_kept.reading r s) (rangesOk_kept.reading r s)
  hazard s law := law.frame (poolOk_kept.hazard s) (rangesOk_kept.hazard s)
  endRelease s law := law.frame (poolOk_kept.endRelease s) (rangesOk_kept.endRelease s)
  endDwell s law := law.frame (poolOk_kept.endDwell s) (rangesOk_kept.endDwell s)
  endExit s law := law.frame (poolOk_kept.endExit s) (rangesOk_kept.endExit s)
  input p v s law := law.frame (poolOk_kept.input p v s) (rangesOk_kept.input p v s)
  endDebounce p s law := law.frame (poolOk_kept.endDebounce p s) (rangesOk_kept.endDebounce p s)
  endSurgeClear s law := law.frame (poolOk_kept.endSurgeClear s) (rangesOk_kept.endSurgeClear s)
  endQuiet s law := law.frame (poolOk_kept.endQuiet s) (rangesOk_kept.endQuiet s)

/-- Settles O57: the deficits grow by one quantum at the beginning of a turn alone, where the line's own stands below
the length of its head frame. -/
theorem schedulerKept : Obligations.SchedulerKept := fun s u pool ranges sched stepped =>
  have ⟨_, _, kept⟩ := schedLaw_kept.step s u ⟨pool, ranges, sched⟩ stepped
  kept

end Sys2Proof.Machine
end

section
/-! What traffic leaves of the lines (R23, R39): their states and profiles, and the lines that flow entries and orders
name (R20). Said once for each operation of traffic, for the laws of the lines, the energy account and the bench. -/

namespace Sys2Proof.Machine

/-- The lines of two machines stand in the same states under the same profiles. -/
def SameLines (s u : State) : Prop :=
  ∀ l, (u.line l).state = (s.line l).state ∧ (u.line l).profile = (s.line l).profile

theorem SameLines.of_lines {s u : State} (h : u.lines = s.lines) : SameLines s u := fun l => by
  rw [State.line_congr h]
  exact ⟨rfl, rfl⟩

theorem SameLines.refl (s : State) : SameLines s s := SameLines.of_lines rfl

theorem SameLines.trans {s u v : State} (h : SameLines s u) (g : SameLines u v) : SameLines s v := fun l =>
  ⟨(g l).1.trans (h l).1, (g l).2.trans (h l).2⟩

theorem SameLines.setLine (l : LineNo) {f : LineRec → LineRec} (s : State)
    (keeps : ∀ r, (f r).state = r.state ∧ (f r).profile = r.profile) : SameLines s (s.setLine l f) := fun k => by
  rw [State.line_setLine]
  split
  case isTrue same => rw [same]; exact keeps _
  case isFalse => exact ⟨rfl, rfl⟩

section
variable (l : LineNo) (n : Nat) (r : DropReason) (s : State)

theorem SameLines.setFail : SameLines s (s.setFail l n) := SameLines.setLine l s fun _ => ⟨rfl, rfl⟩
theorem SameLines.dropUp : SameLines s (s.dropUp l r) := SameLines.setLine l s fun _ => ⟨rfl, rfl⟩
theorem SameLines.dropDown : SameLines s (s.dropDown l r) := SameLines.setLine l s fun _ => ⟨rfl, rfl⟩
theorem SameLines.countUp : SameLines s (s.countUp l n) := SameLines.setLine l s fun _ => ⟨rfl, rfl⟩
theorem SameLines.countDown : SameLines s (s.countDown l n) := SameLines.setLine l s fun _ => ⟨rfl, rfl⟩

end

theorem SameLines.giveUp (id : Nat) (s : State) : SameLines s (s.giveUp id) := SameLines.of_lines (by simp)
theorem SameLines.notify (n : Notice) (s : State) : SameLines s (s.notify n) := SameLines.of_lines (by simp)

theorem SameLines.fold {β : Type} {f : State → β → State} (h : ∀ u b, SameLines u (f u b)) (bs : List β) (s : State) :
    SameLines s (bs.foldl f s) :=
  List.foldlRecOn (motive := SameLines s) bs f (SameLines.refl s) fun u hu b _ => hu.trans (h u b)

theorem SameLines.emptyEgress (l : LineNo) (s : State) : SameLines s (s.emptyEgress l) := fun k =>
  have ⟨state, profile, _⟩ := State.emptyEgress_kept l k s
  ⟨state, profile⟩

theorem SameLines.missDecide (l : LineNo) (tag len : Nat) (s : State) : SameLines s (s.missDecide l tag len) := by
  unfold State.missDecide
  split
  · exact SameLines.dropUp l _ s
  · split
    · exact SameLines.of_lines (by simp)
    · exact SameLines.dropUp l _ s

theorem SameLines.arriveUp (l : LineNo) (tag len : Nat) (s : State) : SameLines s (s.arriveUp l tag len) := by
  unfold State.arriveUp
  split
  · exact SameLines.dropUp l _ s
  · split
    · exact SameLines.dropUp l _ s
    · split
      case h_1 k e _ =>
        have counted : SameLines s (s.countMatchUp k) := SameLines.of_lines (by simp)
        dsimp only
        split
        · exact SameLines.of_lines (by simp)
        · exact counted.trans (SameLines.dropUp l _ _)
      case h_2 => exact SameLines.missDecide l tag len s

theorem SameLines.arriveDown (tag len : Nat) (s : State) : SameLines s (s.arriveDown tag len) := by
  unfold State.arriveDown
  split
  case h_1 => exact SameLines.refl s
  case h_2 k e _ =>
    dsimp only
    have failed : SameLines s ((e.targets.filter fun l => !(s.countMatchDown k).eligible l).foldl
        (fun s l => s.dropDown l (s.ineligibleReason l)) (s.countMatchDown k)) :=
      (SameLines.of_lines (by simp) : SameLines s (s.countMatchDown k)).trans
        (SameLines.fold (fun u l => SameLines.dropDown l _ u) _ _)
    split
    · exact failed
    · split
      · exact failed.trans (SameLines.fold (fun u l => SameLines.dropDown l _ u) _ _)
      · exact failed.trans (SameLines.of_lines (by simp))

theorem SameLines.takeDown (l : LineNo) (s : State) : SameLines s (s.takeDown l) := by
  unfold State.takeDown
  split
  · split
    · exact SameLines.refl s
    case h_2 id rest _ =>
      exact (SameLines.countDown l _ { s with egress := s.egress.set l rest }).trans (SameLines.giveUp _ _)
  · exact SameLines.refl s

theorem SameLines.takeUp (s : State) : SameLines s s.takeUp := by
  unfold State.takeUp
  split
  · split
    · exact SameLines.refl s
    case h_2 id rest _ =>
      refine SameLines.trans (u := State.countFrameUp id { s with sched := { s.sched with launch := rest } }) ?_
        (SameLines.giveUp _ _)
      unfold State.countFrameUp
      split
      · split
        · exact SameLines.countUp _ _ { s with sched := { s.sched with launch := rest } }
        · exact SameLines.refl s
      · exact SameLines.refl s
  · exact SameLines.refl s

theorem SameLines.expireHeld (l : LineNo) (tag : Nat) (s : State) : SameLines s (s.expireHeld l tag) := by
  unfold State.expireHeld
  split
  · exact SameLines.refl s
  case h_2 h _ =>
    split
    · exact (SameLines.of_lines (by simp) : SameLines s ((s.unhold h).giveUp h.frame)).trans (SameLines.dropUp l _ _)
    · exact SameLines.refl s

theorem SameLines.releaseOne (k : FlowIdx) (e : FlowEntry) (h : Held) (acc : State × Nat × Nat) :
    SameLines acc.1 (State.releaseOne k e h acc).1 := by
  obtain ⟨s, placed, dropped⟩ := acc
  unfold State.releaseOne
  dsimp only
  split
  · exact SameLines.refl s
  · split
    · have gone : SameLines s ((s.countMatchUp k).unhold h) := SameLines.of_lines (by simp)
      split
      · exact SameLines.of_lines (by simp)
      · exact (gone.trans (SameLines.giveUp _ _)).trans (SameLines.dropUp _ _ _)
    · exact SameLines.refl s

theorem SameLines.install (k : FlowIdx) (e : FlowEntry) (s : State) : SameLines s (s.install k e).1 :=
  List.foldlRecOn (motive := fun acc : State × Nat × Nat => SameLines s acc.1) _ _
    (SameLines.of_lines rfl : SameLines s (s.setFlow k (some e))) fun acc hacc h _ => hacc.trans (SameLines.releaseOne k e h acc)

/-! ### The lines that flow entries and orders name (R20) -/

/-- A flow entry names a line as its owner or as a member. -/
def FlowEntry.Names (e : FlowEntry) (l : LineNo) : Prop := e.owner = .line l ∨ LineSet.has e.members l = true

/-- The references of R20: by the flow table, or by a queued order. -/
theorem State.referenced_iff_names (s : State) (l : LineNo) : s.referenced l = true ↔
    (∃ (k : FlowIdx) (e : FlowEntry), s.flows[k] = some e ∧ e.Names l) ∨ ∃ o ∈ s.engine.queue, o.line = l :=
  s.referenced_iff l

/-- The flow table names no line that another does not. -/
def NamesWithin (t u : Vector (Option FlowEntry) 64) : Prop :=
  ∀ (k : FlowIdx) (e : FlowEntry) (l : LineNo), u[k] = some e → e.Names l →
    ∃ (j : FlowIdx) (f : FlowEntry), t[j] = some f ∧ f.Names l

theorem NamesWithin.of_eq {t u : Vector (Option FlowEntry) 64} (h : u = t) : NamesWithin t u := fun k e _ hk names =>
  ⟨k, e, h ▸ hk, names⟩

theorem NamesWithin.trans {t u v : Vector (Option FlowEntry) 64} (h : NamesWithin t u) (g : NamesWithin u v) :
    NamesWithin t v := fun k e l hk names =>
  have ⟨j, f, hj, names⟩ := g k e l hk names
  h j f l hj names

/-- An entry counts a match, or is changed in nothing else that names a line. -/
theorem NamesWithin.set_map (t : Vector (Option FlowEntry) 64) (k : FlowIdx) {g : FlowEntry → FlowEntry}
    (keeps : ∀ e l, (g e).Names l → e.Names l) : NamesWithin t (t.set k (t[k].map g)) := by
  intro j f l hj names
  rw [getElem_set_flow] at hj
  split at hj
  case isTrue =>
    obtain ⟨e, he, rfl⟩ := Option.map_eq_some_iff.mp hj
    exact ⟨k, e, he, keeps e l names⟩
  case isFalse => exact ⟨j, f, hj, names⟩

theorem NamesWithin.countMatchUp (k : FlowIdx) (s : State) : NamesWithin s.flows (s.countMatchUp k).flows :=
  NamesWithin.set_map s.flows k fun _ _ names => names

theorem NamesWithin.countMatchDown (k : FlowIdx) (s : State) : NamesWithin s.flows (s.countMatchDown k).flows :=
  NamesWithin.set_map s.flows k fun _ _ names => names

theorem NamesWithin.arriveUp (l : LineNo) (tag len : Nat) (s : State) :
    NamesWithin s.flows (s.arriveUp l tag len).flows := by
  unfold State.arriveUp
  split
  · exact NamesWithin.of_eq (by simp)
  · split
    · exact NamesWithin.of_eq (by simp)
    · split
      case h_1 k e _ =>
        dsimp only
        split
        · simpa using NamesWithin.countMatchUp k s
        · simpa using NamesWithin.countMatchUp k s
      case h_2 => exact NamesWithin.of_eq (by simp)

theorem NamesWithin.arriveDown (tag len : Nat) (s : State) : NamesWithin s.flows (s.arriveDown tag len).flows := by
  unfold State.arriveDown
  split
  case h_1 => exact NamesWithin.of_eq rfl
  case h_2 k e _ =>
    dsimp only
    split
    · simpa using NamesWithin.countMatchDown k s
    · split <;> simpa using NamesWithin.countMatchDown k s

theorem NamesWithin.releaseOne (k : FlowIdx) (e : FlowEntry) (h : Held) (acc : State × Nat × Nat) :
    NamesWithin acc.1.flows (State.releaseOne k e h acc).1.flows := by
  obtain ⟨s, placed, dropped⟩ := acc
  unfold State.releaseOne
  dsimp only
  split
  · exact NamesWithin.of_eq rfl
  · split
    · split <;> simpa using NamesWithin.countMatchUp k s
    · exact NamesWithin.of_eq rfl

theorem NamesWithin.install (k : FlowIdx) (e : FlowEntry) (s : State) :
    NamesWithin (s.flows.set k (some e)) (s.install k e).1.flows :=
  List.foldlRecOn (motive := fun acc : State × Nat × Nat => NamesWithin (s.flows.set k (some e)) acc.1.flows) _ _
    (NamesWithin.of_eq rfl) fun acc hacc h _ => hacc.trans (NamesWithin.releaseOne k e h acc)

theorem NamesWithin.flowDrop (k : FlowIdx) (s : State) : NamesWithin s.flows (s.flowDrop k).2.flows := by
  unfold State.flowDrop
  split
  · intro j f l hj names
    rw [State.setFlow_flows, getElem_set_flow] at hj
    split at hj
    · cases hj
    · exact ⟨j, f, hj, names⟩
  · exact NamesWithin.of_eq rfl

theorem NamesWithin.flowClear (notKept : Bool) (s : State) : NamesWithin s.flows (s.flowClear notKept).2.flows := by
  intro j f l hj names
  simp only [State.flowClear, Fin.getElem_fin, Vector.getElem_map] at hj
  exact ⟨j, f, (Option.filter_eq_some_iff.mp hj).1, names⟩

/-- Content that R49 accepts names equipped lines alone. -/
theorem FlowContent.entry_names {equipped : LineNo → Bool} {c : FlowContent} {e : FlowEntry}
    (made : FlowContent.entry equipped c = some e) {l : LineNo} (names : e.Names l) : equipped l = true := by
  have none_has : LineSet.has 0 l = false := by simp [LineSet.has]
  unfold FlowContent.entry at made
  split at made
  · cases made
  case h_2 o _ =>
    split at made
    case isFalse => cases made
    case isTrue ok =>
      obtain rfl := Option.some.inj made
      have owner : ownerOk equipped o (c.down == 1) c.members = true := by
        simp only [Bool.and_eq_true] at ok
        exact ok.2
      rcases names with howner | hmember
      · obtain rfl : o = .line l := howner
        simp only [ownerOk, Bool.and_eq_true] at owner
        exact owner.1
      · replace hmember : LineSet.has c.members l = true := hmember
        unfold ownerOk at owner
        split at owner
        · simp only [Bool.and_eq_true, beq_iff_eq] at owner
          rw [owner.2, none_has] at hmember
          cases hmember
        · split at owner
          · simp only [Bool.and_eq_true, LineSet.lines, List.all_eq_true, List.mem_filter] at owner
            exact owner.2 l ⟨List.mem_finRange l, hmember⟩
          · rw [beq_iff_eq.mp owner, none_has] at hmember
            cases hmember

/-- The table of a start names lines that the image has equipped (R65). -/
theorem startFlows_names (st : Settings) (k : FlowIdx) (e : FlowEntry) (l : LineNo) (hk : (startFlows st)[k] = some e)
    (names : e.Names l) : LineSet.has st.equipped l = true := by
  have all : ∀ (k : FlowIdx) (e : FlowEntry), (startFlows st)[k] = some e → ∀ l, e.Names l →
      LineSet.has st.equipped l = true := by
    unfold startFlows
    refine List.foldlRecOn (motive := fun t : Vector (Option FlowEntry) 64 => ∀ (k : FlowIdx) (e : FlowEntry),
      t[k] = some e → ∀ l, e.Names l → LineSet.has st.equipped l = true) allFlows _ (fun k e hk => by simp at hk)
      fun t ht k _ => ?_
    split
    · unfold loadKept
      split
      case h_1 f made =>
        split
        · exact ht
        · intro j e hj l names
          rw [getElem_set_flow] at hj
          split at hj
          · cases hj
            exact FlowContent.entry_names made names
          · exact ht j e hj l names
      case h_2 => exact ht
    · exact ht
  exact all k e hk l names

end Sys2Proof.Machine
end

section
/-! The laws of the lines (R12, R13, R20, R151): the roll of the lines, which is the kind of each line's state against the
shed list, the line under test and the lines that are named; what a move of one line does to it; and every step. -/

namespace Sys2Proof.Machine

/-! ### The roll -/

/-- The kinds of the lines agree with the shed list, with the line under test and with the names in use. -/
structure Roll (kinds : LineNo → LineKind) (shed : List LineNo) (under : Option LineNo) (named : LineNo → Prop) : Prop where
  once : shed.Nodup
  shed : ∀ l, l ∈ shed ↔ kinds l = .shed
  withdrawn : ∀ l, kinds l = .withdrawn ↔ under = some l
  named : ∀ l, named l → kinds l ≠ .unequipped

/-- A kind that neither the shed list nor the engine has a record of. -/
def LineKind.Free (a : LineKind) : Prop := a ≠ .shed ∧ a ≠ .withdrawn

section
variable {kinds : LineNo → LineKind} {shed : List LineNo} {under : Option LineNo} {named : LineNo → Prop} {l : LineNo}
  {a : LineKind}

theorem Roll.thin (h : Roll kinds shed under named) {named' : LineNo → Prop} (less : ∀ l, named' l → named l) :
    Roll kinds shed under named' := { h with named := fun l hl => h.named l (less l hl) }

/-- A line moves between kinds that have no record elsewhere. -/
theorem Roll.move (h : Roll kinds shed under named) (source : (kinds l).Free) (target : a.Free)
    (name : a = .unequipped → ¬named l) : Roll (Function.update kinds l a) shed under named where
  once := h.once
  shed k := by
    by_cases same : k = l
    · subst same
      rw [Function.update_self, h.shed]
      exact iff_of_false source.1 target.1
    · rw [Function.update_of_ne same]
      exact h.shed k
  withdrawn k := by
    by_cases same : k = l
    · subst same
      rw [Function.update_self, ← h.withdrawn]
      exact iff_of_false target.2 source.2
    · rw [Function.update_of_ne same]
      exact h.withdrawn k
  named k hk := by
    by_cases same : k = l
    · subst same
      rw [Function.update_self]
      exact fun gone => name gone hk
    · rw [Function.update_of_ne same]
      exact h.named k hk

/-- A line leaves the shed list. -/
theorem Roll.leave (h : Roll kinds shed under named) (listed : kinds l = .shed) (target : a.Free)
    (equipped : a ≠ .unequipped) {shed' : List LineNo} (once : shed'.Nodup)
    (others : ∀ k, k ∈ shed' ↔ k ∈ shed ∧ k ≠ l) : Roll (Function.update kinds l a) shed' under named where
  once := once
  shed k := by
    rw [others]
    by_cases same : k = l
    · subst same
      rw [Function.update_self]
      exact iff_of_false (fun mem => mem.2 rfl) target.1
    · rw [Function.update_of_ne same, ← h.shed]
      exact and_iff_left same
  withdrawn k := by
    by_cases same : k = l
    · subst same
      rw [Function.update_self, ← h.withdrawn, listed]
      exact iff_of_false target.2 nofun
    · rw [Function.update_of_ne same]
      exact h.withdrawn k
  named k hk := by
    by_cases same : k = l
    · subst same
      rwa [Function.update_self]
    · rw [Function.update_of_ne same]
      exact h.named k hk

/-- A line joins the shed list at its top. -/
theorem Roll.push (h : Roll kinds shed under named) (source : (kinds l).Free) :
    Roll (Function.update kinds l .shed) (l :: shed) under named where
  once := List.nodup_cons.mpr ⟨fun mem => source.1 ((h.shed l).mp mem), h.once⟩
  shed k := by
    rw [List.mem_cons]
    by_cases same : k = l
    · subst same
      rw [Function.update_self]
      exact iff_of_true (.inl rfl) rfl
    · rw [Function.update_of_ne same, ← h.shed]
      exact or_iff_right same
  withdrawn k := by
    by_cases same : k = l
    · subst same
      rw [Function.update_self, ← h.withdrawn]
      exact iff_of_false nofun source.2
    · rw [Function.update_of_ne same]
      exact h.withdrawn k
  named k hk := by
    by_cases same : k = l
    · subst same
      rw [Function.update_self]
      exact nofun
    · rw [Function.update_of_ne same]
      exact h.named k hk

/-- A line is withdrawn for the order that becomes current (R12). -/
theorem Roll.withdraw (h : Roll kinds shed none named) (l : LineNo) :
    Roll (Function.update kinds l .withdrawn) (shed.filter fun k => k != l) (some l) named where
  once := h.once.filter _
  shed k := by
    rw [List.mem_filter, bne_iff_ne]
    by_cases same : k = l
    · subst same
      rw [Function.update_self]
      exact iff_of_false (fun mem => mem.2 rfl) nofun
    · rw [Function.update_of_ne same, ← h.shed]
      exact and_iff_left same
  withdrawn k := by
    by_cases same : k = l
    · subst same
      rw [Function.update_self]
      exact iff_of_true rfl rfl
    · rw [Function.update_of_ne same, h.withdrawn]
      exact iff_of_false nofun fun under => same (Option.some.inj under).symm
  named k hk := by
    by_cases same : k = l
    · subst same
      rw [Function.update_self]
      exact nofun
    · rw [Function.update_of_ne same]
      exact h.named k hk

/-- The line under test is given back as the order ends (R15): the roll as it would stand without the order. -/
theorem Roll.giveBack (h : Roll kinds shed (some l) named) (target : a.Free) (equipped : a ≠ .unequipped) :
    Roll (Function.update kinds l a) shed none named := by
  have under : kinds l = .withdrawn := (h.withdrawn l).mpr rfl
  refine ⟨h.once, fun k => ?_, fun k => iff_of_false (fun gone => ?_) nofun, fun k hk => ?_⟩ <;> by_cases same : k = l
  · subst same
    rw [Function.update_self, h.shed, under]
    exact iff_of_false nofun target.1
  · rw [Function.update_of_ne same]
    exact h.shed k
  · subst same
    rw [Function.update_self] at gone
    exact target.2 gone
  · rw [Function.update_of_ne same, h.withdrawn] at gone
    exact same (Option.some.inj gone).symm
  · subst same
    rwa [Function.update_self]
  · rw [Function.update_of_ne same]
    exact h.named k hk

end

/-! ### The roll of a machine -/

def State.kinds (s : State) (l : LineNo) : LineKind := (s.line l).state.kind

/-- The line of the current order. -/
def State.underTest (s : State) : Option LineNo := (s.engine.current.map Current.order).map TestOrder.line

theorem LineState.kind_eq_shed_iff (st : LineState) : st.kind = .shed ↔ st = .shed := by cases st <;> simp [LineState.kind]

theorem LineState.kind_eq_unequipped_iff (st : LineState) : st.kind = .unequipped ↔ st = .unequipped := by
  cases st <;> simp [LineState.kind]

theorem State.underTest_eq_some_iff (s : State) (l : LineNo) :
    s.underTest = some l ↔ ∃ c, s.engine.current = some c ∧ c.order.line = l := by
  simp [State.underTest]

theorem linesOk_iff (s : State) :
    LinesOk s ↔ Roll s.kinds s.energy.shed s.underTest (fun l => s.referenced l = true) := by
  have equipped (l : LineNo) : s.equipped l = true ↔ s.kinds l ≠ .unequipped := by
    rw [State.equipped, bne_iff_ne, State.kinds, ne_eq, ne_eq, LineState.kind_eq_unequipped_iff]
  constructor
  · intro ok
    refine ⟨ok.shedOnce, fun l => ?_, fun l => ?_, fun l hl => (equipped l).mp (ok.equippedNames l hl)⟩
    · rw [ok.shedExactly, State.kinds, LineState.kind_eq_shed_iff]
    · rw [State.underTest_eq_some_iff]
      exact ok.withdrawnExactly l
  · intro roll
    refine ⟨roll.once, fun l => ?_, fun l => ?_, fun l hl => (equipped l).mpr (roll.named l hl)⟩
    · rw [roll.shed, State.kinds, LineState.kind_eq_shed_iff]
    · rw [← State.underTest_eq_some_iff]
      exact roll.withdrawn l

theorem SameLines.kinds {s u : State} (h : SameLines s u) : u.kinds = s.kinds :=
  funext fun l => congrArg LineState.kind (h l).1

theorem State.kinds_moveLine (l : LineNo) (st : LineState) (c : LineCause) (s : State) :
    (s.moveLine l st c).kinds = Function.update s.kinds l st.kind := by
  funext k
  have kept := (State.moveLine_kept l k st c s).1
  by_cases same : k = l
  · subst same
    simp [State.kinds, kept]
  · simp [State.kinds, kept, same]

/-- References come from the flow table and the order queue alone. -/
theorem State.referenced_within {s u : State} (flows : NamesWithin s.flows u.flows)
    (queue : ∀ o ∈ u.engine.queue, o ∈ s.engine.queue) (l : LineNo) (named : u.referenced l = true) :
    s.referenced l = true := by
  rw [State.referenced_iff_names] at named ⊢
  rcases named with ⟨k, e, hk, names⟩ | ⟨o, ho, hl⟩
  · exact .inl (flows k e l hk names)
  · exact .inr ⟨o, queue o ho, hl⟩

section
variable {s u : State}

/-- An operation that leaves kinds, shed list and line under test alone, and adds no reference. -/
theorem LinesOk.frame (ok : LinesOk s) (lines : u.kinds = s.kinds) (shed : u.energy.shed = s.energy.shed)
    (under : u.underTest = s.underTest) (flows : NamesWithin s.flows u.flows)
    (queue : ∀ o ∈ u.engine.queue, o ∈ s.engine.queue) : LinesOk u := by
  rw [linesOk_iff, lines, shed, under]
  exact ((linesOk_iff s).mp ok).thin (State.referenced_within flows queue)

theorem LinesOk.congr (ok : LinesOk s) (lines : u.lines = s.lines) (shed : u.energy.shed = s.energy.shed)
    (engine : u.engine = s.engine) (flows : u.flows = s.flows) : LinesOk u :=
  ok.frame (SameLines.of_lines lines).kinds shed (by rw [State.underTest, engine, State.underTest]) (NamesWithin.of_eq flows)
    fun _ ho => engine ▸ ho

theorem LinesOk.traffic (ok : LinesOk s) (lines : SameLines s u) (shed : u.energy.shed = s.energy.shed)
    (engine : u.engine = s.engine) (flows : NamesWithin s.flows u.flows) : LinesOk u :=
  ok.frame lines.kinds shed (by rw [State.underTest, engine, State.underTest]) flows fun _ ho => engine ▸ ho

theorem LinesOk.onward (ok : LinesOk s) (h : Onward s u) : LinesOk u :=
  ok.frame (funext h.kind) (by rw [h.energy]) (by rw [State.underTest, h.order, State.underTest])
    (NamesWithin.of_eq h.flows) fun _ ho => h.queue ▸ ho

theorem LinesOk.notify (ok : LinesOk s) (n : Notice) : LinesOk (s.notify n) :=
  ok.congr (by simp) (by simp) (by simp) (by simp)

theorem LinesOk.setFail (ok : LinesOk s) (l : LineNo) (n : Nat) : LinesOk (s.setFail l n) :=
  ok.traffic (SameLines.setFail l n s) rfl rfl (NamesWithin.of_eq rfl)

/-! ### Moves of one line -/

theorem State.referenced_moveLine (l k : LineNo) (st : LineState) (c : LineCause) (s : State) :
    (s.moveLine l st c).referenced k = s.referenced k := by
  simp [State.referenced]

/-- The roll after a move of line l with the shed list set. -/
theorem LinesOk.of_move {ls : List LineNo} {l : LineNo} {st : LineState} {c : LineCause}
    (roll : Roll (Function.update s.kinds l st.kind) ls s.underTest (fun k => s.referenced k = true)) :
    LinesOk ((s.setShed ls).moveLine l st c) := by
  rw [linesOk_iff, State.kinds_moveLine]
  simp only [State.underTest, State.moveLine_frame, State.referenced_moveLine, State.setShed_energy] at roll ⊢
  exact roll

/-- A line moves between states that have no record elsewhere. -/
theorem LinesOk.moveLine (ok : LinesOk s) {l : LineNo} {st : LineState} (c : LineCause) (source : (s.kinds l).Free)
    (target : st.kind.Free) (name : st.kind = .unequipped → ¬s.referenced l = true) : LinesOk (s.moveLine l st c) :=
  LinesOk.of_move (ls := s.energy.shed) (((linesOk_iff s).mp ok).move source target name)

/-- A WITHDRAWN line's return target or connection is edited. -/
theorem LinesOk.editTarget (ok : LinesOk s) {l : LineNo} {t₀ : Target} {c₀ : Conn}
    (under : (s.line l).state = .withdrawn t₀ c₀) (t : Target) (c : Conn) : LinesOk (s.editTarget l t c) := by
  refine ok.frame (funext fun k => ?_) rfl rfl (NamesWithin.of_eq rfl) fun _ ho => ho
  simp only [State.kinds, State.editTarget, State.line_setLineState]
  split
  case isTrue same => rw [same, under]; rfl
  case isFalse => rfl

theorem counted_free {st : LineState} (h : st.counted = true) : st.kind.Free := by
  cases st <;> simp [LineState.counted] at h <;> exact ⟨nofun, nofun⟩

/-! ### The passes (R150, R152) -/

theorem State.shedFirst_counted {best : Option LineNo} (hb : ∀ b ∈ best, (s.line b).state.counted = true) (l : LineNo) :
    ∀ b ∈ s.shedFirst best l, (s.line b).state.counted = true := by
  unfold State.shedFirst
  split
  case isTrue counted =>
    split
    · rintro b ⟨⟩
      exact counted
    · split
      · rintro b ⟨⟩
        exact counted
      · rintro b ⟨⟩
        exact hb _ rfl
  case isFalse => exact hb

/-- The line shed next is a counted one. -/
theorem State.shedCandidate_counted {l : LineNo} (h : s.shedCandidate = some l) : (s.line l).state.counted = true := by
  have all : ∀ b ∈ s.shedCandidate, (s.line b).state.counted = true :=
    List.foldlRecOn (motive := fun best : Option LineNo => ∀ b ∈ best, (s.line b).state.counted = true) _ _ nofun
      fun _ hb l _ => State.shedFirst_counted hb l
  exact all l h

theorem LinesOk.setCap (ok : LinesOk s) (c : Nat) : LinesOk (s.setCap c) := ok.congr rfl rfl rfl rfl

theorem LinesOk.shedLine (ok : LinesOk s) {l : LineNo} (counted : (s.line l).state.counted = true) :
    LinesOk (s.shedLine l) :=
  LinesOk.of_move (((linesOk_iff s).mp ok).push (counted_free counted))

theorem LinesOk.restoreLine (ok : LinesOk s) {l : LineNo} {rest : List LineNo} (top : s.energy.shed = l :: rest) :
    LinesOk (s.restoreLine l rest) := by
  have roll := (linesOk_iff s).mp ok
  obtain ⟨notAgain, once⟩ := List.nodup_cons.mp (top ▸ roll.once)
  have listed : s.kinds l = .shed := (roll.shed l).mp (top ▸ List.mem_cons_self)
  refine LinesOk.of_move (roll.leave (a := .training) listed ⟨nofun, nofun⟩ nofun once fun k => ?_)
  rw [top, List.mem_cons]
  constructor
  · exact fun mem => ⟨.inr mem, ne_of_mem_of_not_mem mem notAgain⟩
  · exact fun ⟨mem, other⟩ => mem.resolve_left other

theorem LinesOk.shedLoop (n : Nat) {s : State} (ok : LinesOk s) : LinesOk (s.shedLoop n) := by
  induction n generalizing s with
  | zero => exact ok
  | succ n ih =>
    rw [State.shedLoop]
    split
    · exact ok
    · split
      · exact ih (ok.setCap _)
      · split
        case h_1 l candidate => exact ih (ok.shedLine (State.shedCandidate_counted candidate))
        case h_2 => exact ok.onward (Onward.takeEnergyPass s)

theorem LinesOk.sheddingPass (ok : LinesOk s) : LinesOk s.sheddingPass := ok.shedLoop 28

theorem LinesOk.restoreLoop (n : Nat) {s : State} (ok : LinesOk s) : LinesOk (s.restoreLoop n) := by
  induction n generalizing s with
  | zero => exact ok
  | succ n ih =>
    rw [State.restoreLoop]
    split
    · exact ok
    case h_2 l rest top =>
      split
      · exact ih (ok.restoreLine top)
      · exact ok

theorem LinesOk.raiseLoop (n : Nat) {s : State} (ok : LinesOk s) : LinesOk (s.raiseLoop n) := by
  induction n generalizing s with
  | zero => exact ok
  | succ n ih =>
    rw [State.raiseLoop]
    split
    · exact ih (ok.setCap _)
    · exact ok

theorem LinesOk.restoringPass (ok : LinesOk s) : LinesOk s.restoringPass := (ok.restoreLoop _).raiseLoop 3

theorem LinesOk.passFor (ok : LinesOk s) (before after : Nat) : LinesOk (s.passFor before after) := by
  unfold State.passFor
  split
  · exact ok.sheddingPass
  · split
    · exact ok.restoringPass
    · exact ok

theorem LinesOk.budgetPass (ok : LinesOk s) (before : Nat) : LinesOk (s.budgetPass before) := by
  unfold State.budgetPass
  split
  · exact ok.sheddingPass
  · split
    · exact ok.restoringPass
    · exact ok

/-! ### Orders: removed, refused, taken (R107 to R110, R125) -/

theorem LinesOk.dequeue (ok : LinesOk s) (o : TestOrder) : LinesOk (s.dequeue o) :=
  ok.frame rfl rfl rfl (NamesWithin.of_eq rfl) fun _ ho => (List.mem_filter.mp ho).1

theorem Engine.store_queue (r : Result) (e : Engine) :
    (e.store r).queue = e.queue ∧ (e.store r).current = e.current ∧ (e.store r).lastId = e.lastId := by
  unfold Engine.store
  split <;> exact ⟨rfl, rfl, rfl⟩

theorem LinesOk.storeResult (ok : LinesOk s) (r : Result) : LinesOk (s.storeResult r) := by
  obtain ⟨queue, current, -⟩ := Engine.store_queue r s.engine
  have stored : LinesOk { s with engine := s.engine.store r } :=
    ok.frame rfl rfl (by rw [State.underTest, current, State.underTest]) (NamesWithin.of_eq rfl) fun _ ho => queue ▸ ho
  exact stored.notify _

theorem LinesOk.removeOrder (ok : LinesOk s) (cause : Cause) (o : TestOrder) : LinesOk (State.removeOrder cause s o) :=
  (ok.dequeue o).storeResult _

theorem LinesOk.removeOrders (ok : LinesOk s) (cause : Cause) (os : List TestOrder) :
    LinesOk (os.foldl (State.removeOrder cause) s) :=
  List.foldlRecOn (motive := LinesOk) os _ ok fun _ ok o _ => ok.removeOrder cause o

theorem LinesOk.refuseOrder (ok : LinesOk s) (o : TestOrder) : LinesOk (s.refuseOrder o) := (ok.dequeue o).storeResult _

theorem State.kinds_withdraw (l : LineNo) (t : Target) (s : State) :
    (s.withdraw l t).kinds = Function.update s.kinds l .withdrawn :=
  State.kinds_moveLine _ _ _ _

/-- An idle engine takes an order: its line is withdrawn and under test (R109, R12). -/
theorem LinesOk.take (ok : LinesOk s) (idle : s.engine.current = none) (o : TestOrder) (target : Target) :
    LinesOk (((s.dequeue o).withdraw o.line target).makeCurrent o) := by
  have roll := (linesOk_iff _).mp (ok.dequeue o)
  have none_ : (s.dequeue o).underTest = none := by rw [State.underTest, State.dequeue_engine, idle]; rfl
  rw [none_] at roll
  rw [linesOk_iff]
  have kinds : (((s.dequeue o).withdraw o.line target).makeCurrent o).kinds =
      Function.update (s.dequeue o).kinds o.line .withdrawn := State.kinds_withdraw o.line target (s.dequeue o)
  have shed : (((s.dequeue o).withdraw o.line target).makeCurrent o).energy.shed =
      (s.dequeue o).energy.shed.filter fun k => k != o.line := by
    simp [State.withdraw]
  rw [kinds, shed]
  refine (roll.withdraw o.line).thin (State.referenced_within (NamesWithin.of_eq (by simp)) fun q hq => ?_)
  simpa [State.makeCurrent] using hq

theorem LinesOk.acquire (ok : LinesOk s) (idle : s.engine.current = none) (o : TestOrder) (target : Target) :
    LinesOk (s.acquire o target) := (ok.take idle o target).passFor _ _

theorem LinesOk.attemptLoop (n : Nat) {s : State} (ok : LinesOk s) : LinesOk (s.attemptLoop n) := by
  induction n generalizing s with
  | zero => exact ok
  | succ n ih =>
    have refused (o : TestOrder) : LinesOk ((s.refuseOrder o).attemptLoop n) := ih (ok.refuseOrder o)
    rw [State.attemptLoop]
    split
    · exact ok
    case isFalse free =>
      have idle : s.engine.current = none := by simpa using free
      split
      · exact ok
      · split
        · split
          · exact ok.acquire idle _ _
          · exact ok.acquire idle _ _
          · split
            · exact ok.acquire idle _ _
            · exact refused _
          · split
            · exact ok.acquire idle _ _
            · exact refused _
          · exact ok.acquire idle _ _
          · exact ok
          · exact ok
        · exact ok

theorem LinesOk.attempt (ok : LinesOk s) : LinesOk s.attempt := ok.attemptLoop _

theorem LinesOk.attemptIfMoved (ok : LinesOk s) (before : Nat) : LinesOk (s.attemptIfMoved before) := by
  unfold State.attemptIfMoved
  split
  · exact ok
  · exact ok.attempt

theorem LinesOk.settleChange (ok : LinesOk s) (before : Nat) : LinesOk (s.settleChange before) := by
  unfold State.settleChange
  split
  · exact ok
  · exact (ok.passFor _ _).attempt

/-! ### The return of the line under test (R15, R119) -/

/-- The state of a line given back, and the shed list with it. -/
def ReturnState.lineState (deadline : Nat) : ReturnState → LineState
  | .idle => .idle
  | .training => .training deadline
  | .shed => .shed
  | .quarantined c => .quarantined c

/-- A TRAINING return is given to a WITHDRAWN line that was to return so, and whose cost was admitted. -/
theorem State.resolveReturn_training {o : TestOrder} {outcome : TestOutcome}
    (h : s.resolveReturn o outcome (s.targetOf o.line) = .training) :
    (∃ c, (s.line o.line).state = .withdrawn .training c) ∧ s.admits (s.costOf o.line) = true := by
  unfold State.resolveReturn at h
  split at h
  · cases h
  · cases h
  case h_3 flagged =>
    split at h
    case isFalse => cases h
    case isTrue admitted =>
      refine ⟨?_, admitted⟩
      unfold TestOrder.flagged State.targetOf at flagged
      split at flagged
      · cases flagged
      · split at flagged
        · split at flagged <;> cases flagged
        · split at flagged
          case h_1 target c state => exact ⟨c, flagged ▸ state⟩
          case h_2 => cases flagged

/-- The shedding pass after an admitted return finds nothing to do (R148, R153). -/
theorem State.returnLine_training {l : LineNo} {target target' : Target} {c : Conn}
    (under : (s.line l).state = .withdrawn target' c) (admitted : s.admits (s.costOf l) = true) :
    s.returnLine l target .training = s.moveLine l (.training s.newDeadline) .test := by
  refine State.sheddingPass_within ?_
  have moved := State.committed_moveLine l (.training s.newDeadline) .test s
  have room : s.committed + s.costOf l ≤ s.budget := by simpa [State.admits] using admitted
  simp only [under, LineState.counted, Bool.false_eq_true, if_false, if_true, State.costOf] at moved room
  rw [State.budget_moveLine]
  omega

/-- The return that R119 resolves: the line moves, after its fail count or the shed list was set, and nothing else. -/
theorem State.returnLine_resolved (o : TestOrder) (outcome : TestOutcome) (s : State) :
    let r := s.resolveReturn o outcome (s.targetOf o.line)
    ∃ v : State, SameLines s v ∧ v.engine = s.engine ∧ v.flows = s.flows ∧ v.gen = s.gen ∧ v.points = s.points ∧
      v.params = s.params ∧
      v.energy = { s.energy with shed := if r = .shed then o.line :: s.energy.shed else s.energy.shed } ∧
      s.returnLine o.line (s.targetOf o.line) r = v.moveLine o.line (r.lineState s.newDeadline) .test := by
  intro r
  cases hr : r with
  | idle =>
    by_cases clears : clearsFail (s.targetOf o.line) = true
    · exact ⟨s.setFail o.line 0, SameLines.setFail _ _ s, rfl, rfl, rfl, rfl, rfl, rfl,
        by simp only [State.returnLine, if_pos clears, ReturnState.lineState]⟩
    · exact ⟨s, SameLines.refl s, rfl, rfl, rfl, rfl, rfl, rfl,
        by simp only [State.returnLine, if_neg clears, ReturnState.lineState]⟩
  | quarantined c => exact ⟨s, SameLines.refl s, rfl, rfl, rfl, rfl, rfl, rfl, rfl⟩
  | shed => exact ⟨s.setShed (o.line :: s.energy.shed), SameLines.refl s, rfl, rfl, rfl, rfl, rfl, rfl, rfl⟩
  | training =>
    obtain ⟨⟨c, under⟩, admitted⟩ := State.resolveReturn_training hr
    exact ⟨s, SameLines.refl s, rfl, rfl, rfl, rfl, rfl, rfl, State.returnLine_training under admitted⟩

/-- The machine at the end of an order, as its restoring pass and its attempt find it (R118, R136). -/
def State.reported (c : Current) (s : State) : State :=
  let u := s.setTestPower false
  let target := u.targetOf c.order.line
  let r := u.resolveReturn c.order c.outcome.1 target
  ((u.returnLine c.order.line target r).storeResult (c.result r)).idleEngine

theorem State.finishOrder_eq (c : Current) (s : State) : s.finishOrder c = (s.reported c).restoringPass.attempt := rfl

/-- What the end of an order leaves of each block: the line given back, a result stored, the engine idle. -/
theorem State.reported_spec (c : Current) (s : State) : ∃ r : ReturnState,
    r = (s.setTestPower false).resolveReturn c.order c.outcome.1 (s.targetOf c.order.line) ∧
    (∀ k, ((s.reported c).line k).state = (if k = c.order.line then r.lineState s.newDeadline else (s.line k).state) ∧
      ((s.reported c).line k).profile = (s.line k).profile) ∧
    (s.reported c).energy = { s.energy with shed := if r = .shed then c.order.line :: s.energy.shed else s.energy.shed } ∧
    (s.reported c).engine = { s.engine.store (c.result r) with current := none } ∧ (s.reported c).flows = s.flows ∧
    (s.reported c).gen = s.gen ∧ (s.reported c).points = { s.points with testPower := false } ∧
    (s.reported c).params = s.params := by
  obtain ⟨v, lines, engine, flows, gen, points, params, energy, returned⟩ :=
    State.returnLine_resolved c.order c.outcome.1 (s.setTestPower false)
  have eq : s.reported c = ((v.moveLine c.order.line (((s.setTestPower false).resolveReturn c.order c.outcome.1
      (s.targetOf c.order.line)).lineState s.newDeadline) .test).storeResult (c.result ((s.setTestPower false).resolveReturn
      c.order c.outcome.1 (s.targetOf c.order.line)))).idleEngine := by
    simp only [State.reported]
    exact congrArg (fun u => (State.storeResult _ u).idleEngine) returned
  refine ⟨_, rfl, fun k => ?_, ?_, ?_, ?_, ?_, ?_, ?_⟩ <;> rw [eq]
  · obtain ⟨state, profile, -⟩ := State.moveLine_kept c.order.line k (((s.setTestPower false).resolveReturn c.order
      c.outcome.1 (s.targetOf c.order.line)).lineState s.newDeadline) .test v
    obtain ⟨state', profile'⟩ := lines k
    have same : ∀ (r : Result) (u : State), ((u.storeResult r).idleEngine).line k = u.line k := fun r u =>
      State.line_congr (by simp) k
    rw [same]
    exact ⟨state.trans (by rw [state']; rfl), profile.trans profile'⟩
  · simp [energy]
    rfl
  · simp [State.storeResult, engine]
  · simp [flows]
  · simp [gen]
  · simp [points]
  · simp [params]

theorem ReturnState.lineState_free {r : ReturnState} (h : r ≠ .shed) (d : Nat) :
    (r.lineState d).kind.Free ∧ (r.lineState d).kind ≠ .unequipped := by
  cases r <;> first | exact absurd rfl h | exact ⟨⟨nofun, nofun⟩, nofun⟩

theorem LinesOk.reported (ok : LinesOk s) {c : Current} (current : s.engine.current = some c) : LinesOk (s.reported c) := by
  obtain ⟨r, -, line, energy, engine, flows, -⟩ := State.reported_spec c s
  have roll := (linesOk_iff s).mp ok
  have under : s.underTest = some c.order.line := by simp [State.underTest, current]
  have idle : (s.reported c).underTest = none := by simp [State.underTest, engine]
  have queue : (s.reported c).engine.queue = s.engine.queue := by
    rw [engine]
    exact (Engine.store_queue _ _).1
  have kinds : (s.reported c).kinds = Function.update s.kinds c.order.line (r.lineState s.newDeadline).kind := by
    funext k
    by_cases same : k = c.order.line
    · subst same
      simp [State.kinds, line]
    · simp [State.kinds, line, same]
  rw [under] at roll
  rw [linesOk_iff, kinds, idle, energy]
  refine Roll.thin ?_ (State.referenced_within (NamesWithin.of_eq flows) fun o ho => queue ▸ ho)
  by_cases shed : r = .shed
  case neg =>
    obtain ⟨free, equipped⟩ := ReturnState.lineState_free shed s.newDeadline
    simpa only [if_neg shed] using roll.giveBack free equipped
  case pos =>
    have back := roll.giveBack (a := .idle) ⟨nofun, nofun⟩ nofun
    have pushed := back.push (l := c.order.line) (by rw [Function.update_self]; exact ⟨nofun, nofun⟩)
    rw [Function.update_idem] at pushed
    rw [if_pos shed, shed]
    exact pushed

theorem LinesOk.finishOrder (ok : LinesOk s) {c : Current} (current : s.engine.current = some c) :
    LinesOk (s.finishOrder c) := (ok.reported current).restoringPass.attempt

theorem LinesOk.endRelease (ok : LinesOk s) : LinesOk s.endRelease := by
  unfold State.endRelease
  split
  · exact ok
  case h_2 c current =>
    split
    · split
      · exact ok.finishOrder current
      · exact ok
    · exact ok

theorem LinesOk.endExit (ok : LinesOk s) : LinesOk s.endExit := by
  unfold State.endExit
  split
  · exact ok
  case h_2 c current =>
    split
    · split
      · split
        · exact ok.finishOrder current
        · exact ok
      · exact ok
    · exact ok

/-! ### Supply, budgets and the cap ceiling -/

theorem LinesOk.changeSupply (ok : LinesOk s) (new : Supply) (source : SupplySource) :
    LinesOk (s.changeSupply new source) := by
  have entered : LinesOk { s with energy := { s.energy with supply := new, source := source } } :=
    ok.congr rfl rfl rfl rfl
  have noticed := entered.notify (.supply new
    ({ s with energy := { s.energy with supply := new, source := source } } : State).budget source)
  unfold State.changeSupply
  refine LinesOk.attempt (LinesOk.budgetPass ?_ _)
  split
  · exact noticed.onward (Onward.takeEnergyCrit _)
  · exact noticed

theorem LinesOk.putBudget (ok : LinesOk s) (st : Supply) (n : Nat) : LinesOk (s.putBudget st n) := by
  have put : LinesOk { s with energy := { s.energy with budgets := s.energy.budgets.put st n } } :=
    ok.congr rfl rfl rfl rfl
  unfold State.putBudget
  dsimp only
  split
  · exact put
  · exact ((put.notify _).budgetPass _).attempt

theorem LinesOk.ceilingSet (ok : LinesOk s) (old : Nat) : LinesOk (s.ceilingSet old) := by
  unfold State.ceilingSet
  split
  · exact (ok.setCap _).restoringPass.attempt
  · split
    · exact ok.restoringPass.attemptIfMoved _
    · exact ok

theorem LinesOk.setParameter (ok : LinesOk s) (id value : Nat) : LinesOk (s.setParameter id value).2 := by
  unfold State.setParameter
  split
  · exact ok
  · split
    · exact ok
    · have put : LinesOk { s with params := s.params.put id value } := ok.congr rfl rfl rfl rfl
      unfold State.putParameter
      dsimp only
      split
      · exact put.ceilingSet _
      · exact put

/-! ### Requests and indications of the lines (R7 to R9, R14 to R21) -/

theorem LinesOk.syncUp (ok : LinesOk s) (l : LineNo) : LinesOk (s.syncUp l) := by
  unfold State.syncUp
  split
  case h_1 d state =>
    refine (ok.setFail l 0).moveLine _ ?_ ⟨nofun, nofun⟩ nofun
    rw [(SameLines.setFail l 0 s).kinds, State.kinds, state]
    exact ⟨nofun, nofun⟩
  case h_2 => exact ok

theorem LinesOk.syncLost (ok : LinesOk s) (l : LineNo) : LinesOk (s.syncLost l) := by
  unfold State.syncLost
  split
  case h_1 state => exact ok.moveLine _ (by rw [State.kinds, state]; exact ⟨nofun, nofun⟩) ⟨nofun, nofun⟩ nofun
  case h_2 => exact ok

theorem afterExpiry_kind (n limit : Nat) :
    (afterExpiry n limit).kind.Free ∧ (afterExpiry n limit).kind ≠ .unequipped := by
  unfold afterExpiry
  split <;> exact ⟨⟨nofun, nofun⟩, nofun⟩

theorem LinesOk.deadlineExpires (ok : LinesOk s) (l : LineNo) : LinesOk (s.deadlineExpires l) := by
  unfold State.deadlineExpires
  split
  case h_1 d state =>
    split
    · obtain ⟨free, equipped⟩ := afterExpiry_kind (min 7 ((s.line l).failCount + 1)) s.params.failLimit
      refine ((ok.setFail l _).moveLine _ ?_ free fun gone => absurd gone equipped).settleChange _
      rw [(SameLines.setFail l _ s).kinds, State.kinds, state]
      exact ⟨nofun, nofun⟩
    · exact ok
  case h_2 => exact ok

theorem LinesOk.lineStart (ok : LinesOk s) (l : LineNo) : LinesOk (s.lineStart l).2 := by
  unfold State.lineStart
  split
  case h_1 state =>
    split
    · have source : (s.kinds l).Free := by rw [State.kinds, state]; exact ⟨nofun, nofun⟩
      have moved : LinesOk (s.moveLine l (.training s.newDeadline) .request) :=
        ok.moveLine _ source ⟨nofun, nofun⟩ nofun
      exact moved.settleChange _
    · exact ok
  case h_5 _ _ _ under => exact ok.editTarget under _ _
  all_goals exact ok

theorem LinesOk.lineStop (ok : LinesOk s) (l : LineNo) : LinesOk (s.lineStop l).2 := by
  unfold State.lineStop
  split
  case h_1 d state =>
    have source : (s.kinds l).Free := by rw [State.kinds, state]; exact ⟨nofun, nofun⟩
    have moved : LinesOk (s.moveLine l .idle .request) := ok.moveLine _ source ⟨nofun, nofun⟩ nofun
    exact moved.settleChange _
  case h_2 state =>
    have source : (s.kinds l).Free := by rw [State.kinds, state]; exact ⟨nofun, nofun⟩
    have moved : LinesOk (s.moveLine l .idle .request) := ok.moveLine _ source ⟨nofun, nofun⟩ nofun
    exact moved.settleChange _
  case h_4 state =>
    have roll := (linesOk_iff s).mp ok
    have listed : s.kinds l = .shed := by rw [State.kinds, state]; rfl
    refine LinesOk.of_move (roll.leave (a := .idle) listed ⟨nofun, nofun⟩ nofun (roll.once.filter _) fun k => ?_)
    rw [List.mem_filter, bne_iff_ne]
  case h_6 _ _ _ under => exact ok.editTarget under _ _
  all_goals exact ok

theorem LinesOk.lineClear (ok : LinesOk s) (l : LineNo) : LinesOk (s.lineClear l).2 := by
  unfold State.lineClear
  split
  case h_1 q state =>
    refine (ok.setFail l 0).moveLine _ ?_ ⟨nofun, nofun⟩ nofun
    rw [(SameLines.setFail l 0 s).kinds, State.kinds, state]
    exact ⟨nofun, nofun⟩
  case h_2 q c under =>
    exact (ok.setFail l 0).editTarget ((SameLines.setFail l 0 s l).1.trans under) _ _
  case h_3 => exact ok

theorem LinesOk.lineEquip (ok : LinesOk s) (l : LineNo) : LinesOk (s.lineEquip l).2 := by
  unfold State.lineEquip
  split
  case isTrue => exact ok
  case isFalse gone =>
    refine (ok.setFail l 0).moveLine _ ?_ ⟨nofun, nofun⟩ nofun
    have state : (s.line l).state = .unequipped := by simpa [State.equipped] using gone
    rw [(SameLines.setFail l 0 s).kinds, State.kinds, state]
    exact ⟨nofun, nofun⟩

theorem LinesOk.lineUnequip (ok : LinesOk s) (l : LineNo) : LinesOk (s.lineUnequip l).2 := by
  have gone (source : (s.kinds l).Free) (unnamed : ¬s.referenced l = true) :
      LinesOk ((s.setFail l 0).moveLine l .unequipped .request) := by
    refine (ok.setFail l 0).moveLine _ ?_ ⟨nofun, nofun⟩ fun _ => unnamed
    rwa [(SameLines.setFail l 0 s).kinds]
  unfold State.lineUnequip
  split
  case h_1 state =>
    split
    · exact ok
    · exact gone (by rw [State.kinds, state]; exact ⟨nofun, nofun⟩) ‹_›
  case h_2 q state =>
    split
    · exact ok
    · exact gone (by rw [State.kinds, state]; exact ⟨nofun, nofun⟩) ‹_›
  case h_3 => exact ok

/-- A line record is changed in nothing but profile, fail count or counters. -/
theorem LinesOk.setLine (ok : LinesOk s) (l : LineNo) {f : LineRec → LineRec} (keeps : ∀ r, (f r).state = r.state) :
    LinesOk (s.setLine l f) := by
  refine ok.frame (funext fun k => ?_) rfl rfl (NamesWithin.of_eq rfl) fun _ ho => ho
  simp only [State.kinds, State.line_setLine]
  split
  case isTrue same => rw [same, keeps]
  case isFalse => rfl

theorem LinesOk.lineProfile (ok : LinesOk s) (l : LineNo) (p : Profile) : LinesOk (s.lineProfile l p).2 := by
  unfold State.lineProfile
  split
  · exact ok
  · split
    · exact ok
    · have set : LinesOk (s.setLine l fun r => { r with profile := p }) := ok.setLine l fun _ => rfl
      exact set.settleChange _

theorem LinesOk.lineQuery (ok : LinesOk s) (l : LineNo) (clear : Bool) : LinesOk (s.lineQuery l clear).2 := by
  unfold State.lineQuery
  dsimp only
  split
  · exact ok.setLine l fun _ => rfl
  · exact ok

/-! ### Flow and test requests -/

/-- An entry that names equipped lines is installed (R49, R50). -/
theorem LinesOk.install (ok : LinesOk s) (k : FlowIdx) {e : FlowEntry} {c : FlowContent} (made : s.entryOf c = some e) :
    LinesOk (s.install k e).1 := by
  have written : LinesOk (s.setFlow k (some e)) := by
    have roll := (linesOk_iff s).mp ok
    refine (linesOk_iff _).mpr { roll with named := fun l named => ?_ }
    rw [State.referenced_iff_names] at named
    rcases named with ⟨j, f, hj, names⟩ | queued
    · rw [State.setFlow_flows, getElem_set_flow] at hj
      split at hj
      · cases hj
        have equipped : s.equipped l = true := FlowContent.entry_names made names
        rw [State.equipped, bne_iff_ne, ne_eq, ← LineState.kind_eq_unequipped_iff] at equipped
        exact equipped
      · exact roll.named l ((s.referenced_iff_names l).mpr (.inl ⟨j, f, hj, names⟩))
    · exact roll.named l ((s.referenced_iff_names l).mpr (.inr queued))
  have lines : SameLines (s.setFlow k (some e)) (s.install k e).1 := SameLines.install k e s
  exact written.traffic lines (by simp) (by simp) (NamesWithin.install k e s)

theorem LinesOk.flowPut (ok : LinesOk s) (k : FlowIdx) (c : FlowContent) : LinesOk (s.flowPut k c).2 := by
  unfold State.flowPut
  split
  · exact ok
  case h_2 e made =>
    split
    · exact ok
    · exact ok.install k made

theorem LinesOk.flowPlace (ok : LinesOk s) (c : FlowContent) : LinesOk (s.flowPlace c).2 := by
  unfold State.flowPlace
  split
  · exact ok
  case h_2 e made =>
    split
    · exact ok
    · split
      · exact ok
      · exact ok.install _ made

/-- An order for an equipped line joins the queue (R103). -/
theorem LinesOk.enqueue (ok : LinesOk s) {o : TestOrder} (equipped : s.equipped o.line = true) :
    LinesOk (s.enqueue o) := by
  have roll := (linesOk_iff s).mp ok
  refine (linesOk_iff _).mpr { roll with named := fun k named => ?_ }
  rw [State.referenced_iff_names] at named
  rcases named with flows | ⟨q, hq, hk⟩
  · exact roll.named k ((s.referenced_iff_names k).mpr (.inl flows))
  · rw [State.enqueue_engine] at hq
    rcases List.mem_append.mp hq with old | new
    · exact roll.named k ((s.referenced_iff_names k).mpr (.inr ⟨q, old, hk⟩))
    · obtain rfl := List.mem_singleton.mp new
      rw [hk, State.equipped, bne_iff_ne, ne_eq, ← LineState.kind_eq_unequipped_iff] at equipped
      exact equipped

theorem LinesOk.testOrder (ok : LinesOk s) (p : PortId) (l : LineNo) (i q c : Bool) (steps : List RawStep) :
    LinesOk (s.testOrder p l i q c steps).2 := by
  unfold State.testOrder
  split
  · exact ok
  · split
    · exact ok
    case isFalse equipped =>
      split
      · exact ok
      · split
        · exact ok
        · split
          · exact ok
          · exact (ok.enqueue (by simpa using equipped)).attempt

theorem LinesOk.testCancel (ok : LinesOk s) (p : PortId) (id : Nat) : LinesOk (s.testCancel p id).2 := by
  unfold State.testCancel
  split
  · split
    · exact ok
    · exact (ok.removeOrder .cancel _).attempt
  · split
    · exact ok
    · split
      · exact ok
      · split
        · exact ok
        · split
          · exact ok.onward (Onward.beginExit .cancel s)
          · exact ok

theorem LinesOk.testResult (ok : LinesOk s) (p : PortId) (oldest : Bool) (id : Nat) :
    LinesOk (s.testResult p oldest id).2 := by
  unfold State.testResult
  split
  · exact ok
  · exact ok.frame rfl rfl rfl (NamesWithin.of_eq rfl) fun _ ho => ho

theorem LinesOk.testHalt (ok : LinesOk s) : LinesOk s.testHalt.2 := by
  have removed := ok.removeOrders .halt s.engine.queue
  unfold State.testHalt
  dsimp only
  split
  · exact removed
  · split
    · exact removed.onward (Onward.beginExit .halt _)
    · exact removed

/-! ### Every step -/

theorem linesOk_steady : Steady LinesOk where
  notice n _ ok := ok.notify n
  points _ _ _ ok := ok.congr (by simp) (by simp) (by simp) (by simp)
  source _ _ ok := ok.congr (by simp) (by simp) (by simp) (by simp)
  attempt _ ok := ok.attempt
  surge s ok := ok.onward (Onward.takeSurge s)
  door s ok := ok.onward (Onward.takeDoor s)
  removed cause os _ _ ok := ok.removeOrders cause os
  changeSupply new source _ ok := ok.changeSupply new source

theorem linesOk_requests : Requests LinesOk where
  clearStatus _ ok := ok.congr (by simp) (by simp) (by simp) (by simp)
  setParameter id value _ ok := ok.setParameter id value
  fetch _ ok := ok.congr (by simp) (by simp) (by simp) (by simp)
  lineStart l _ ok := ok.lineStart l
  lineStop l _ ok := ok.lineStop l
  lineProfile l p _ ok := ok.lineProfile l p
  lineClear l _ ok := ok.lineClear l
  lineQuery l clear _ ok := ok.lineQuery l clear
  lineEquip l _ ok := ok.lineEquip l
  lineUnequip l _ ok := ok.lineUnequip l
  flowPut k c _ ok := ok.flowPut k c
  flowPlace c _ ok := ok.flowPlace c
  flowDrop k s ok := ok.traffic (SameLines.of_lines (by simp)) (by simp) (by simp) (NamesWithin.flowDrop k s)
  flowClear b s ok := ok.traffic (SameLines.of_lines (by simp)) (by simp) (by simp) (NamesWithin.flowClear b s)
  testOrder p l i q c steps _ ok := ok.testOrder p l i q c steps
  testCancel p id _ ok := ok.testCancel p id
  testResult p oldest id _ ok := ok.testResult p oldest id
  testHalt _ ok := ok.testHalt
  supply st _ ok := linesOk_steady.supplyRequest st ok
  budgetSet st n s ok := by
    unfold State.budgetSet
    split
    · exact ok
    · split
      · exact ok
      · exact ok.putBudget _ _
  pointAssign p f pol _ ok := linesOk_steady.pointAssign p f pol ok
  pointDrive p active _ ok := linesOk_steady.pointDrive p active ok

theorem State.line_startWith (st : Settings) (v : SettingsStatus) (cause : StartCause) (s : State) (l : LineNo) :
    (s.startWith st v cause).line l = startLine st l := by
  simp [State.line, State.startWith]

theorem LinesOk.startWith (st : Settings) (v : SettingsStatus) (cause : StartCause) (s : State) :
    LinesOk (s.startWith st v cause) := by
  have state (l : LineNo) : ((s.startWith st v cause).line l).state =
      if LineSet.has st.equipped l then .idle else .unequipped := by
    rw [State.line_startWith]
    rfl
  have shed : (s.startWith st v cause).energy.shed = [] := rfl
  have engine : (s.startWith st v cause).engine = Engine.empty := rfl
  refine ⟨shed ▸ List.nodup_nil, fun l => ?_, fun l => ?_, fun l named => ?_⟩
  · rw [state, shed]
    refine iff_of_false List.not_mem_nil ?_
    split <;> nofun
  · rw [state, engine]
    have idle : ¬∃ c : Current, Engine.empty.current = some c ∧ c.order.line = l := fun ⟨_, current, _⟩ => by
      cases current
    refine iff_of_false ?_ idle
    split <;> nofun
  · rw [State.referenced_iff_names] at named
    rcases named with ⟨k, e, hk, names⟩ | ⟨o, ho, -⟩
    · have equipped := startFlows_names st k e l hk names
      rw [State.equipped, state, if_pos equipped]
      rfl
    · rw [engine] at ho
      cases ho

theorem LinesOk.start (cause : StartCause) (s : State) : LinesOk (s.start cause) := by
  have begun (st : Settings) (v : SettingsStatus) (u : State) :
      LinesOk (u.startWith st v cause).sheddingPass.startSurgeNotice :=
    (LinesOk.startWith st v cause u).sheddingPass.congr (by simp) (by simp) (by simp) (by simp)
  unfold State.start
  dsimp only
  split <;> exact begun _ _ _

theorem linesOk_kept : Kept LinesOk where
  time _ _ ok := ok.congr (by simp) (by simp) (by simp) (by simp)
  recv _ _ _ ok := ok.congr (by simp) (by simp) (by simp) (by simp)
  job _ _ _ ok := ok.congr (by simp) (by simp) (by simp) (by simp)
  fault _ _ _ ok := ok.congr (by simp) (by simp) (by simp) (by simp)
  inForce _ ok := ok.congr (by simp) (by simp) (by simp) (by simp)
  saved _ _ _ _ ok := ok.congr (by simp) (by simp) (by simp) (by simp)
  power _ _ _ ok := ok.congr (by simp) (by simp) (by simp) (by simp)
  queue _ _ ok := ok.congr (by simp) (by simp) (by simp) (by simp)
  start cause s _ := LinesOk.start cause s
  own p r _ ok := linesOk_requests.own p r ok
  syncUp l _ ok := ok.syncUp l
  syncLost l _ ok := ok.syncLost l
  deadline l _ ok := ok.deadlineExpires l
  arriveUp l tag len s _ ok :=
    ok.traffic (SameLines.arriveUp l tag len s) (by simp) (by simp) (NamesWithin.arriveUp l tag len s)
  arriveDown tag len s _ ok :=
    ok.traffic (SameLines.arriveDown tag len s) (by simp) (by simp) (NamesWithin.arriveDown tag len s)
  takeDown l s ok := ok.traffic (SameLines.takeDown l s) (by simp) (by simp) (NamesWithin.of_eq (by simp))
  takeUp s ok := ok.traffic (SameLines.takeUp s) (by simp) (by simp) (NamesWithin.of_eq (by simp))
  expireHeld l tag s ok := ok.traffic (SameLines.expireHeld l tag s) (by simp) (by simp) (NamesWithin.of_eq (by simp))
  decide _ ok := ok.congr (by simp) (by simp) (by simp) (by simp)
  uplink _ _ ok := ok.congr (by simp) (by simp) (by simp) (by simp)
  stepGen s ok := ok.onward (Onward.stepGen s)
  endWarmup s ok := ok.onward (Onward.endWarmup s)
  endFirstSettle s ok := ok.onward (Onward.endFirstSettle s)
  endSecondSettle s ok := ok.onward (Onward.endSecondSettle s)
  reading r s ok := ok.onward (Onward.takeReading r s)
  hazard s ok := ok.onward (Onward.takeHazard s)
  endRelease _ ok := ok.endRelease
  endDwell s ok := ok.onward (Onward.endDwell s)
  endExit _ ok := ok.endExit
  input p v _ ok := linesOk_steady.inputChange p v ok
  endDebounce p _ ok := linesOk_steady.endDebounce p ok
  endSurgeClear _ ok := linesOk_steady.endSurgeClear ok
  endQuiet _ ok := linesOk_steady.endQuiet ok

/-- Settles O54: each move of a line is one change of the roll, made with the shed list or the current order that
records it. -/
theorem linesKept : Obligations.LinesKept := linesOk_kept.step

end

end Sys2Proof.Machine
end

section
/-! The energy account (R142, R148 to R153): the phases keep an exit energy held, the shedding pass brings committed
consumption within the account from wherever it stands, admission keeps it there, and so does every step. -/

namespace Sys2Proof.Machine

/-! ### An exit that is energy held stays so (R138, R157) -/

section
variable {s u v : State} {c : Current} {x y : ExitRec}

theorem State.energyHeld_of_exit (current : s.engine.current = some c) (phase : c.phase = .exit x) :
    s.energyHeld = x.energyHeld := by
  simp only [State.energyHeld, current, phase]

theorem State.energyHeld_iff (s : State) : s.energyHeld = true ↔
    ∃ c x, s.engine.current = some c ∧ c.phase = .exit x ∧ x.energyHeld = true := by
  unfold State.energyHeld
  cases current : s.engine.current with
  | none => simp
  | some c =>
    cases phase : c.phase with
    | exit x => simp [phase]
    | _ => simp [phase]

theorem State.energyHeld_congr (h : u.engine.current = s.engine.current) : u.energyHeld = s.energyHeld := by
  simp only [State.energyHeld, h]

theorem State.energyHeld_setPhase (current : s.engine.current = some c) (x : ExitRec) :
    (s.setPhase (.exit x)).energyHeld = x.energyHeld :=
  State.energyHeld_of_exit (State.setPhase_current current) rfl

theorem ExitRec.note_energyHeld (cause : Cause) (x : ExitRec) : (x.note cause).energyHeld = x.energyHeld := by
  unfold ExitRec.note
  split <;> rfl

theorem State.energyHeld_levelReached (current : s.engine.current = some c) (phase : c.phase = .exit x) :
    s.levelReached.energyHeld = x.energyHeld := by
  simp only [State.levelReached, current, phase]
  split
  · have left := State.leaveBus_current (fun e => .exit { x with stage := .settle e }) current
    exact (State.energyHeld_of_exit left rfl).trans rfl
  · exact State.energyHeld_of_exit current phase

theorem State.energyHeld_load (prog : Program) (e p : Nat) (current : s.engine.current = some c)
    (phase : c.phase = .exit x) : (s.load prog e p).energyHeld = x.energyHeld := by
  obtain kept | ⟨u, same, reached⟩ := State.load_cases prog e p s
  · exact State.energyHeld_of_exit (kept ▸ current) phase
  · rw [reached]
    exact State.energyHeld_levelReached (same ▸ current) phase

/-- The exits that begin energy held are those of cause ENERGY. -/
theorem State.energyHeld_beginExit (cause : Cause) (current : s.engine.current = some c) :
    (s.beginExit cause).energyHeld = (cause == .energy) := by
  unfold State.beginExit
  dsimp only
  split
  · exact State.energyHeld_setPhase (c := c) (by simp [State.cutOff, current]) _
  · exact State.energyHeld_load _ _ _ (State.setPhase_current current) rfl
  · split
    · exact State.energyHeld_setPhase (c := c) (by simp [current]) _
    · exact State.energyHeld_setPhase (c := c) (by simp [State.cutOff, current]) _

/-- What follows keeps an exit energy held. -/
def StaysHeld (s u : State) : Prop := s.energyHeld = true → u.energyHeld = true

theorem StaysHeld.of_current (h : u.engine.current = s.engine.current) : StaysHeld s u := fun held =>
  (State.energyHeld_congr h).trans held

theorem StaysHeld.trans (h : StaysHeld s u) (g : StaysHeld u v) : StaysHeld s v := fun held => g (h held)

/-- An operation that leaves the record of every exit energy held. -/
theorem StaysHeld.of_exit
    (h : ∀ c x, s.engine.current = some c → c.phase = .exit x → x.energyHeld = true → u.energyHeld = true) :
    StaysHeld s u := fun held =>
  have ⟨c, x, current, phase, held⟩ := s.energyHeld_iff.mp held
  h c x current phase held

theorem StaysHeld.levelReached (s : State) : StaysHeld s s.levelReached :=
  StaysHeld.of_exit fun _ _ current phase held => (State.energyHeld_levelReached current phase).trans held

theorem StaysHeld.stepGen (s : State) : StaysHeld s s.stepGen := by
  have landed (g : Generator) : StaysHeld s ({ s with gen := g } : State).levelReached :=
    (StaysHeld.of_current rfl : StaysHeld s { s with gen := g }).trans (StaysHeld.levelReached _)
  unfold State.stepGen
  split
  · dsimp only
    split
    · exact landed _
    · exact StaysHeld.of_current rfl
  · exact StaysHeld.of_current rfl

theorem StaysHeld.escalate (cause : Cause) (current : s.engine.current = some c) (held : x.energyHeld = true) :
    (s.escalate cause x).energyHeld = true := by
  have noted : (x.note cause).energyHeld = true := (ExitRec.note_energyHeld cause x).trans held
  unfold State.escalate
  dsimp only
  split
  · exact (State.energyHeld_setPhase (c := c) (by simp [State.cutOff, current]) _).trans noted
  · exact (State.energyHeld_setPhase (c := c) (by simp [current]) _).trans noted
  · exact (State.energyHeld_setPhase current _).trans noted

theorem StaysHeld.takeHazard (s : State) : StaysHeld s s.takeHazard :=
  StaysHeld.of_exit fun _ _ current phase held => by
    simp only [State.takeHazard, current, phase]
    exact StaysHeld.escalate _ current held

theorem StaysHeld.takeSurge (s : State) : StaysHeld s s.takeSurge :=
  StaysHeld.of_exit fun _ _ current phase held => by
    simp only [State.takeSurge, current, phase]
    exact StaysHeld.escalate _ current held

theorem StaysHeld.takeDoor (s : State) : StaysHeld s s.takeDoor :=
  StaysHeld.of_exit fun c x current phase held => by
    simp only [State.takeDoor, current, phase]
    split
    · exact (State.energyHeld_setPhase current _).trans ((ExitRec.note_energyHeld .door x).trans held)
    · exact (State.energyHeld_of_exit current phase).trans held

theorem StaysHeld.takeEnergyCrit (s : State) : StaysHeld s s.takeEnergyCrit :=
  StaysHeld.of_exit fun _ _ current phase _ => by
    simp only [State.takeEnergyCrit, current, phase]
    exact State.energyHeld_setPhase current _

/-- The engine step of a shedding pass ends in an exit that is energy held (R138, R150). -/
theorem State.energyHeld_takeEnergyPass (current : s.engine.current = some c) : s.takeEnergyPass.energyHeld = true := by
  simp only [State.takeEnergyPass, current]
  split
  · exact State.energyHeld_setPhase current _
  · exact State.energyHeld_setPhase current _
  · exact State.energyHeld_beginExit .energy current

theorem StaysHeld.endWarmup (s : State) : StaysHeld s s.endWarmup :=
  StaysHeld.of_exit fun c x current phase held => by
    obtain ⟨o, ph, f, rs, sf⟩ := c
    obtain rfl : ph = .exit x := phase
    simp only [State.endWarmup, current]
    exact (State.energyHeld_of_exit current rfl).trans held

theorem StaysHeld.endFirstSettle (s : State) : StaysHeld s s.endFirstSettle :=
  StaysHeld.of_exit fun c x current phase held => by
    obtain ⟨o, ph, f, rs, sf⟩ := c
    obtain rfl : ph = .exit x := phase
    simp only [State.endFirstSettle, current]
    exact (State.energyHeld_of_exit current rfl).trans held

theorem StaysHeld.endSecondSettle (s : State) : StaysHeld s s.endSecondSettle :=
  StaysHeld.of_exit fun c x current phase held => by
    obtain ⟨o, ph, f, rs, sf⟩ := c
    obtain rfl : ph = .exit x := phase
    simp only [State.endSecondSettle, current]
    exact (State.energyHeld_of_exit current rfl).trans held

theorem StaysHeld.takeReading (r : Reading) (s : State) : StaysHeld s (s.takeReading r) :=
  StaysHeld.of_exit fun _ _ current phase held => by
    simp only [State.takeReading, current, phase]
    exact (State.energyHeld_of_exit current phase).trans held

theorem StaysHeld.endDwell (s : State) : StaysHeld s s.endDwell :=
  StaysHeld.of_exit fun c x current phase held => by
    have stays : s.energyHeld = true := (State.energyHeld_of_exit current phase).trans held
    simp only [State.endDwell, current, phase]
    split
    · split
      · exact (State.energyHeld_setPhase (c := c) (by simp [current]) _).trans held
      · exact stays
    · exact stays

/-- Where an order is in none of the exits, nothing is energy held. -/
theorem State.not_energyHeld_of_early (current : s.engine.current = some c) (early : c.phase.early = true) :
    s.energyHeld = false := by
  unfold State.energyHeld
  rw [current]
  cases phase : c.phase with
  | exit x => rw [phase] at early; cases early
  | _ => simp [phase]

/-! ### The account -/

/-- Cap class and budgets within their ranges (R142, R149). -/
structure Supplied (s : State) : Prop where
  cap : 1 ≤ s.energy.cap ∧ s.energy.cap ≤ s.params.capCeiling ∧ s.params.capCeiling ≤ 4
  budgets : ∀ st, 4 ≤ s.energy.budgets.of st ∧ s.energy.budgets.of st ≤ 255

/-- Committed consumption within the budget in force, or in an exit energy held by at most 6 above it (R150). -/
def Account (s : State) : Prop :=
  s.committed ≤ s.budget ∨ (s.energyHeld = true ∧ s.committed ≤ s.budget + Config.engineCost)

theorem energyOk_iff (s : State) : EnergyOk s ↔ Supplied s ∧ Account s :=
  ⟨fun ok => ⟨⟨ok.cap, ok.budgets⟩, ok.within⟩, fun ⟨ranged, within⟩ => ⟨ranged.cap, ranged.budgets, within⟩⟩

theorem Supplied.congr (ok : Supplied s) (cap : u.energy.cap = s.energy.cap)
    (budgets : u.energy.budgets = s.energy.budgets) (params : u.params = s.params) : Supplied u :=
  ⟨by rw [cap, params]; exact ok.cap, by rw [budgets]; exact ok.budgets⟩

/-- Committed falls or stays, the budget rises or stays, and what is energy held stays so. -/
theorem Account.mono (ok : Account s) (committed : u.committed ≤ s.committed) (budget : s.budget ≤ u.budget)
    (held : StaysHeld s u) : Account u := by
  rcases ok with within | ⟨inExit, within⟩
  · exact .inl (by omega)
  · exact .inr ⟨held inExit, by omega⟩

/-- With nothing energy held the account is the budget itself. -/
theorem Account.within (ok : Account s) (held : s.energyHeld = false) : s.committed ≤ s.budget :=
  ok.resolve_right fun inExit => by rw [held] at inExit; cases inExit.1

theorem Account.congr (ok : Account s) (lines : SameLines s u) (current : u.engine.current = s.engine.current)
    (energy : u.energy = s.energy) : Account u :=
  ok.mono (State.committed_congr lines (by rw [current]) (by rw [energy])).le
    (State.budget_congr (by rw [energy]) (by rw [energy])).ge (StaysHeld.of_current current)

theorem LineState.counted_of_kind {a b : LineState} (h : a.kind = b.kind) : a.counted = b.counted := by
  cases a <;> cases b <;> first | rfl | cases h

/-- The phases leave line part, engine part and cap part alone. -/
theorem Onward.committed (h : Onward s u) : u.committed = s.committed := by
  have part : u.linePart = s.linePart := by
    simp only [State.linePart, h.profile, LineState.counted_of_kind (h.kind _)]
  simp only [State.committed, part, State.enginePart, h.isSome, State.capPart, h.energy]

theorem Onward.budget (h : Onward s u) : u.budget = s.budget := State.budget_congr (by rw [h.energy]) (by rw [h.energy])

theorem Account.onward (ok : Account s) (h : Onward s u) (held : StaysHeld s u) : Account u :=
  ok.mono h.committed.le h.budget.ge held

theorem Supplied.onward (ok : Supplied s) (h : Onward s u) : Supplied u :=
  ok.congr (by rw [h.energy]) (by rw [h.energy]) h.params

end

/-! ### The shedding pass (R150) -/

section
variable {s u : State}

theorem classCost_mono : Monotone classCost := monotone_nat_of_le_succ fun n => by
  rcases n with _ | _ | _ | _ | n <;> simp [classCost]

theorem Supplied.setCap (ok : Supplied s) {n : Nat} (low : 1 ≤ n) (high : n ≤ s.params.capCeiling) :
    Supplied (s.setCap n) := ⟨⟨low, high, ok.cap.2.2⟩, ok.budgets⟩

theorem Supplied.shedLine (ok : Supplied s) (l : LineNo) : Supplied (s.shedLine l) :=
  ok.congr (by simp [State.shedLine, State.setShed]) (by simp [State.shedLine, State.setShed]) (by simp [State.shedLine])

/-- The lines that a shedding pass can still shed. -/
def State.countedLines (s : State) : Finset LineNo := Finset.univ.filter fun l => (s.line l).state.counted = true

theorem State.countedLines_shedLine (l : LineNo) (s : State) : (s.shedLine l).countedLines = s.countedLines.erase l := by
  ext k
  have kept := (State.moveLine_kept l k .shed .energy (s.setShed (l :: s.energy.shed))).1
  have state : ((s.shedLine l).line k).state = if k = l then .shed else (s.line k).state := kept
  simp only [State.countedLines, Finset.mem_filter, Finset.mem_univ, true_and, Finset.mem_erase, state]
  split
  case isTrue same => simp [same, LineState.counted]
  case isFalse other => simp [other]

theorem State.shedFirst_eq_none_iff (best : Option LineNo) (l : LineNo) (s : State) :
    s.shedFirst best l = none ↔ best = none ∧ (s.line l).state.counted = false := by
  unfold State.shedFirst
  split
  case isTrue counted =>
    rw [counted]
    split
    · simp
    · split <;> simp
  case isFalse not => simp [not]

theorem State.foldl_shedFirst_eq_none_iff (ls : List LineNo) (best : Option LineNo) (s : State) :
    ls.foldl s.shedFirst best = none ↔ best = none ∧ ∀ l ∈ ls, (s.line l).state.counted = false := by
  induction ls generalizing best with
  | nil => simp
  | cons l ls ih =>
    rw [List.foldl_cons, ih, State.shedFirst_eq_none_iff, List.forall_mem_cons, and_assoc]

/-- There is no line to shed exactly when none is counted. -/
theorem State.shedCandidate_eq_none_iff (s : State) :
    s.shedCandidate = none ↔ ∀ l, (s.line l).state.counted = false := by
  rw [State.shedCandidate, State.foldl_shedFirst_eq_none_iff]
  simp [allLines]

theorem State.linePart_eq_zero (h : ∀ l, (s.line l).state.counted = false) : s.linePart = 0 := by
  simp [State.linePart_sum, h]

/-- The end of a shedding pass that found neither a cap step nor a line: only the engine's 6 units can stand above the
budget, and the engine step takes them up. -/
theorem Account.takeEnergyPass (ok : Supplied s) (cap : ¬1 < s.energy.cap)
    (bare : ∀ l, (s.line l).state.counted = false) : Account s.takeEnergyPass := by
  have onward := Onward.takeEnergyPass s
  have floor : 4 ≤ s.budget := (ok.budgets _).1
  have lowest : s.energy.cap = 1 := by have := ok.cap.1; omega
  have part : s.committed = s.enginePart + 4 := by
    rw [State.committed, State.linePart_eq_zero bare, State.capPart, lowest]
    simp [classCost]
  cases current : s.engine.current with
  | none =>
    have none_ : s.enginePart = 0 := by simp [State.enginePart, current]
    refine .inl ?_
    rw [onward.committed, onward.budget]
    omega
  | some c =>
    have some_ : s.enginePart = 6 := by simp [State.enginePart, current, Config.engineCost]
    refine .inr ⟨State.energyHeld_takeEnergyPass current, ?_⟩
    rw [onward.committed, onward.budget, Config.engineCost]
    omega

theorem Account.shedLoop (n : Nat) {s : State} (ok : Supplied s) (room : s.energy.cap - 1 + s.countedLines.card < n) :
    Account (s.shedLoop n) := by
  induction n generalizing s with
  | zero => omega
  | succ n ih =>
    rw [State.shedLoop]
    split
    case isTrue within => exact .inl within
    case isFalse =>
      split
      case isTrue above =>
        refine ih (ok.setCap (Nat.le_sub_one_of_lt above) ((Nat.sub_le _ _).trans ok.cap.2.1)) ?_
        have lines : (s.setCap (s.energy.cap - 1)).countedLines = s.countedLines := rfl
        rw [lines]
        simp only [State.setCap]
        omega
      case isFalse lowest =>
        split
        case h_1 l candidate =>
          refine ih (ok.shedLine l) ?_
          have counted : l ∈ s.countedLines :=
            Finset.mem_filter.mpr ⟨Finset.mem_univ l, State.shedCandidate_counted candidate⟩
          have fewer := Finset.card_erase_lt_of_mem counted
          have cap : (s.shedLine l).energy.cap = s.energy.cap := by simp [State.shedLine, State.setShed]
          rw [State.countedLines_shedLine, cap]
          omega
        case h_2 candidate => exact Account.takeEnergyPass ok lowest ((State.shedCandidate_eq_none_iff s).mp candidate)

/-- The shedding pass establishes the account, however high consumption stands. -/
theorem Account.sheddingPass (ok : Supplied s) : Account s.sheddingPass := by
  refine Account.shedLoop 28 ok ?_
  have lines : s.countedLines.card ≤ 24 := (Finset.card_le_univ _).trans_eq (Fintype.card_fin 24)
  have := ok.cap
  omega

theorem Supplied.shedLoop (n : Nat) {s : State} (ok : Supplied s) : Supplied (s.shedLoop n) := by
  induction n generalizing s with
  | zero => exact ok
  | succ n ih =>
    rw [State.shedLoop]
    split
    · exact ok
    · split
      case isTrue above => exact ih (ok.setCap (Nat.le_sub_one_of_lt above) ((Nat.sub_le _ _).trans ok.cap.2.1))
      case isFalse =>
        split
        · exact ih (ok.shedLine _)
        · exact ok.onward (Onward.takeEnergyPass s)

/-! ### Machines with the lines and the energy account in order -/

/-- The laws of the lines and of the energy account together. -/
structure Metered (s : State) : Prop where
  lines : LinesOk s
  supplied : Supplied s
  account : Account s

theorem Metered.congr (ok : Metered s) (lines : u.lines = s.lines) (energy : u.energy = s.energy)
    (engine : u.engine = s.engine) (flows : u.flows = s.flows) (params : u.params = s.params) : Metered u where
  lines := ok.lines.congr lines (by rw [energy]) engine flows
  supplied := ok.supplied.congr (by rw [energy]) (by rw [energy]) params
  account := ok.account.congr (SameLines.of_lines lines) (by rw [engine]) energy

theorem Metered.traffic (ok : Metered s) (lines : SameLines s u) (energy : u.energy = s.energy)
    (engine : u.engine = s.engine) (flows : NamesWithin s.flows u.flows) (params : u.params = s.params) : Metered u where
  lines := ok.lines.traffic lines (by rw [energy]) engine flows
  supplied := ok.supplied.congr (by rw [energy]) (by rw [energy]) params
  account := ok.account.congr lines (by rw [engine]) energy

theorem Metered.onward (ok : Metered s) (h : Onward s u) (held : StaysHeld s u) : Metered u :=
  ⟨ok.lines.onward h, ok.supplied.onward h, ok.account.onward h held⟩

theorem Metered.notify (ok : Metered s) (n : Notice) : Metered (s.notify n) :=
  ok.congr (by simp) (by simp) (by simp) (by simp) (by simp)

theorem Metered.sheddingPass (lines : LinesOk s) (supplied : Supplied s) : Metered s.sheddingPass :=
  ⟨lines.sheddingPass, supplied.shedLoop 28, Account.sheddingPass supplied⟩

/-! ### The restoring pass (R152) -/

theorem Supplied.moveLine (ok : Supplied s) (l : LineNo) (st : LineState) (c : LineCause) : Supplied (s.moveLine l st c) :=
  ok.congr (by simp) (by simp) (by simp)

theorem Supplied.restoreLine (ok : Supplied s) (l : LineNo) (rest : List LineNo) : Supplied (s.restoreLine l rest) :=
  ok.congr (by simp [State.restoreLine, State.setShed]) (by simp [State.restoreLine, State.setShed])
    (by simp [State.restoreLine])

theorem State.committed_restoreLine {l : LineNo} (shed : (s.line l).state = .shed) (rest : List LineNo) :
    (s.restoreLine l rest).committed = s.committed + s.costOf l := by
  have moved := State.committed_moveLine l (.training s.newDeadline) .restore (s.setShed rest)
  have same : (s.setShed rest).committed = s.committed := rfl
  have line : (s.setShed rest).line l = s.line l := rfl
  rw [line, shed, same] at moved
  have cost : (if (LineState.training s.newDeadline).counted = true then (s.line l).profile.cost else 0) = s.costOf l := rfl
  have none_ : (if LineState.shed.counted = true then (s.line l).profile.cost else 0) = 0 := rfl
  rw [cost, none_, Nat.add_zero] at moved
  have made : s.restoreLine l rest = (s.setShed rest).moveLine l (.training s.newDeadline) .restore := rfl
  rw [made]
  exact moved

theorem Metered.restoreLoop (n : Nat) {s : State} (ok : Metered s) : Metered (s.restoreLoop n) := by
  induction n generalizing s with
  | zero => exact ok
  | succ n ih =>
    rw [State.restoreLoop]
    split
    · exact ok
    case h_2 l rest top =>
      split
      case isFalse => exact ok
      case isTrue admitted =>
        have shed : (s.line l).state = .shed := (ok.lines.shedExactly l).mp (top ▸ List.mem_cons_self)
        refine ih ⟨ok.lines.restoreLine top, ok.supplied.restoreLine l rest, .inl ?_⟩
        have fits : s.committed + s.costOf l ≤ s.budget := by simpa [State.admits] using admitted
        have same : (s.restoreLine l rest).budget = s.budget :=
          State.budget_congr (State.restoreLine_supply l rest s).1 (State.restoreLine_supply l rest s).2.2
        rw [State.committed_restoreLine shed, same]
        exact fits

theorem State.committed_setCap (n : Nat) (s : State) :
    (s.setCap n).committed + classCost s.energy.cap = s.committed + classCost n := by
  have line : (s.setCap n).linePart = s.linePart := rfl
  have engine : (s.setCap n).enginePart = s.enginePart := rfl
  have cap : (s.setCap n).capPart = classCost n := rfl
  have before : s.capPart = classCost s.energy.cap := rfl
  simp only [State.committed, line, engine, cap, before]
  omega

theorem Metered.raiseLoop (n : Nat) {s : State} (ok : Metered s) : Metered (s.raiseLoop n) := by
  induction n generalizing s with
  | zero => exact ok
  | succ n ih =>
    rw [State.raiseLoop]
    split
    case isTrue fits =>
      obtain ⟨below, fits⟩ := fits
      refine ih ⟨ok.lines.setCap _, ok.supplied.setCap (Nat.le_add_left 1 _) below, .inl ?_⟩
      have raised := State.committed_setCap (s.energy.cap + 1) s
      have same : (s.setCap (s.energy.cap + 1)).budget = s.budget := rfl
      omega
    case isFalse => exact ok

theorem Metered.restoringPass (ok : Metered s) : Metered s.restoringPass := (ok.restoreLoop _).raiseLoop 3

/-- The pass after a change: a rise is shed away, whatever it is; after a fall, or none, the account has stood. -/
theorem Metered.passFor (lines : LinesOk s) (supplied : Supplied s) {before after : Nat}
    (stood : ¬before < after → Account s) : Metered (s.passFor before after) := by
  unfold State.passFor
  split
  case isTrue => exact Metered.sheddingPass lines supplied
  case isFalse fall =>
    have ok : Metered s := ⟨lines, supplied, stood fall⟩
    split
    · exact ok.restoringPass
    · exact ok

theorem Metered.budgetPass (lines : LinesOk s) (supplied : Supplied s) {before : Nat}
    (stood : ¬s.budget < before → Account s) : Metered (s.budgetPass before) := by
  unfold State.budgetPass
  split
  case isTrue => exact Metered.sheddingPass lines supplied
  case isFalse rise =>
    have ok : Metered s := ⟨lines, supplied, stood rise⟩
    split
    · exact ok.restoringPass
    · exact ok

/-! ### Orders (R107 to R110, R125) -/

/-- The account does not look at the queue and the results. -/
theorem Metered.engine (ok : Metered s) (e : Engine) (current : e.current = s.engine.current)
    (queue : ∀ o ∈ e.queue, o ∈ s.engine.queue) : Metered { s with engine := e } where
  lines := ok.lines.frame rfl rfl (by simp only [State.underTest, current]) (NamesWithin.of_eq rfl) queue
  supplied := ok.supplied.congr rfl rfl rfl
  account := ok.account.congr (SameLines.refl s) current rfl

theorem Metered.dequeue (ok : Metered s) (o : TestOrder) : Metered (s.dequeue o) :=
  ok.engine _ rfl fun _ ho => (List.mem_filter.mp ho).1

theorem Metered.storeResult (ok : Metered s) (r : Result) : Metered (s.storeResult r) := by
  obtain ⟨queue, current, -⟩ := Engine.store_queue r s.engine
  exact (ok.engine (s.engine.store r) current fun _ ho => queue ▸ ho).notify _

theorem Metered.removeOrder (ok : Metered s) (cause : Cause) (o : TestOrder) : Metered (State.removeOrder cause s o) :=
  (ok.dequeue o).storeResult _

theorem Metered.removeOrders (ok : Metered s) (cause : Cause) (os : List TestOrder) :
    Metered (os.foldl (State.removeOrder cause) s) :=
  List.foldlRecOn (motive := Metered) os _ ok fun _ ok o _ => ok.removeOrder cause o

theorem Metered.refuseOrder (ok : Metered s) (o : TestOrder) : Metered (s.refuseOrder o) := (ok.dequeue o).storeResult _

/-- The machine with order o taken, before the pass of R110. -/
theorem State.committed_take (idle : s.engine.current = none) (o : TestOrder) (target : Target) :
    (((s.dequeue o).withdraw o.line target).makeCurrent o).committed +
      (if (s.line o.line).state.counted then s.costOf o.line else 0) = s.committed + 6 := by
  have moved := State.committed_moveLine o.line (.withdrawn target .offBus) .test
    ((s.dequeue o).setShed ((s.dequeue o).energy.shed.filter fun k => k != o.line))
  have before : ((s.dequeue o).setShed ((s.dequeue o).energy.shed.filter fun k => k != o.line)).committed = s.committed :=
    rfl
  have line : ((s.dequeue o).setShed ((s.dequeue o).energy.shed.filter fun k => k != o.line)).line o.line =
    s.line o.line := rfl
  have withdrawn : (if (LineState.withdrawn target .offBus).counted = true then (s.line o.line).profile.cost else 0) = 0 :=
    rfl
  rw [before, line, withdrawn] at moved
  have engine : ((s.dequeue o).withdraw o.line target).enginePart = 0 := by
    simp [State.enginePart, State.withdraw, idle]
  have taken : (((s.dequeue o).withdraw o.line target).makeCurrent o).committed =
      ((s.dequeue o).withdraw o.line target).committed + 6 := by
    have lines : (((s.dequeue o).withdraw o.line target).makeCurrent o).linePart =
        ((s.dequeue o).withdraw o.line target).linePart := rfl
    have cap : (((s.dequeue o).withdraw o.line target).makeCurrent o).capPart =
        ((s.dequeue o).withdraw o.line target).capPart := rfl
    have now : (((s.dequeue o).withdraw o.line target).makeCurrent o).enginePart = 6 := rfl
    simp only [State.committed, lines, cap, now, engine]
    omega
  rw [taken]
  have part : (if (s.line o.line).state.counted then s.costOf o.line else 0) =
    if (s.line o.line).state.counted then (s.line o.line).profile.cost else 0 := rfl
  rw [part]
  simp only [State.withdraw]
  omega

/-- What an attempt that takes has found (R108). -/
theorem State.canTake_within {o : TestOrder} (can : s.canTake o = true)
    (interrupts : (s.line o.line).state.counted = true → o.interrupt = true) :
    s.committed + 6 ≤ s.budget + if (s.line o.line).state.counted then s.costOf o.line else 0 := by
  have fits : s.committed + 6 ≤ s.budget + s.releasedBy o := by
    simp only [State.canTake, Bool.and_eq_true, decide_eq_true_eq] at can
    exact can.2
  rw [State.releasedBy] at fits
  cases counted : (s.line o.line).state.counted with
  | false => simpa [counted] using fits
  | true => simpa [counted, interrupts counted] using fits

theorem Metered.acquire (ok : Metered s) (idle : s.engine.current = none) {o : TestOrder} (target : Target)
    (can : s.canTake o = true) (interrupts : (s.line o.line).state.counted = true → o.interrupt = true) :
    Metered (s.acquire o target) := by
  refine Metered.passFor (ok.lines.take idle o target) ?_ fun _ => .inl ?_
  · exact ok.supplied.congr (by simp [State.withdraw, State.setShed]) (by simp [State.withdraw, State.setShed])
      (by simp [State.withdraw])
  · have taken := State.committed_take idle o target
    have fits := State.canTake_within can interrupts
    have budget : (((s.dequeue o).withdraw o.line target).makeCurrent o).budget = s.budget :=
      State.budget_congr (by simp [State.withdraw, State.setShed]) (by simp [State.withdraw, State.setShed])
    rw [budget]
    omega

theorem Metered.attemptLoop (n : Nat) {s : State} (ok : Metered s) : Metered (s.attemptLoop n) := by
  induction n generalizing s with
  | zero => exact ok
  | succ n ih =>
    have refused (o : TestOrder) : Metered ((s.refuseOrder o).attemptLoop n) := ih (ok.refuseOrder o)
    rw [State.attemptLoop]
    split
    · exact ok
    case isFalse free =>
      have idle : s.engine.current = none := by simpa using free
      split
      · exact ok
      case h_2 o _ =>
        split
        case isFalse => exact ok
        case isTrue can =>
          have take (target : Target) (h : (s.line o.line).state.counted = true → o.interrupt = true) :
              Metered (s.acquire o target) := ok.acquire idle target can h
          split
          case h_1 state => exact take _ (by rw [state]; nofun)
          case h_2 state => exact take _ (by rw [state]; nofun)
          case h_3 =>
            split
            case isTrue interrupt => exact take _ fun _ => interrupt
            case isFalse => exact refused _
          case h_4 =>
            split
            case isTrue interrupt => exact take _ fun _ => interrupt
            case isFalse => exact refused _
          case h_5 state => exact take _ (by rw [state]; nofun)
          case h_6 => exact ok
          case h_7 => exact ok

theorem Metered.attempt (ok : Metered s) : Metered s.attempt := ok.attemptLoop _

theorem Metered.attemptIfMoved (ok : Metered s) (before : Nat) : Metered (s.attemptIfMoved before) := by
  unfold State.attemptIfMoved
  split
  · exact ok
  · exact ok.attempt

/-- What follows a change of committed consumption that began within the account. -/
theorem Metered.settleChange (lines : LinesOk s) (supplied : Supplied s) {before : Nat}
    (stood : s.committed ≤ before → Account s) : Metered (s.settleChange before) := by
  unfold State.settleChange
  split
  case isTrue same => exact ⟨lines, supplied, stood same.le⟩
  case isFalse => exact (Metered.passFor lines supplied fun fall => stood (Nat.le_of_not_lt fall)).attempt

/-! ### The end of an order (R118, R119, R136) -/

/-- The line part of the return is admitted before the engine's 6 units go. -/
theorem Metered.reported (ok : Metered s) {c : Current} (current : s.engine.current = some c) :
    Metered (s.reported c) := by
  obtain ⟨r, resolved, line, energy, engine, -, -, -, params⟩ := State.reported_spec c s
  refine ⟨ok.lines.reported current, ok.supplied.congr (by rw [energy]) (by rw [energy]) params, .inl ?_⟩
  obtain ⟨target, conn, under⟩ : ∃ t d, (s.line c.order.line).state = .withdrawn t d := by
    have kind := (ok.lines.withdrawnExactly c.order.line).mpr ⟨c, current, rfl⟩
    cases state : (s.line c.order.line).state with
    | withdrawn t d => exact ⟨t, d, rfl⟩
    | _ => rw [state] at kind; cases kind
  have part := State.linePart_moved line
  have before : s.enginePart = 6 := by simp [State.enginePart, current, Config.engineCost]
  have after : (s.reported c).enginePart = 0 := by simp [State.enginePart, engine]
  have cap : (s.reported c).capPart = s.capPart := by simp [State.capPart, energy]
  have budget : (s.reported c).budget = s.budget := State.budget_congr (by rw [energy]) (by rw [energy])
  have within : s.committed ≤ s.budget + 6 := ok.account.elim (fun h => h.trans (Nat.le_add_right _ 6)) And.right
  simp only [under, LineState.counted, Bool.false_eq_true, if_false, Nat.add_zero] at part
  simp only [State.committed, before, after, cap, part, budget] at within ⊢
  cases back : r with
  | training =>
    obtain ⟨-, admitted⟩ := State.resolveReturn_training (resolved.symm.trans back)
    have fits : s.committed + (s.line c.order.line).profile.cost ≤ s.budget := of_decide_eq_true admitted
    simp only [State.committed, before] at fits
    simp only [ReturnState.lineState, if_true]
    omega
  | idle => simp only [ReturnState.lineState, Bool.false_eq_true, if_false]; omega
  | shed => simp only [ReturnState.lineState, Bool.false_eq_true, if_false]; omega
  | quarantined q => simp only [ReturnState.lineState, Bool.false_eq_true, if_false]; omega

theorem Metered.finishOrder (ok : Metered s) {c : Current} (current : s.engine.current = some c) :
    Metered (s.finishOrder c) := (ok.reported current).restoringPass.attempt

theorem Metered.endRelease (ok : Metered s) : Metered s.endRelease := by
  unfold State.endRelease
  split
  · exact ok
  case h_2 c current =>
    split
    · split
      · exact ok.finishOrder current
      · exact ok
    · exact ok

theorem Metered.endExit (ok : Metered s) : Metered s.endExit := by
  unfold State.endExit
  split
  · exact ok
  case h_2 c current =>
    split
    · split
      · split
        · exact ok.finishOrder current
        · exact ok
      · exact ok
    · exact ok

end

end Sys2Proof.Machine
end

section
/-! The energy account through the supply, the budgets, the cap ceiling, the requests and every step (R142 to R153). -/

namespace Sys2Proof.Machine

variable {s u v : State}

/-! ### Changes of lines that commit no more than before -/

/-- Consumption does not rise, and supply, cap, engine and parameters stay. -/
structure Cheaper (s u : State) : Prop where
  committed : u.committed ≤ s.committed
  supply : u.energy.supply = s.energy.supply
  budgets : u.energy.budgets = s.energy.budgets
  cap : u.energy.cap = s.energy.cap
  current : u.engine.current = s.engine.current
  params : u.params = s.params

theorem Cheaper.trans (h : Cheaper s u) (g : Cheaper u v) : Cheaper s v where
  committed := g.committed.trans h.committed
  supply := g.supply.trans h.supply
  budgets := g.budgets.trans h.budgets
  cap := g.cap.trans h.cap
  current := g.current.trans h.current
  params := g.params.trans h.params

theorem Metered.cheaper (ok : Metered s) (lines : LinesOk u) (h : Cheaper s u) : Metered u where
  lines := lines
  supplied := ok.supplied.congr h.cap h.budgets h.params
  account := ok.account.mono h.committed (State.budget_congr h.supply h.budgets).ge (StaysHeld.of_current h.current)

theorem Cheaper.of_sameLines (lines : SameLines s u) (energy : u.energy = s.energy) (engine : u.engine = s.engine)
    (params : u.params = s.params) : Cheaper s u where
  committed := (State.committed_congr lines (by rw [engine]) (by rw [energy])).le
  supply := by rw [energy]
  budgets := by rw [energy]
  cap := by rw [energy]
  current := by rw [engine]
  params := params

theorem Cheaper.refl (s : State) : Cheaper s s := Cheaper.of_sameLines (SameLines.refl s) rfl rfl rfl

theorem Cheaper.setFail (l : LineNo) (n : Nat) (s : State) : Cheaper s (s.setFail l n) :=
  Cheaper.of_sameLines (SameLines.setFail l n s) rfl rfl rfl

theorem Cheaper.moveLine {l : LineNo} {st : LineState} (c : LineCause)
    (less : st.counted = true → (s.line l).state.counted = true) : Cheaper s (s.moveLine l st c) where
  committed := by
    have moved := State.committed_moveLine l st c s
    cases target : st.counted with
    | false => simp only [target, Bool.false_eq_true, if_false] at moved; omega
    | true => simp only [target, less target, if_true] at moved; omega
  supply := by simp
  budgets := by simp
  cap := by simp
  current := by simp
  params := by simp

theorem Cheaper.setShed (ls : List LineNo) (s : State) : Cheaper s (s.setShed ls) where
  committed := le_of_eq (State.committed_congr (SameLines.refl s) rfl rfl)
  supply := rfl
  budgets := rfl
  cap := rfl
  current := rfl
  params := rfl

/-- An edit of the return target: the line is WITHDRAWN before and after. -/
theorem Cheaper.editTarget {l : LineNo} {t₀ : Target} {c₀ : Conn} (under : (s.line l).state = .withdrawn t₀ c₀)
    (t : Target) (c : Conn) : Cheaper s (s.editTarget l t c) where
  committed := by
    have edited (k : LineNo) : ((s.editTarget l t c).line k).state =
        (if k = l then .withdrawn t c else (s.line k).state) ∧
        ((s.editTarget l t c).line k).profile = (s.line k).profile := by
      simp only [State.editTarget, State.line_setLineState]
      split
      case isTrue same => exact ⟨rfl, same ▸ rfl⟩
      case isFalse => exact ⟨rfl, rfl⟩
    have part := State.linePart_moved edited
    have engine : (s.editTarget l t c).enginePart = s.enginePart := rfl
    have cap : (s.editTarget l t c).capPart = s.capPart := rfl
    simp only [under, LineState.counted, Bool.false_eq_true, if_false, Nat.add_zero] at part
    simp only [State.committed, part, engine, cap, le_refl]
  supply := rfl
  budgets := rfl
  cap := rfl
  current := rfl
  params := rfl

/-! ### Requests and indications of the lines (R7 to R9, R16 to R22) -/

theorem Metered.syncUp (ok : Metered s) (l : LineNo) : Metered (s.syncUp l) := by
  refine ok.cheaper (ok.lines.syncUp l) ?_
  unfold State.syncUp
  split
  case h_1 d state =>
    refine (Cheaper.setFail l 0 s).trans (Cheaper.moveLine _ fun _ => ?_)
    rw [(SameLines.setFail l 0 s l).1, state]
    rfl
  case h_2 => exact Cheaper.refl s

theorem Metered.syncLost (ok : Metered s) (l : LineNo) : Metered (s.syncLost l) := by
  refine ok.cheaper (ok.lines.syncLost l) ?_
  unfold State.syncLost
  split
  case h_1 state => exact Cheaper.moveLine _ fun _ => state ▸ rfl
  case h_2 => exact Cheaper.refl s

/-- A line moves, and what its move committed is settled. -/
theorem Metered.settleMove (ok : Metered s) {l : LineNo} {st : LineState} {c : LineCause}
    (lines : LinesOk (s.moveLine l st c)) : Metered ((s.moveLine l st c).settleChange s.committed) :=
  Metered.settleChange lines (ok.supplied.moveLine l st c) fun fall =>
    ok.account.mono fall (State.budget_moveLine l st c s).ge (StaysHeld.of_current (by simp))

theorem Metered.setFail (ok : Metered s) (l : LineNo) (n : Nat) : Metered (s.setFail l n) :=
  ok.cheaper (ok.lines.setFail l n) (Cheaper.setFail l n s)

theorem Metered.deadlineExpires (ok : Metered s) (l : LineNo) : Metered (s.deadlineExpires l) := by
  unfold State.deadlineExpires
  split
  case h_1 d state =>
    split
    · obtain ⟨free, equipped⟩ := afterExpiry_kind (min 7 ((s.line l).failCount + 1)) s.params.failLimit
      have failed := ok.setFail l (min 7 ((s.line l).failCount + 1))
      have same : (s.setFail l (min 7 ((s.line l).failCount + 1))).committed = s.committed :=
        State.committed_congr (SameLines.setFail l _ s) rfl rfl
      dsimp only
      rw [← same]
      refine failed.settleMove (failed.lines.moveLine _ ?_ free fun gone => absurd gone equipped)
      rw [(SameLines.setFail l _ s).kinds, State.kinds, state]
      exact ⟨nofun, nofun⟩
    · exact ok
  case h_2 => exact ok

theorem Metered.lineStart (ok : Metered s) (l : LineNo) : Metered (s.lineStart l).2 := by
  unfold State.lineStart
  split
  case h_1 state =>
    split
    · exact ok.settleMove (ok.lines.moveLine _ (by rw [State.kinds, state]; exact ⟨nofun, nofun⟩) ⟨nofun, nofun⟩ nofun)
    · exact ok
  case h_5 _ _ _ under => exact ok.cheaper (ok.lines.editTarget under _ _) (Cheaper.editTarget under _ _)
  all_goals exact ok

theorem Metered.lineStop (ok : Metered s) (l : LineNo) : Metered (s.lineStop l).2 := by
  have stopped (free : (s.kinds l).Free) : Metered ((s.moveLine l .idle .request).settleChange s.committed) :=
    ok.settleMove (ok.lines.moveLine _ free ⟨nofun, nofun⟩ nofun)
  have lines := ok.lines.lineStop l
  unfold State.lineStop at lines ⊢
  split
  case h_1 d state => exact stopped (by rw [State.kinds, state]; exact ⟨nofun, nofun⟩)
  case h_2 state => exact stopped (by rw [State.kinds, state]; exact ⟨nofun, nofun⟩)
  case h_4 state =>
    rw [state] at lines
    exact ok.cheaper lines ((Cheaper.setShed _ s).trans (Cheaper.moveLine _ nofun))
  case h_6 _ _ _ under => exact ok.cheaper (ok.lines.editTarget under _ _) (Cheaper.editTarget under _ _)
  all_goals exact ok

theorem Metered.lineClear (ok : Metered s) (l : LineNo) : Metered (s.lineClear l).2 := by
  refine ok.cheaper (ok.lines.lineClear l) ?_
  unfold State.lineClear
  split
  case h_1 => exact (Cheaper.setFail l 0 s).trans (Cheaper.moveLine _ nofun)
  case h_2 q c under =>
    exact (Cheaper.setFail l 0 s).trans (Cheaper.editTarget ((SameLines.setFail l 0 s l).1.trans under) _ _)
  case h_3 => exact Cheaper.refl s

theorem Metered.lineEquip (ok : Metered s) (l : LineNo) : Metered (s.lineEquip l).2 := by
  refine ok.cheaper (ok.lines.lineEquip l) ?_
  unfold State.lineEquip
  split
  · exact Cheaper.refl s
  · exact (Cheaper.setFail l 0 s).trans (Cheaper.moveLine _ nofun)

theorem Metered.lineUnequip (ok : Metered s) (l : LineNo) : Metered (s.lineUnequip l).2 := by
  refine ok.cheaper (ok.lines.lineUnequip l) ?_
  have gone : Cheaper s ((s.setFail l 0).moveLine l .unequipped .request) :=
    (Cheaper.setFail l 0 s).trans (Cheaper.moveLine _ nofun)
  unfold State.lineUnequip
  split
  · split
    · exact Cheaper.refl s
    · exact gone
  · split
    · exact Cheaper.refl s
    · exact gone
  · exact Cheaper.refl s

theorem Metered.lineProfile (ok : Metered s) (l : LineNo) (p : Profile) : Metered (s.lineProfile l p).2 := by
  unfold State.lineProfile
  split
  · exact ok
  · split
    · exact ok
    · have lines : LinesOk (s.setLine l fun r => { r with profile := p }) := ok.lines.setLine l fun _ => rfl
      have supplied : Supplied (s.setLine l fun r => { r with profile := p }) := ok.supplied.congr rfl rfl rfl
      exact Metered.settleChange lines supplied fun fall =>
        ok.account.mono fall (State.budget_congr rfl rfl).ge (StaysHeld.of_current rfl)

theorem Metered.lineQuery (ok : Metered s) (l : LineNo) (clear : Bool) : Metered (s.lineQuery l clear).2 := by
  refine ok.cheaper (ok.lines.lineQuery l clear) ?_
  unfold State.lineQuery
  dsimp only
  split
  · exact Cheaper.of_sameLines (SameLines.setLine l s fun _ => ⟨rfl, rfl⟩) rfl rfl rfl
  · exact Cheaper.refl s

/-! ### Supply, budgets and the cap ceiling (R143 to R149) -/

/-- The pass and the attempt that follow a change of the budget in force, the account having stood at the old one. -/
theorem Metered.budgetMoved {before : Nat} (lines : LinesOk s) (supplied : Supplied s)
    (stood : s.committed ≤ before ∨ (s.energyHeld = true ∧ s.committed ≤ before + Config.engineCost)) :
    Metered (s.budgetPass before) := by
  refine Metered.budgetPass lines supplied fun rise => ?_
  rcases stood with within | ⟨held, within⟩
  · exact .inl (by omega)
  · exact .inr ⟨held, by omega⟩

theorem Metered.changeSupply (ok : Metered s) (new : Supply) (source : SupplySource) :
    Metered (s.changeSupply new source) := by
  have entered : LinesOk { s with energy := { s.energy with supply := new, source := source } } :=
    ok.lines.congr rfl rfl rfl rfl
  have moved (n : Notice) (u : State)
      (h : Onward (State.notify n { s with energy := { s.energy with supply := new, source := source } }) u)
      (held : StaysHeld (State.notify n { s with energy := { s.energy with supply := new, source := source } }) u) :
      Metered (u.budgetPass s.budget) := by
    refine Metered.budgetMoved ((entered.notify n).onward h) ?_ ?_
    · exact (ok.supplied.congr (by simp) (by simp) (by simp)).onward h
    · have same : u.committed = s.committed :=
        h.committed.trans (State.committed_congr (SameLines.of_lines (by simp)) (by simp) (by simp))
      rw [same]
      refine ok.account.imp id fun ⟨inExit, within⟩ => ⟨held ?_, within⟩
      exact (State.energyHeld_congr (by simp)).trans inExit
  unfold State.changeSupply
  refine Metered.attempt ?_
  split
  · exact moved _ _ (Onward.takeEnergyCrit _) (StaysHeld.takeEnergyCrit _)
  · exact moved _ _ (Onward.refl _) (StaysHeld.of_current rfl)

theorem Budgets.of_put (b : Budgets) (st v : Supply) (n : Nat) :
    (b.put st n).of v = n ∨ (b.put st n).of v = b.of v := by
  cases st <;> cases v <;> first | exact .inl rfl | exact .inr rfl

theorem Metered.putBudget (ok : Metered s) (st : Supply) {n : Nat} (range : 4 ≤ n ∧ n ≤ 255) :
    Metered (s.putBudget st n) := by
  have lines : LinesOk { s with energy := { s.energy with budgets := s.energy.budgets.put st n } } :=
    ok.lines.congr rfl rfl rfl rfl
  have supplied : Supplied { s with energy := { s.energy with budgets := s.energy.budgets.put st n } } := by
    refine ⟨ok.supplied.cap, fun v => ?_⟩
    dsimp only
    rcases s.energy.budgets.of_put st v n with put | other
    · rw [put]
      exact range
    · rw [other]
      exact ok.supplied.budgets v
  unfold State.putBudget
  dsimp only
  split
  case isTrue same => exact ⟨lines, supplied, ok.account.mono le_rfl same.ge (StaysHeld.of_current rfl)⟩
  case isFalse =>
    refine Metered.attempt (Metered.budgetMoved (lines.notify _) ?_ ?_)
    · exact supplied.congr (by simp) (by simp) (by simp)
    · refine ok.account.imp (fun within => ?_) fun ⟨inExit, within⟩ => ⟨?_, ?_⟩
      · exact (State.committed_congr (SameLines.of_lines (by simp)) (by simp) (by simp)).trans_le within
      · exact (State.energyHeld_congr (by simp)).trans inExit
      · exact (State.committed_congr (SameLines.of_lines (by simp)) (by simp) (by simp)).trans_le within

theorem Metered.budgetSet (ok : Metered s) (st : Option Supply) (n : Nat) : Metered (s.budgetSet st n).2 := by
  unfold State.budgetSet
  split
  · exact ok
  · split
    · exact ok
    case isFalse range => exact ok.putBudget _ (by simpa [budgetOk] using range)

theorem Params.put_capCeiling (p : Params) {id v : Nat} (ok : paramOk id v = true) (other : id ≠ 10) :
    (p.put id v).capCeiling = p.capCeiling := by
  rcases (paramOk_iff id v).mp ok with ⟨rfl, _⟩ | ⟨rfl, _⟩ | ⟨rfl, _⟩ | ⟨rfl, _⟩ | ⟨rfl, _⟩ | ⟨rfl, _⟩ | ⟨rfl, _⟩ |
    ⟨rfl, _⟩ | ⟨rfl, _⟩ | ⟨rfl, _⟩
  case inr.inr.inr.inr.inr.inr.inr.inr.inr => exact absurd rfl other
  all_goals rfl

/-- A ceiling lowered under the cap class lowers the cap class; the passes do the rest (R149). -/
theorem Metered.ceilingSet (lines : LinesOk s) (account : Account s)
    (range : 1 ≤ s.params.capCeiling ∧ s.params.capCeiling ≤ 4) (cap : 1 ≤ s.energy.cap)
    (budgets : ∀ st, 4 ≤ s.energy.budgets.of st ∧ s.energy.budgets.of st ≤ 255) (old : Nat) :
    Metered (s.ceilingSet old) := by
  unfold State.ceilingSet
  split
  case isTrue above =>
    have lowered : Metered (s.setCap s.params.capCeiling) := by
      refine ⟨lines.setCap _, ⟨⟨range.1, le_rfl, range.2⟩, budgets⟩, ?_⟩
      have moved := State.committed_setCap s.params.capCeiling s
      have cost := classCost_mono above.le
      exact account.mono (by omega) le_rfl (StaysHeld.of_current rfl)
    exact lowered.restoringPass.attempt
  case isFalse below =>
    have ok : Metered s := ⟨lines, ⟨⟨cap, Nat.le_of_not_lt below, range.2⟩, budgets⟩, account⟩
    split
    · exact ok.restoringPass.attemptIfMoved _
    · exact ok

theorem Metered.setParameter (ok : Metered s) (id value : Nat) : Metered (s.setParameter id value).2 := by
  unfold State.setParameter
  split
  · exact ok
  case isFalse refused =>
    split
    · exact ok
    · have taken : paramOk id value = true := by simpa using refused
      have lines : LinesOk { s with params := s.params.put id value } := ok.lines.congr rfl rfl rfl rfl
      have account : Account { s with params := s.params.put id value } := ok.account.congr (SameLines.refl s) rfl rfl
      unfold State.putParameter
      dsimp only
      split
      case isTrue ceiling =>
        subst ceiling
        have range : 1 ≤ value ∧ value ≤ 4 := by simpa [paramOk] using taken
        exact Metered.ceilingSet lines account range ok.supplied.cap.1 ok.supplied.budgets _
      case isFalse other =>
        refine ⟨lines, ⟨?_, ok.supplied.budgets⟩, account⟩
        have same : ({ s with params := s.params.put id value } : State).params.capCeiling = s.params.capCeiling :=
          s.params.put_capCeiling taken other
        rw [same]
        exact ok.supplied.cap

/-! ### Flow and test requests -/

theorem Metered.flows (ok : Metered s) (lines : LinesOk u) (states : SameLines s u) (energy : u.energy = s.energy)
    (engine : u.engine = s.engine) (params : u.params = s.params) : Metered u :=
  ok.cheaper lines (Cheaper.of_sameLines states energy engine params)

theorem SameLines.flowPut (k : FlowIdx) (c : FlowContent) (s : State) : SameLines s (s.flowPut k c).2 := by
  unfold State.flowPut
  split
  · exact SameLines.refl s
  · split
    · exact SameLines.refl s
    · exact SameLines.install k _ s

theorem SameLines.flowPlace (c : FlowContent) (s : State) : SameLines s (s.flowPlace c).2 := by
  unfold State.flowPlace
  split
  · exact SameLines.refl s
  · split
    · exact SameLines.refl s
    · split
      · exact SameLines.refl s
      · exact SameLines.install _ _ s

theorem Metered.testOrder (ok : Metered s) (p : PortId) (l : LineNo) (i q c : Bool) (steps : List RawStep) :
    Metered (s.testOrder p l i q c steps).2 := by
  unfold State.testOrder
  split
  · exact ok
  · split
    · exact ok
    case isFalse equipped =>
      split
      · exact ok
      · split
        · exact ok
        · split
          · exact ok
          · refine Metered.attempt (ok.cheaper (ok.lines.enqueue (by simpa using equipped)) ?_)
            exact ⟨(State.committed_congr (SameLines.refl s) rfl rfl).le, rfl, rfl, rfl, rfl, rfl⟩

theorem State.removeOrders_current (cause : Cause) (os : List TestOrder) (s : State) :
    (os.foldl (State.removeOrder cause) s).engine.current = s.engine.current :=
  List.foldlRecOn (motive := fun u : State => u.engine.current = s.engine.current) os _ rfl fun u hu o _ => by
    rw [← hu]
    simp [State.removeOrder, State.storeResult, (Engine.store_queue _ _).2.1]

/-- An exit begun from an early phase: nothing was energy held. -/
theorem Metered.beginExit (ok : Metered s) {c : Current} (current : s.engine.current = some c)
    (early : c.phase.early = true) (cause : Cause) : Metered (s.beginExit cause) :=
  ok.onward (Onward.beginExit cause s) fun held => by
    rw [State.not_energyHeld_of_early current early] at held
    cases held

theorem Metered.testCancel (ok : Metered s) (p : PortId) (id : Nat) : Metered (s.testCancel p id).2 := by
  unfold State.testCancel
  split
  · split
    · exact ok
    · exact (ok.removeOrder .cancel _).attempt
  · split
    · exact ok
    case h_2 c current =>
      split
      · exact ok
      · split
        · exact ok
        · split
          case isTrue early => exact ok.beginExit current early .cancel
          case isFalse => exact ok

theorem Metered.testResult (ok : Metered s) (p : PortId) (oldest : Bool) (id : Nat) :
    Metered (s.testResult p oldest id).2 := by
  unfold State.testResult
  split
  · exact ok
  · exact ok.engine _ rfl fun _ ho => ho

theorem Metered.testHalt (ok : Metered s) : Metered s.testHalt.2 := by
  have removed := ok.removeOrders .halt s.engine.queue
  unfold State.testHalt
  dsimp only
  split
  · exact removed
  case h_2 c current =>
    split
    case isTrue early => exact removed.beginExit ((State.removeOrders_current _ _ s).trans current) early .halt
    case isFalse => exact removed

/-! ### Every step -/

theorem metered_steady : Steady Metered where
  notice n _ ok := ok.notify n
  points _ _ _ ok := ok.congr rfl rfl rfl rfl rfl
  source _ s ok :=
    ok.cheaper (ok.lines.congr rfl rfl rfl rfl)
      ⟨(State.committed_congr (SameLines.refl s) rfl rfl).le, rfl, rfl, rfl, rfl, rfl⟩
  attempt _ ok := ok.attempt
  surge s ok := ok.onward (Onward.takeSurge s) (StaysHeld.takeSurge s)
  door s ok := ok.onward (Onward.takeDoor s) (StaysHeld.takeDoor s)
  removed cause os _ _ ok := ok.removeOrders cause os
  changeSupply new source _ ok := ok.changeSupply new source

theorem metered_requests : Requests Metered where
  clearStatus _ ok := ok.congr (by simp) (by simp) (by simp) (by simp) (by simp)
  setParameter id value _ ok := ok.setParameter id value
  fetch _ ok := ok.congr (by simp) (by simp) (by simp) (by simp) (by simp)
  lineStart l _ ok := ok.lineStart l
  lineStop l _ ok := ok.lineStop l
  lineProfile l p _ ok := ok.lineProfile l p
  lineClear l _ ok := ok.lineClear l
  lineQuery l clear _ ok := ok.lineQuery l clear
  lineEquip l _ ok := ok.lineEquip l
  lineUnequip l _ ok := ok.lineUnequip l
  flowPut k c s ok := ok.flows (ok.lines.flowPut k c) (SameLines.flowPut k c s) (by simp) (by simp) (by simp)
  flowPlace c s ok := ok.flows (ok.lines.flowPlace c) (SameLines.flowPlace c s) (by simp) (by simp) (by simp)
  flowDrop k s ok :=
    ok.traffic (SameLines.of_lines (by simp)) (by simp) (by simp) (NamesWithin.flowDrop k s) (by simp)
  flowClear b s ok :=
    ok.traffic (SameLines.of_lines (by simp)) (by simp) (by simp) (NamesWithin.flowClear b s) (by simp)
  testOrder p l i q c steps _ ok := ok.testOrder p l i q c steps
  testCancel p id _ ok := ok.testCancel p id
  testResult p oldest id _ ok := ok.testResult p oldest id
  testHalt _ ok := ok.testHalt
  supply st _ ok := metered_steady.supplyRequest st ok
  budgetSet st n _ ok := ok.budgetSet st n
  pointAssign p f pol _ ok := metered_steady.pointAssign p f pol ok
  pointDrive p active _ ok := metered_steady.pointDrive p active ok

theorem Metered.startWith {st : Settings} (ranged : st.Ranged) (v : SettingsStatus) (cause : StartCause) (s : State) :
    Metered (s.startWith st v cause).sheddingPass := by
  refine Metered.sheddingPass (LinesOk.startWith st v cause s) ⟨?_, ranged.budgets⟩
  have ceiling := ranged.params.capCeiling
  exact ⟨ceiling.1, le_rfl, ceiling.2⟩

theorem Metered.start (cause : StartCause) (s : State) : Metered (s.start cause) := by
  have begun {st : Settings} (ranged : st.Ranged) (v : SettingsStatus) (u : State) :
      Metered (u.startWith st v cause).sheddingPass.startSurgeNotice :=
    (Metered.startWith ranged v cause u).congr (by simp) (by simp) (by simp) (by simp) (by simp)
  unfold State.start
  dsimp only
  split
  case isTrue good => exact begun (Settings.ofWords_ranged_of_good good) _ _
  case isFalse => exact begun Settings.default_ranged _ _

theorem metered_kept : Kept Metered where
  time _ _ ok := ok.congr (by simp) (by simp) (by simp) (by simp) (by simp)
  recv _ _ _ ok := ok.congr (by simp) (by simp) (by simp) (by simp) (by simp)
  job _ _ _ ok := ok.congr (by simp) (by simp) (by simp) (by simp) (by simp)
  fault _ _ _ ok := ok.congr (by simp) (by simp) (by simp) (by simp) (by simp)
  inForce _ ok := ok.congr (by simp) (by simp) (by simp) (by simp) (by simp)
  saved _ _ _ _ ok := ok.congr (by simp) (by simp) (by simp) (by simp) (by simp)
  power _ _ _ ok := ok.congr (by simp) (by simp) (by simp) (by simp) (by simp)
  queue _ _ ok := ok.congr (by simp) (by simp) (by simp) (by simp) (by simp)
  start cause s _ := Metered.start cause s
  own p r _ ok := metered_requests.own p r ok
  syncUp l _ ok := ok.syncUp l
  syncLost l _ ok := ok.syncLost l
  deadline l _ ok := ok.deadlineExpires l
  arriveUp l tag len s _ ok :=
    ok.traffic (SameLines.arriveUp l tag len s) (by simp) (by simp) (NamesWithin.arriveUp l tag len s) (by simp)
  arriveDown tag len s _ ok :=
    ok.traffic (SameLines.arriveDown tag len s) (by simp) (by simp) (NamesWithin.arriveDown tag len s) (by simp)
  takeDown l s ok := ok.traffic (SameLines.takeDown l s) (by simp) (by simp) (NamesWithin.of_eq (by simp)) (by simp)
  takeUp s ok := ok.traffic (SameLines.takeUp s) (by simp) (by simp) (NamesWithin.of_eq (by simp)) (by simp)
  expireHeld l tag s ok :=
    ok.traffic (SameLines.expireHeld l tag s) (by simp) (by simp) (NamesWithin.of_eq (by simp)) (by simp)
  decide _ ok := ok.congr (by simp) (by simp) (by simp) (by simp) (by simp)
  uplink _ _ ok := ok.congr (by simp) (by simp) (by simp) (by simp) (by simp)
  stepGen s ok := ok.onward (Onward.stepGen s) (StaysHeld.stepGen s)
  endWarmup s ok := ok.onward (Onward.endWarmup s) (StaysHeld.endWarmup s)
  endFirstSettle s ok := ok.onward (Onward.endFirstSettle s) (StaysHeld.endFirstSettle s)
  endSecondSettle s ok := ok.onward (Onward.endSecondSettle s) (StaysHeld.endSecondSettle s)
  reading r s ok := ok.onward (Onward.takeReading r s) (StaysHeld.takeReading r s)
  hazard s ok := ok.onward (Onward.takeHazard s) (StaysHeld.takeHazard s)
  endRelease _ ok := ok.endRelease
  endDwell s ok := ok.onward (Onward.endDwell s) (StaysHeld.endDwell s)
  endExit _ ok := ok.endExit
  input p v _ ok := metered_steady.inputChange p v ok
  endDebounce p _ ok := metered_steady.endDebounce p ok
  endSurgeClear _ ok := metered_steady.endSurgeClear ok
  endQuiet _ ok := metered_steady.endQuiet ok

/-- Settles O55: the shedding pass establishes the account wherever it runs, and admission keeps it elsewhere. -/
theorem energyKept : Obligations.EnergyKept := fun s u lines energy stepped => by
  obtain ⟨supplied, account⟩ := (energyOk_iff s).mp energy
  have ok := metered_kept.step s u ⟨lines, supplied, account⟩ stepped
  exact (energyOk_iff u).mpr ⟨ok.supplied, ok.account⟩

end Sys2Proof.Machine
end

section
/-! The test bench (R87, R97, R100, R112 to R118, R129 to R139): an order runs with its line WITHDRAWN, the generator and
the test relay as its phase has them; and every phase hands on to a next one in the same way. -/

namespace Sys2Proof.Machine

/-! ### The generator (R89, R90, R96) -/

/-- The generator stands at rest, whether its drive is on or off. -/
structure Resting (g : Generator) : Prop where
  code : g.code = Config.restCode
  program : g.program = .rest
  motion : g.motion = .settled
  noStep : g.next = none

theorem Resting.driveOff {g : Generator} (h : Resting g) : GenAtRest { g with drive := false } :=
  ⟨h.code, rfl, h.program, h.motion, h.noStep⟩

theorem GenAtRest.resting {g : Generator} (h : GenAtRest g) : Resting g := ⟨h.code, h.program, h.motion, h.noStep⟩

theorem Generator.cut_atRest (g : Generator) : GenAtRest g.cut := ⟨rfl, rfl, rfl, rfl, rfl⟩

theorem Generator.load_drive (prog : Program) (e p now : Nat) (g : Generator) :
    (g.load prog e p now).1.drive = g.drive ∧ (g.load prog e p now).1.program = prog := by
  unfold Generator.load
  split <;> exact ⟨rfl, rfl⟩

/-- A load of REST that settles at once leaves the generator at rest. -/
theorem Generator.load_rest_resting {e p now : Nat} {g : Generator} (reached : (g.load .rest e p now).2 = true) :
    Resting (g.load .rest e p now).1 := by
  unfold Generator.load at reached ⊢
  split at reached
  case isTrue settled =>
    rw [if_pos settled]
    exact ⟨settled, rfl, rfl, rfl⟩
  case isFalse => cases reached

theorem Generator.load_rest_reached {e p now : Nat} {g : Generator} (code : g.code = Config.restCode) :
    (g.load .rest e p now).2 = true := by
  have settled : g.code = Program.rest.settling := code
  unfold Generator.load
  rw [if_pos settled]

theorem Generator.step_drive (now : Nat) (g : Generator) :
    (g.step now).1.drive = g.drive ∧ (g.step now).1.program = g.program := by
  unfold Generator.step Generator.rampStep Generator.triangleStep Generator.sineStep
  dsimp only
  split
  · split <;> exact ⟨rfl, rfl⟩
  · split
    · split <;> exact ⟨rfl, rfl⟩
    · exact ⟨rfl, rfl⟩
    · exact ⟨rfl, rfl⟩
    · exact ⟨rfl, rfl⟩

/-- A ramp to rest that lands leaves the generator at rest. -/
theorem Generator.step_rest_resting {now : Nat} {g : Generator} (program : g.program = .rest)
    (reached : (g.step now).2 = true) : Resting (g.step now).1 := by
  obtain ⟨code, drive, prog, exp, period, motion, sine, dir, next⟩ := g
  obtain rfl : prog = .rest := program
  cases motion with
  | settled => cases reached
  | ramping =>
    simp only [Generator.step, Generator.rampStep] at reached ⊢
    split at reached
    case isTrue landed =>
      rw [if_pos landed]
      exact ⟨landed, rfl, rfl, rfl⟩
    case isFalse => cases reached

/-! ### What a phase says of generator and relay -/

/-- The phase of an order against the generator and the test relay. -/
def PhaseFits (g : Generator) (bus : Bool) : Phase → Prop
  | .warmup _ => GenAtRest g ∧ bus = false
  | .firstSettle _ => GenAtRest g ∧ bus = false
  | .secondSettle _ => GenAtRest g ∧ bus = true
  | .foreign _ => (g.drive = true ∧ bus = true) ∧ g.program = .rest
  | .step _ _ => g.drive = true ∧ bus = true
  | .releaseRamp => (g.drive = true ∧ bus = true) ∧ g.program = .rest
  | .releaseSettle _ => GenAtRest g ∧ bus = false
  | .exit x =>
    match x.stage with
    | .ramp => (g.drive = true ∧ bus = true) ∧ g.program = .rest
    | .dwell _ => GenAtRest g ∧ bus = true
    | .settle _ => GenAtRest g ∧ bus = false

section
variable {s u v : State} {c : Current} {g : Generator} {bus : Bool}

theorem driving_iff (s : State) : Driving s ↔ s.gen.drive = true ∧ s.onBus = true :=
  ⟨fun h => ⟨h.drive, h.bus⟩, fun h => ⟨h.1, h.2⟩⟩

theorem phaseOk_iff (s : State) (ph : Phase) : phaseOk s ph ↔ PhaseFits s.gen s.onBus ph := by
  cases ph with
  | exit x => cases stage : x.stage <;> simp [phaseOk, PhaseFits, stage, driving_iff]
  | _ => simp [phaseOk, PhaseFits, driving_iff]

/-- In every phase the driver acts on the pair or the generator is at rest. -/
theorem PhaseFits.driving_or_atRest {ph : Phase} (h : PhaseFits g bus ph) :
    (g.drive = true ∧ bus = true) ∨ GenAtRest g := by
  cases ph with
  | warmup => exact .inr h.1
  | firstSettle => exact .inr h.1
  | secondSettle => exact .inr h.1
  | foreign => exact .inl h.1
  | step => exact .inl h
  | releaseRamp => exact .inl h.1
  | releaseSettle => exact .inr h.1
  | exit x =>
    unfold PhaseFits at h
    dsimp only at h
    split at h
    · exact .inl h.1
    · exact .inr h.1
    · exact .inr h.1

/-! ### An order that runs -/

/-- Order record c is current, with test power, its line WITHDRAWN, and generator and relay as given. -/
structure Runs (s : State) (c : Current) (g : Generator) (bus : Bool) : Prop where
  current : s.engine.current = some c
  power : s.points.testPower = true
  gen : s.gen = g
  withdrawn : ∃ target conn, (s.line c.order.line).state = .withdrawn target conn ∧ bus = (conn == .onBus)

theorem Runs.onBus (h : Runs s c g bus) : s.onBus = bus := by
  obtain ⟨target, conn, state, rfl⟩ := h.withdrawn
  simp only [State.onBus, h.current, state]
  cases conn <;> rfl

theorem Runs.withCurrent (h : Runs s c g bus) {f : Current → Current} (keeps : (f c).order = c.order) :
    Runs (s.withCurrent f) (f c) g bus where
  current := State.withCurrent_current h.current
  power := by simpa using h.power
  gen := by simpa using h.gen
  withdrawn := by
    rw [keeps]
    exact h.withdrawn

theorem Runs.setPhase (h : Runs s c g bus) (ph : Phase) : Runs (s.setPhase ph) { c with phase := ph } g bus :=
  h.withCurrent (f := fun c => { c with phase := ph }) rfl

theorem Runs.setGen (h : Runs s c g bus) (g' : Generator) : Runs { s with gen := g' } c g' bus :=
  ⟨h.current, h.power, rfl, h.withdrawn⟩

theorem Runs.cutGen (h : Runs s c g bus) : Runs s.cutGen c g.cut bus := h.gen ▸ h.setGen s.gen.cut

theorem Runs.setDrive (h : Runs s c g bus) (on : Bool) : Runs (s.setDrive on) c { g with drive := on } bus :=
  h.gen ▸ h.setGen { s.gen with drive := on }

theorem Runs.setConn (h : Runs s c g bus) (conn : Conn) : Runs (s.setConn conn) c g (conn == .onBus) := by
  obtain ⟨target, old, state, -⟩ := h.withdrawn
  refine ⟨by simpa using h.current, by simpa using h.power, by simpa using h.gen, target, conn, ?_, rfl⟩
  simp only [State.setConn, h.current, state, State.line_setLineState, if_true]

theorem Runs.cutOff (h : Runs s c g bus) : Runs s.cutOff c g.cut false := h.cutGen.setConn .offBus

theorem Runs.leaveBus (h : Runs s c g bus) (settled : Nat → Phase) :
    Runs (s.leaveBus settled) { c with phase := settled (s.now + Config.settleTime) } { g with drive := false } false :=
  ((h.setDrive false).setConn .offBus).setPhase _

/-- An order runs and its phase fits. -/
def Running (s : State) : Prop := ∃ c g bus, Runs s c g bus ∧ PhaseFits g bus c.phase

theorem Runs.running (h : Runs s c g bus) (fits : PhaseFits g bus c.phase) : Running s := ⟨c, g, bus, h, fits⟩

/-- A level reached in a phase that fits, the generator being at rest if its program is REST. -/
theorem Runs.levelReached (h : Runs s c g bus) (fits : PhaseFits g bus c.phase) (reached : g.program = .rest → Resting g) :
    Running s.levelReached := by
  unfold State.levelReached
  simp only [h.current]
  split
  case h_1 phase =>
    rw [phase] at fits
    exact (h.setPhase _).running fits
  case h_2 k phase =>
    rw [phase] at fits
    exact (h.setPhase _).running fits
  case h_3 phase =>
    rw [phase] at fits
    exact (h.leaveBus _).running ⟨(reached fits.2).driveOff, rfl⟩
  case h_4 x phase =>
    split
    case h_1 stage =>
      rw [phase, PhaseFits, stage] at fits
      exact (h.leaveBus _).running ⟨(reached fits.2).driveOff, rfl⟩
    case h_2 => exact h.running fits
  case h_5 => exact h.running fits

/-- A load whose phase fits the generator as the load leaves it. -/
theorem Runs.load (h : Runs s c g bus) (prog : Program) (e p : Nat)
    (fits : PhaseFits (g.load prog e p s.now).1 bus c.phase) : Running (s.load prog e p) := by
  have loaded : Runs { s with gen := (s.gen.load prog e p s.now).1 } c (g.load prog e p s.now).1 bus :=
    h.gen ▸ h.setGen _
  unfold State.load
  dsimp only
  split
  case isTrue reached =>
    refine loaded.levelReached fits fun program => ?_
    rw [(Generator.load_drive prog e p s.now g).2] at program
    subst program
    exact Generator.load_rest_resting (h.gen ▸ reached)
  case isFalse => exact loaded.running fits

/-- A load of REST by a generator at rest reaches its level at once. -/
theorem Runs.load_atRest (h : Runs s c g bus) (code : g.code = Config.restCode) (e p : Nat) :
    ∃ u g', Runs u c g' bus ∧ Resting g' ∧ u.now = s.now ∧ s.load .rest e p = u.levelReached := by
  have reached : (s.gen.load .rest e p s.now).2 = true := Generator.load_rest_reached (h.gen ▸ code)
  refine ⟨_, _, h.setGen (s.gen.load .rest e p s.now).1, Generator.load_rest_resting reached, rfl, ?_⟩
  unfold State.load
  dsimp only
  rw [if_pos reached]

/-- RELEASE, FOREIGN and STEP begin with the driver on the pair. -/
theorem Runs.beginRelease (h : Runs s c g bus) (driving : g.drive = true ∧ bus = true) (e p : Nat) :
    Running (s.beginRelease e p) := by
  refine (h.setPhase .releaseRamp).load .rest e p ?_
  obtain ⟨drive, program⟩ := Generator.load_drive .rest e p (s.setPhase .releaseRamp).now g
  exact ⟨⟨drive.trans driving.1, driving.2⟩, program⟩

theorem Runs.beginStep (h : Runs s c g bus) (driving : g.drive = true ∧ bus = true) (o : TestOrder) (k : Nat) :
    Running (s.beginStep o k) := by
  unfold State.beginStep
  split
  case h_1 st _ =>
    refine (h.setPhase (.step k none)).load _ _ _ ?_
    exact ⟨(Generator.load_drive _ _ _ _ g).1.trans driving.1, driving.2⟩
  case h_2 => exact h.beginRelease driving _ _

/-- An exit in its RAMP stage begins with the driver on the pair, or ends that stage at once. -/
theorem Runs.beginRamp (h : Runs s c g bus) (fits : (g.drive = true ∧ bus = true) ∨ GenAtRest g) {x : ExitRec}
    (stage : x.stage = .ramp) (e p : Nat) : Running ((s.setPhase (.exit x)).load .rest e p) := by
  have begun := h.setPhase (.exit x)
  rcases fits with driving | atRest
  · refine begun.load .rest e p ?_
    obtain ⟨drive, program⟩ := Generator.load_drive .rest e p (s.setPhase (.exit x)).now g
    rw [PhaseFits, stage]
    exact ⟨⟨drive.trans driving.1, driving.2⟩, program⟩
  · obtain ⟨u, g', runs, resting, -, landed⟩ := begun.load_atRest atRest.code e p
    rw [landed]
    simp only [State.levelReached, runs.current, stage]
    exact (runs.leaveBus _).running ⟨resting.driveOff, rfl⟩

theorem Runs.beginExit (h : Runs s c g bus) (fits : PhaseFits g bus c.phase) (cause : Cause) :
    Running (s.beginExit cause) := by
  unfold State.beginExit
  dsimp only
  split
  · exact (h.cutOff.setPhase _).running ⟨g.cut_atRest, rfl⟩
  · exact h.beginRamp fits.driving_or_atRest rfl _ _
  · split
    case isTrue on => exact (h.cutGen.setPhase _).running ⟨g.cut_atRest, h.onBus ▸ on⟩
    case isFalse => exact (h.cutOff.setPhase _).running ⟨g.cut_atRest, rfl⟩

/-- An exit record with the stage of another fits where that one does. -/
theorem PhaseFits.exit_congr {x y : ExitRec} (fits : PhaseFits g bus (.exit x)) (stage : y.stage = x.stage) :
    PhaseFits g bus (.exit y) := by
  unfold PhaseFits at fits ⊢
  dsimp only at fits ⊢
  rw [stage]
  exact fits

theorem ExitRec.note_stage (cause : Cause) (x : ExitRec) : (x.note cause).stage = x.stage := by
  unfold ExitRec.note
  split <;> rfl

theorem Runs.escalate (h : Runs s c g bus) {x : ExitRec} (fits : PhaseFits g bus (.exit x)) (cause : Cause) :
    Running (s.escalate cause x) := by
  unfold State.escalate
  dsimp only
  split
  case h_1 => exact (h.cutOff.setPhase _).running ⟨g.cut_atRest, rfl⟩
  case h_2 e stage =>
    rw [PhaseFits, stage] at fits
    exact ((h.setConn .offBus).setPhase _).running ⟨fits.1, rfl⟩
  case h_3 => exact (h.setPhase _).running (fits.exit_congr (ExitRec.note_stage cause x))

end

end Sys2Proof.Machine
end

section
/-! The laws of the test bench through every step: what starts, hands on and ends a phase, and that nothing else touches
the generator, the current order or a WITHDRAWN line. -/

namespace Sys2Proof.Machine

section
variable {s u v : State}

/-! ### From phase to phase -/

theorem Running.stepGen (running : Running s) : Running s.stepGen := by
  obtain ⟨c, g, bus, runs, fits⟩ := running
  have stepped := runs.setGen (s.gen.step s.now).1
  obtain ⟨drive, program⟩ := Generator.step_drive s.now s.gen
  unfold State.stepGen
  split
  case isFalse => exact runs.running fits
  case isTrue due =>
    have stays : PhaseFits (s.gen.step s.now).1 bus c.phase := by
      rw [runs.gen] at drive program due ⊢
      have moving : ¬GenAtRest g := fun rest => by simp [State.due, rest.noStep] at due
      cases phase : c.phase with
      | exit x =>
        rw [phase, PhaseFits] at fits
        rw [PhaseFits]
        cases stage : x.stage with
        | ramp => rw [stage] at fits; exact ⟨⟨drive.trans fits.1.1, fits.1.2⟩, program.trans fits.2⟩
        | dwell => rw [stage] at fits; exact absurd fits.1 moving
        | settle => rw [stage] at fits; exact absurd fits.1 moving
      | foreign => rw [phase] at fits; exact ⟨⟨drive.trans fits.1.1, fits.1.2⟩, program.trans fits.2⟩
      | step => rw [phase] at fits; exact ⟨drive.trans fits.1, fits.2⟩
      | releaseRamp => rw [phase] at fits; exact ⟨⟨drive.trans fits.1.1, fits.1.2⟩, program.trans fits.2⟩
      | warmup => rw [phase] at fits; exact absurd fits.1 moving
      | firstSettle => rw [phase] at fits; exact absurd fits.1 moving
      | secondSettle => rw [phase] at fits; exact absurd fits.1 moving
      | releaseSettle => rw [phase] at fits; exact absurd fits.1 moving
    dsimp only
    split
    case isTrue reached =>
      exact stepped.levelReached stays fun rest => Generator.step_rest_resting (program.symm.trans rest) reached
    case isFalse => exact stepped.running stays

theorem Running.endWarmup (running : Running s) : Running s.endWarmup := by
  obtain ⟨c, g, bus, runs, fits⟩ := running
  unfold State.endWarmup
  split
  case h_1 e _ _ _ current =>
    split
    · obtain rfl := Option.some.inj (runs.current.symm.trans current)
      exact (runs.setPhase _).running fits
    · exact runs.running fits
  case h_2 => exact runs.running fits

theorem Running.endFirstSettle (running : Running s) : Running s.endFirstSettle := by
  obtain ⟨c, g, bus, runs, fits⟩ := running
  unfold State.endFirstSettle
  split
  case h_1 e _ _ _ current =>
    split
    · obtain rfl := Option.some.inj (runs.current.symm.trans current)
      exact ((runs.setConn .onBus).setPhase _).running ⟨fits.1, rfl⟩
    · exact runs.running fits
  case h_2 => exact runs.running fits

theorem Running.endSecondSettle (running : Running s) : Running s.endSecondSettle := by
  obtain ⟨c, g, bus, runs, fits⟩ := running
  unfold State.endSecondSettle
  split
  case h_1 e _ _ _ current =>
    split
    · obtain rfl := Option.some.inj (runs.current.symm.trans current)
      refine ((runs.setDrive true).setPhase (.foreign none)).load _ _ _ ?_
      obtain ⟨drive, program⟩ := Generator.load_drive .rest Config.exitExp Config.exitPeriod s.now { g with drive := true }
      exact ⟨⟨drive, fits.2⟩, program⟩
    · exact runs.running fits
  case h_2 => exact runs.running fits

theorem Running.takeReading (running : Running s) (r : Reading) : Running (s.takeReading r) := by
  obtain ⟨c, g, bus, runs, fits⟩ := running
  unfold State.takeReading
  simp only [runs.current]
  split
  case h_1 phase =>
    rw [phase] at fits
    unfold State.foreignReading
    split
    · exact Runs.beginRelease (runs.withCurrent rfl) fits.1 _ _
    · exact Runs.beginStep (runs.withCurrent rfl) fits.1 _ _
  case h_2 phase =>
    rw [phase] at fits
    unfold State.stepReading
    split
    · exact runs.running (phase ▸ fits)
    · dsimp only
      split
      · exact Runs.beginStep (runs.withCurrent rfl) fits _ _
      · exact Runs.beginRelease (runs.withCurrent rfl) fits _ _
  case h_3 => exact runs.running fits

theorem Running.takeHazard (running : Running s) : Running s.takeHazard := by
  obtain ⟨c, g, bus, runs, fits⟩ := running
  unfold State.takeHazard
  simp only [runs.current]
  split
  · exact runs.beginExit fits _
  · exact runs.beginExit fits _
  case h_3 x phase => exact runs.escalate (phase ▸ fits) _
  · exact runs.running fits

theorem Running.takeSurge (running : Running s) : Running s.takeSurge := by
  obtain ⟨c, g, bus, runs, fits⟩ := running
  unfold State.takeSurge
  simp only [runs.current]
  split
  case h_1 x phase => exact runs.escalate (phase ▸ fits) _
  · exact runs.running fits
  · exact runs.beginExit fits _

theorem Running.takeDoor (running : Running s) : Running s.takeDoor := by
  obtain ⟨c, g, bus, runs, fits⟩ := running
  unfold State.takeDoor
  simp only [runs.current]
  split
  · split
    case h_1 x phase =>
      exact (runs.setPhase _).running (PhaseFits.exit_congr (phase ▸ fits) (ExitRec.note_stage .door x))
    case h_2 =>
      split
      · exact runs.beginExit fits _
      · exact runs.running fits
  · exact runs.running fits

theorem Running.takeEnergyPass (running : Running s) : Running s.takeEnergyPass := by
  obtain ⟨c, g, bus, runs, fits⟩ := running
  unfold State.takeEnergyPass
  simp only [runs.current]
  split
  case h_1 x phase =>
    exact (runs.setPhase _).running (PhaseFits.exit_congr (phase ▸ fits) (ExitRec.note_stage .energy x))
  case h_2 timer phase =>
    rw [phase] at fits
    exact (runs.setPhase _).running fits
  case h_3 => exact runs.beginExit fits _

theorem Running.takeEnergyCrit (running : Running s) : Running s.takeEnergyCrit := by
  obtain ⟨c, g, bus, runs, fits⟩ := running
  unfold State.takeEnergyCrit
  simp only [runs.current]
  split
  case h_1 x phase =>
    exact (runs.setPhase _).running (PhaseFits.exit_congr (phase ▸ fits) (ExitRec.note_stage .energy x))
  case h_2 =>
    split
    · exact runs.beginExit fits _
    · exact runs.running fits

theorem Running.endDwell (running : Running s) : Running s.endDwell := by
  obtain ⟨c, g, bus, runs, fits⟩ := running
  unfold State.endDwell
  simp only [runs.current]
  split
  case h_1 x phase =>
    split
    case h_1 e stage =>
      split
      · rw [phase, PhaseFits, stage] at fits
        exact ((runs.setConn .offBus).setPhase _).running ⟨fits.1, rfl⟩
      · exact runs.running fits
    case h_2 => exact runs.running fits
  case h_2 => exact runs.running fits

/-! ### The bench stands -/

/-- No order is current, no test power requested, and the generator is at rest. -/
structure Idle (s : State) : Prop where
  current : s.engine.current = none
  power : s.points.testPower = false
  gen : GenAtRest s.gen

/-- The bench is idle or an order runs on it. -/
def Stood (s : State) : Prop := Idle s ∨ Running s

theorem benchOk_iff (lines : LinesOk s) : BenchOk s ↔ Stood s := by
  constructor
  · intro ok
    cases current : s.engine.current with
    | none => exact .inl ⟨current, by simp [ok.power, current], ok.idle current⟩
    | some c =>
      have kind := (lines.withdrawnExactly c.order.line).mpr ⟨c, current, rfl⟩
      have fits := (phaseOk_iff s c.phase).mp (ok.phase c current)
      cases state : (s.line c.order.line).state with
      | withdrawn target conn =>
        have runs : Runs s c s.gen (conn == .onBus) := ⟨current, by simp [ok.power, current], rfl, target, conn, state, rfl⟩
        exact .inr (runs.running (runs.onBus ▸ fits))
      | _ => rw [state] at kind; cases kind
  · rintro (idle | ⟨c, g, bus, runs, fits⟩)
    · refine ⟨by simp [idle.power, idle.current], fun _ => idle.gen, fun c current => ?_⟩
      rw [idle.current] at current
      cases current
    · refine ⟨by simp [runs.power, runs.current], fun none => ?_, fun d current => ?_⟩
      · rw [runs.current] at none
        cases none
      · obtain rfl := Option.some.inj (runs.current.symm.trans current)
        rw [phaseOk_iff, runs.gen, runs.onBus]
        exact fits

/-- What hands a phase on does nothing to an idle bench. -/
theorem Stood.phases (stood : Stood s) (idle : s.engine.current = none → GenAtRest s.gen → u = s)
    (running : Running s → Running u) : Stood u := by
  rcases stood with rest | runs
  · rw [idle rest.current rest.gen]
    exact .inl rest
  · exact .inr (running runs)

theorem Stood.stepGen (stood : Stood s) : Stood s.stepGen :=
  stood.phases (fun _ rest => by simp [State.stepGen, State.due, rest.noStep]) Running.stepGen

theorem Stood.endWarmup (stood : Stood s) : Stood s.endWarmup :=
  stood.phases (fun idle _ => by simp only [State.endWarmup, idle]) Running.endWarmup

theorem Stood.endFirstSettle (stood : Stood s) : Stood s.endFirstSettle :=
  stood.phases (fun idle _ => by simp only [State.endFirstSettle, idle]) Running.endFirstSettle

theorem Stood.endSecondSettle (stood : Stood s) : Stood s.endSecondSettle :=
  stood.phases (fun idle _ => by simp only [State.endSecondSettle, idle]) Running.endSecondSettle

theorem Stood.takeReading (stood : Stood s) (r : Reading) : Stood (s.takeReading r) :=
  stood.phases (fun idle _ => by simp only [State.takeReading, idle]) fun running => running.takeReading r

theorem Stood.takeHazard (stood : Stood s) : Stood s.takeHazard :=
  stood.phases (fun idle _ => by simp only [State.takeHazard, idle]) Running.takeHazard

theorem Stood.takeSurge (stood : Stood s) : Stood s.takeSurge :=
  stood.phases (fun idle _ => by simp only [State.takeSurge, idle]) Running.takeSurge

theorem Stood.takeDoor (stood : Stood s) : Stood s.takeDoor :=
  stood.phases (fun idle _ => by simp only [State.takeDoor, idle]) Running.takeDoor

theorem Stood.takeEnergyPass (stood : Stood s) : Stood s.takeEnergyPass :=
  stood.phases (fun idle _ => by simp only [State.takeEnergyPass, idle]) Running.takeEnergyPass

theorem Stood.takeEnergyCrit (stood : Stood s) : Stood s.takeEnergyCrit :=
  stood.phases (fun idle _ => by simp only [State.takeEnergyCrit, idle]) Running.takeEnergyCrit

theorem Stood.endDwell (stood : Stood s) : Stood s.endDwell :=
  stood.phases (fun idle _ => by simp only [State.endDwell, idle]) Running.endDwell

/-- An exit begun for the current order. -/
theorem Stood.beginExit (stood : Stood s) {c : Current} (current : s.engine.current = some c) (cause : Cause) :
    Stood (s.beginExit cause) := by
  rcases stood with idle | ⟨d, g, bus, runs, fits⟩
  · rw [idle.current] at current
    cases current
  · exact .inr (runs.beginExit fits cause)

/-! ### What leaves the bench alone -/

/-- Generator, test power and current order stay, and a WITHDRAWN line stays so with its connection. -/
structure Undisturbed (s u : State) : Prop where
  gen : u.gen = s.gen
  power : u.points.testPower = s.points.testPower
  current : u.engine.current = s.engine.current
  line : ∀ l t c, (s.line l).state = .withdrawn t c → ∃ t', (u.line l).state = .withdrawn t' c

theorem Stood.undisturbed (stood : Stood s) (h : Undisturbed s u) : Stood u := by
  rcases stood with idle | ⟨c, g, bus, runs, fits⟩
  · exact .inl ⟨h.current.trans idle.current, h.power.trans idle.power, h.gen ▸ idle.gen⟩
  · obtain ⟨target, conn, state, on⟩ := runs.withdrawn
    obtain ⟨target', state'⟩ := h.line _ _ _ state
    exact .inr ⟨c, g, bus, ⟨h.current.trans runs.current, h.power.trans runs.power, h.gen.trans runs.gen, target', conn,
      state', on⟩, fits⟩

theorem Undisturbed.trans (h : Undisturbed s u) (g : Undisturbed u v) : Undisturbed s v where
  gen := g.gen.trans h.gen
  power := g.power.trans h.power
  current := g.current.trans h.current
  line l t c state :=
    have ⟨_, state'⟩ := h.line l t c state
    g.line l _ c state'

theorem Undisturbed.of_sameLines (lines : SameLines s u) (gen : u.gen = s.gen)
    (power : u.points.testPower = s.points.testPower) (current : u.engine.current = s.engine.current) :
    Undisturbed s u :=
  ⟨gen, power, current, fun l t _ state => ⟨t, (lines l).1.trans state⟩⟩

theorem Undisturbed.refl (s : State) : Undisturbed s s := Undisturbed.of_sameLines (SameLines.refl s) rfl rfl rfl

theorem Undisturbed.moveLine {l : LineNo} (st : LineState) (c : LineCause) (source : (s.kinds l).Free ∨ s.kinds l = .shed) :
    Undisturbed s (s.moveLine l st c) where
  gen := by simp
  power := by simp
  current := by simp
  line k t conn state := by
    refine ⟨t, ?_⟩
    rw [(State.moveLine_kept l k st c s).1]
    by_cases same : k = l
    case neg => rw [if_neg same, state]
    case pos =>
      subst same
      have kind : s.kinds k = .withdrawn := by rw [State.kinds, state]; rfl
      rw [kind] at source
      rcases source with free | shed
      · exact absurd rfl free.2
      · cases shed

theorem Undisturbed.setFail (l : LineNo) (n : Nat) (s : State) : Undisturbed s (s.setFail l n) :=
  Undisturbed.of_sameLines (SameLines.setFail l n s) rfl rfl rfl

/-- An edit of a return target keeps the connection. -/
theorem Undisturbed.editTarget {l : LineNo} {t₀ : Target} {c : Conn} (under : (s.line l).state = .withdrawn t₀ c)
    (t : Target) : Undisturbed s (s.editTarget l t c) where
  gen := rfl
  power := rfl
  current := rfl
  line k t' c' state := by
    simp only [State.editTarget, State.line_setLineState]
    split
    case isTrue same =>
      subst same
      rw [under] at state
      cases state
      exact ⟨t, rfl⟩
    case isFalse => exact ⟨t', state⟩

theorem Undisturbed.setShed (ls : List LineNo) (s : State) : Undisturbed s (s.setShed ls) :=
  Undisturbed.of_sameLines (SameLines.refl s) rfl rfl rfl

theorem Undisturbed.setCap (n : Nat) (s : State) : Undisturbed s (s.setCap n) :=
  Undisturbed.of_sameLines (SameLines.refl s) rfl rfl rfl

theorem Undisturbed.notify (n : Notice) (s : State) : Undisturbed s (s.notify n) :=
  Undisturbed.of_sameLines (SameLines.notify n s) (by simp) (by simp) (by simp)

end

end Sys2Proof.Machine
end

section
/-! The laws of the test bench, to their end: the passes and the changes of lines leave it alone, an order begins and ends
on an idle bench, and every step keeps it. -/

namespace Sys2Proof.Machine

/-- The laws of the lines and of the test bench together. -/
structure Benched (s : State) : Prop where
  lines : LinesOk s
  stood : Stood s

section
variable {s u v : State}

theorem Benched.undisturbed (ok : Benched s) (lines : LinesOk u) (h : Undisturbed s u) : Benched u :=
  ⟨lines, ok.stood.undisturbed h⟩

theorem Benched.congr (ok : Benched s) (lines : u.lines = s.lines) (shed : u.energy.shed = s.energy.shed)
    (engine : u.engine = s.engine) (flows : u.flows = s.flows) (gen : u.gen = s.gen)
    (power : u.points.testPower = s.points.testPower) : Benched u :=
  ok.undisturbed (ok.lines.congr lines shed engine flows)
    (Undisturbed.of_sameLines (SameLines.of_lines lines) gen power (by rw [engine]))

theorem Benched.notify (ok : Benched s) (n : Notice) : Benched (s.notify n) :=
  ok.undisturbed (ok.lines.notify n) (Undisturbed.notify n s)

/-! ### The passes (R150, R152) -/

theorem Undisturbed.shedLine {l : LineNo} (counted : (s.line l).state.counted = true) : Undisturbed s (s.shedLine l) :=
  (Undisturbed.setShed (l :: s.energy.shed) s).trans (Undisturbed.moveLine .shed .energy (.inl (counted_free counted)))

theorem Stood.shedLoop (n : Nat) {s : State} (ok : Stood s) : Stood (s.shedLoop n) := by
  induction n generalizing s with
  | zero => exact ok
  | succ n ih =>
    rw [State.shedLoop]
    split
    · exact ok
    · split
      · exact ih (ok.undisturbed (Undisturbed.setCap _ s))
      · split
        case h_1 l candidate => exact ih (ok.undisturbed (Undisturbed.shedLine (State.shedCandidate_counted candidate)))
        case h_2 => exact ok.takeEnergyPass

theorem Benched.sheddingPass (ok : Benched s) : Benched s.sheddingPass :=
  ⟨ok.lines.sheddingPass, ok.stood.shedLoop 28⟩

theorem Benched.restoreLoop (n : Nat) {s : State} (ok : Benched s) : Benched (s.restoreLoop n) := by
  induction n generalizing s with
  | zero => exact ok
  | succ n ih =>
    rw [State.restoreLoop]
    split
    · exact ok
    case h_2 l rest top =>
      split
      · have shed : s.kinds l = .shed := ((linesOk_iff s).mp ok.lines).shed l |>.mp (top ▸ List.mem_cons_self)
        exact ih (ok.undisturbed (ok.lines.restoreLine top)
          ((Undisturbed.setShed rest s).trans (Undisturbed.moveLine _ .restore (.inr shed))))
      · exact ok

theorem Benched.raiseLoop (n : Nat) {s : State} (ok : Benched s) : Benched (s.raiseLoop n) := by
  induction n generalizing s with
  | zero => exact ok
  | succ n ih =>
    rw [State.raiseLoop]
    split
    · exact ih (ok.undisturbed (ok.lines.setCap _) (Undisturbed.setCap _ s))
    · exact ok

theorem Benched.restoringPass (ok : Benched s) : Benched s.restoringPass := (ok.restoreLoop _).raiseLoop 3

theorem Benched.passFor (ok : Benched s) (before after : Nat) : Benched (s.passFor before after) := by
  unfold State.passFor
  split
  · exact ok.sheddingPass
  · split
    · exact ok.restoringPass
    · exact ok

theorem Benched.budgetPass (ok : Benched s) (before : Nat) : Benched (s.budgetPass before) := by
  unfold State.budgetPass
  split
  · exact ok.sheddingPass
  · split
    · exact ok.restoringPass
    · exact ok

/-! ### Orders (R103 to R110, R118, R125, R136) -/

theorem Undisturbed.engine (e : Engine) (current : e.current = s.engine.current) :
    Undisturbed s { s with engine := e } := Undisturbed.of_sameLines (SameLines.refl s) rfl rfl current

theorem Undisturbed.removeOrder (cause : Cause) (o : TestOrder) (s : State) :
    Undisturbed s (State.removeOrder cause s o) :=
  Undisturbed.of_sameLines (SameLines.of_lines (by simp)) (by simp) (by simp)
    (State.removeOrders_current cause [o] s)

theorem Benched.removeOrder (ok : Benched s) (cause : Cause) (o : TestOrder) : Benched (State.removeOrder cause s o) :=
  ok.undisturbed (ok.lines.removeOrder cause o) (Undisturbed.removeOrder cause o s)

theorem Benched.removeOrders (ok : Benched s) (cause : Cause) (os : List TestOrder) :
    Benched (os.foldl (State.removeOrder cause) s) :=
  List.foldlRecOn (motive := Benched) os _ ok fun _ ok o _ => ok.removeOrder cause o

theorem Benched.refuseOrder (ok : Benched s) (o : TestOrder) : Benched (s.refuseOrder o) :=
  ok.undisturbed (ok.lines.refuseOrder o) (Undisturbed.of_sameLines (SameLines.of_lines (by simp)) (by simp) (by simp)
    (by simp [State.refuseOrder, State.storeResult, (Engine.store_queue _ _).2.1]))

/-- An order taken by an idle bench begins in WARMUP with test power requested and its line off the bus (R109, R112). -/
theorem Benched.acquire (ok : Benched s) (free : s.engine.current = none) (o : TestOrder) (target : Target) :
    Benched (s.acquire o target) := by
  have idle : Idle s := ok.stood.resolve_right fun ⟨_, _, _, runs, _⟩ => by
    rw [runs.current] at free
    cases free
  refine Benched.passFor ⟨ok.lines.take free o target, .inr ?_⟩ _ _
  have state : ((((s.dequeue o).withdraw o.line target).makeCurrent o).line o.line).state = .withdrawn target .offBus := by
    have moved := (State.moveLine_kept o.line o.line (.withdrawn target .offBus) .test
      ((s.dequeue o).setShed ((s.dequeue o).energy.shed.filter fun k => k != o.line))).1
    rw [if_pos rfl] at moved
    exact moved
  have gen : (((s.dequeue o).withdraw o.line target).makeCurrent o).gen = s.gen := by simp [State.withdraw]
  exact Runs.running (bus := false) ⟨rfl, rfl, gen, target, .offBus, state, rfl⟩ ⟨idle.gen, rfl⟩

theorem Benched.attemptLoop (n : Nat) {s : State} (ok : Benched s) : Benched (s.attemptLoop n) := by
  induction n generalizing s with
  | zero => exact ok
  | succ n ih =>
    have refused (o : TestOrder) : Benched ((s.refuseOrder o).attemptLoop n) := ih (ok.refuseOrder o)
    rw [State.attemptLoop]
    split
    · exact ok
    case isFalse free =>
      have idle : s.engine.current = none := by simpa using free
      split
      · exact ok
      · split
        · split
          · exact ok.acquire idle _ _
          · exact ok.acquire idle _ _
          · split
            · exact ok.acquire idle _ _
            · exact refused _
          · split
            · exact ok.acquire idle _ _
            · exact refused _
          · exact ok.acquire idle _ _
          · exact ok
          · exact ok
        · exact ok

theorem Benched.attempt (ok : Benched s) : Benched s.attempt := ok.attemptLoop _

theorem Benched.attemptIfMoved (ok : Benched s) (before : Nat) : Benched (s.attemptIfMoved before) := by
  unfold State.attemptIfMoved
  split
  · exact ok
  · exact ok.attempt

theorem Benched.settleChange (ok : Benched s) (before : Nat) : Benched (s.settleChange before) := by
  unfold State.settleChange
  split
  · exact ok
  · exact (ok.passFor _ _).attempt

/-- The order that ends leaves the bench idle, its phase having the generator at rest. -/
theorem Benched.finishOrder (ok : Benched s) {c : Current} (current : s.engine.current = some c) (rest : GenAtRest s.gen) :
    Benched (s.finishOrder c) := by
  obtain ⟨r, -, -, -, engine, -, gen, points, -⟩ := State.reported_spec c s
  have idle : Idle (s.reported c) := ⟨by rw [engine], by rw [points], gen ▸ rest⟩
  have reported : Benched (s.reported c) := ⟨ok.lines.reported current, .inl idle⟩
  exact reported.restoringPass.attempt

theorem Benched.endRelease (ok : Benched s) : Benched s.endRelease := by
  unfold State.endRelease
  split
  · exact ok
  case h_2 c current =>
    split
    case h_1 e phase =>
      split
      · have fits := ((benchOk_iff ok.lines).mpr ok.stood).phase c current
        rw [phase] at fits
        exact ok.finishOrder current fits.1
      · exact ok
    case h_2 => exact ok

theorem Benched.endExit (ok : Benched s) : Benched s.endExit := by
  unfold State.endExit
  split
  · exact ok
  case h_2 c current =>
    split
    case h_1 x phase =>
      split
      case h_1 e stage =>
        split
        · have fits := ((benchOk_iff ok.lines).mpr ok.stood).phase c current
          rw [phase, phaseOk, stage] at fits
          exact ok.finishOrder current fits.1
        · exact ok
      case h_2 => exact ok
    case h_2 => exact ok

/-! ### Supply, budgets and the cap ceiling -/

theorem Benched.energy (ok : Benched s) (e : Energy) (shed : e.shed = s.energy.shed) : Benched { s with energy := e } :=
  ok.congr rfl shed rfl rfl rfl rfl

theorem Benched.takeEnergyCrit (ok : Benched s) : Benched s.takeEnergyCrit :=
  ⟨ok.lines.onward (Onward.takeEnergyCrit s), ok.stood.takeEnergyCrit⟩

theorem Benched.changeSupply (ok : Benched s) (new : Supply) (source : SupplySource) :
    Benched (s.changeSupply new source) := by
  have noticed := (ok.energy { s.energy with supply := new, source := source } rfl).notify
    (.supply new ({ s with energy := { s.energy with supply := new, source := source } } : State).budget source)
  unfold State.changeSupply
  refine Benched.attempt (Benched.budgetPass ?_ _)
  split
  · exact noticed.takeEnergyCrit
  · exact noticed

theorem Benched.putBudget (ok : Benched s) (st : Supply) (n : Nat) : Benched (s.putBudget st n) := by
  have put := ok.energy { s.energy with budgets := s.energy.budgets.put st n } rfl
  unfold State.putBudget
  dsimp only
  split
  · exact put
  · exact ((put.notify _).budgetPass _).attempt

theorem Benched.setCap (ok : Benched s) (n : Nat) : Benched (s.setCap n) :=
  ok.undisturbed (ok.lines.setCap n) (Undisturbed.setCap n s)

theorem Benched.ceilingSet (ok : Benched s) (old : Nat) : Benched (s.ceilingSet old) := by
  unfold State.ceilingSet
  split
  · exact (ok.setCap _).restoringPass.attempt
  · split
    · exact ok.restoringPass.attemptIfMoved _
    · exact ok

theorem Benched.setParameter (ok : Benched s) (id value : Nat) : Benched (s.setParameter id value).2 := by
  unfold State.setParameter
  split
  · exact ok
  · split
    · exact ok
    · have put : Benched { s with params := s.params.put id value } := ok.congr rfl rfl rfl rfl rfl rfl
      unfold State.putParameter
      dsimp only
      split
      · exact put.ceilingSet _
      · exact put

/-! ### Requests and indications of the lines -/

theorem Benched.syncUp (ok : Benched s) (l : LineNo) : Benched (s.syncUp l) := by
  refine ok.undisturbed (ok.lines.syncUp l) ?_
  unfold State.syncUp
  split
  case h_1 d state =>
    refine (Undisturbed.setFail l 0 s).trans (Undisturbed.moveLine _ _ (.inl ?_))
    rw [(SameLines.setFail l 0 s).kinds, State.kinds, state]
    exact ⟨nofun, nofun⟩
  case h_2 => exact Undisturbed.refl s

theorem Benched.syncLost (ok : Benched s) (l : LineNo) : Benched (s.syncLost l) := by
  refine ok.undisturbed (ok.lines.syncLost l) ?_
  unfold State.syncLost
  split
  case h_1 state => exact Undisturbed.moveLine _ _ (.inl (by rw [State.kinds, state]; exact ⟨nofun, nofun⟩))
  case h_2 => exact Undisturbed.refl s

/-- A line that has no record elsewhere moves, and what its move committed is settled. -/
theorem Benched.settleMove (ok : Benched s) {l : LineNo} {st : LineState} {c : LineCause} (source : (s.kinds l).Free)
    (target : st.kind.Free) (equipped : st.kind ≠ .unequipped) (before : Nat) :
    Benched ((s.moveLine l st c).settleChange before) := by
  have moved : Benched (s.moveLine l st c) :=
    ok.undisturbed (ok.lines.moveLine c source target fun gone => absurd gone equipped)
      (Undisturbed.moveLine st c (.inl source))
  exact moved.settleChange before

theorem Benched.deadlineExpires (ok : Benched s) (l : LineNo) : Benched (s.deadlineExpires l) := by
  unfold State.deadlineExpires
  split
  case h_1 d state =>
    split
    · obtain ⟨free, equipped⟩ := afterExpiry_kind (min 7 ((s.line l).failCount + 1)) s.params.failLimit
      have failed : Benched (s.setFail l (min 7 ((s.line l).failCount + 1))) :=
        ok.undisturbed (ok.lines.setFail l _) (Undisturbed.setFail l _ s)
      refine failed.settleMove ?_ free equipped _
      rw [(SameLines.setFail l _ s).kinds, State.kinds, state]
      exact ⟨nofun, nofun⟩
    · exact ok
  case h_2 => exact ok

theorem Benched.lineStart (ok : Benched s) (l : LineNo) : Benched (s.lineStart l).2 := by
  unfold State.lineStart
  split
  case h_1 state =>
    split
    · have source : (s.kinds l).Free := by rw [State.kinds, state]; exact ⟨nofun, nofun⟩
      exact ok.settleMove (st := .training s.newDeadline) source ⟨nofun, nofun⟩ nofun _
    · exact ok
  case h_5 _ _ _ under => exact ok.undisturbed (ok.lines.editTarget under _ _) (Undisturbed.editTarget under _)
  all_goals exact ok

theorem Benched.lineStop (ok : Benched s) (l : LineNo) : Benched (s.lineStop l).2 := by
  have stopped (free : (s.kinds l).Free) : Benched ((s.moveLine l .idle .request).settleChange s.committed) :=
    ok.settleMove (st := .idle) free ⟨nofun, nofun⟩ nofun _
  have lines := ok.lines.lineStop l
  unfold State.lineStop at lines ⊢
  split
  case h_1 d state => exact stopped (by rw [State.kinds, state]; exact ⟨nofun, nofun⟩)
  case h_2 state => exact stopped (by rw [State.kinds, state]; exact ⟨nofun, nofun⟩)
  case h_4 state =>
    rw [state] at lines
    have shed : s.kinds l = .shed := by rw [State.kinds, state]; rfl
    exact ok.undisturbed lines ((Undisturbed.setShed _ s).trans (Undisturbed.moveLine _ _ (.inr shed)))
  case h_6 _ _ _ under => exact ok.undisturbed (ok.lines.editTarget under _ _) (Undisturbed.editTarget under _)
  all_goals exact ok

theorem Benched.lineClear (ok : Benched s) (l : LineNo) : Benched (s.lineClear l).2 := by
  refine ok.undisturbed (ok.lines.lineClear l) ?_
  unfold State.lineClear
  split
  case h_1 q state =>
    refine (Undisturbed.setFail l 0 s).trans (Undisturbed.moveLine _ _ (.inl ?_))
    rw [(SameLines.setFail l 0 s).kinds, State.kinds, state]
    exact ⟨nofun, nofun⟩
  case h_2 q c under =>
    exact (Undisturbed.setFail l 0 s).trans (Undisturbed.editTarget ((SameLines.setFail l 0 s l).1.trans under) _)
  case h_3 => exact Undisturbed.refl s

theorem Benched.lineEquip (ok : Benched s) (l : LineNo) : Benched (s.lineEquip l).2 := by
  refine ok.undisturbed (ok.lines.lineEquip l) ?_
  unfold State.lineEquip
  split
  · exact Undisturbed.refl s
  case isFalse gone =>
    refine (Undisturbed.setFail l 0 s).trans (Undisturbed.moveLine _ _ (.inl ?_))
    have state : (s.line l).state = .unequipped := by simpa [State.equipped] using gone
    rw [(SameLines.setFail l 0 s).kinds, State.kinds, state]
    exact ⟨nofun, nofun⟩

theorem Benched.lineUnequip (ok : Benched s) (l : LineNo) : Benched (s.lineUnequip l).2 := by
  refine ok.undisturbed (ok.lines.lineUnequip l) ?_
  have gone (source : (s.kinds l).Free) : Undisturbed s ((s.setFail l 0).moveLine l .unequipped .request) := by
    refine (Undisturbed.setFail l 0 s).trans (Undisturbed.moveLine _ _ (.inl ?_))
    rwa [(SameLines.setFail l 0 s).kinds]
  unfold State.lineUnequip
  split
  case h_1 state =>
    split
    · exact Undisturbed.refl s
    · exact gone (by rw [State.kinds, state]; exact ⟨nofun, nofun⟩)
  case h_2 q state =>
    split
    · exact Undisturbed.refl s
    · exact gone (by rw [State.kinds, state]; exact ⟨nofun, nofun⟩)
  case h_3 => exact Undisturbed.refl s

/-- A line record changed in nothing but profile, fail count or counters. -/
theorem Undisturbed.setLine (l : LineNo) (f : LineRec → LineRec) (keeps : ∀ r, (f r).state = r.state) (s : State) :
    Undisturbed s (s.setLine l f) where
  gen := rfl
  power := rfl
  current := rfl
  line k t c state := by
    refine ⟨t, ?_⟩
    rw [State.line_setLine]
    split
    case isTrue same => rw [keeps, ← same, state]
    case isFalse => exact state

theorem Benched.lineProfile (ok : Benched s) (l : LineNo) (p : Profile) : Benched (s.lineProfile l p).2 := by
  unfold State.lineProfile
  split
  · exact ok
  · split
    · exact ok
    · have set : Benched (s.setLine l fun r => { r with profile := p }) :=
        ok.undisturbed (ok.lines.setLine l fun _ => rfl) (Undisturbed.setLine l _ (by exact fun _ => rfl) s)
      exact set.settleChange _

theorem Benched.lineQuery (ok : Benched s) (l : LineNo) (clear : Bool) : Benched (s.lineQuery l clear).2 := by
  refine ok.undisturbed (ok.lines.lineQuery l clear) ?_
  unfold State.lineQuery
  dsimp only
  split
  · exact Undisturbed.setLine l _ (by exact fun _ => rfl) s
  · exact Undisturbed.refl s

/-! ### Test requests -/

theorem Benched.testOrder (ok : Benched s) (p : PortId) (l : LineNo) (i q c : Bool) (steps : List RawStep) :
    Benched (s.testOrder p l i q c steps).2 := by
  unfold State.testOrder
  split
  · exact ok
  · split
    · exact ok
    case isFalse equipped =>
      split
      · exact ok
      · split
        · exact ok
        · split
          · exact ok
          · exact (ok.undisturbed (ok.lines.enqueue (by simpa using equipped)) (Undisturbed.engine _ rfl)).attempt

theorem Benched.beginExit (ok : Benched s) {c : Current} (current : s.engine.current = some c) (cause : Cause) :
    Benched (s.beginExit cause) := ⟨ok.lines.onward (Onward.beginExit cause s), ok.stood.beginExit current cause⟩

theorem Benched.testCancel (ok : Benched s) (p : PortId) (id : Nat) : Benched (s.testCancel p id).2 := by
  unfold State.testCancel
  split
  · split
    · exact ok
    · exact (ok.removeOrder .cancel _).attempt
  · split
    · exact ok
    case h_2 c current =>
      split
      · exact ok
      · split
        · exact ok
        · split
          · exact ok.beginExit current .cancel
          · exact ok

theorem Benched.testResult (ok : Benched s) (p : PortId) (oldest : Bool) (id : Nat) :
    Benched (s.testResult p oldest id).2 := by
  refine ok.undisturbed (ok.lines.testResult p oldest id) ?_
  unfold State.testResult
  split
  · exact Undisturbed.refl s
  · exact Undisturbed.engine _ rfl

theorem Benched.testHalt (ok : Benched s) : Benched s.testHalt.2 := by
  have removed := ok.removeOrders .halt s.engine.queue
  unfold State.testHalt
  dsimp only
  split
  · exact removed
  case h_2 c current =>
    split
    · exact removed.beginExit ((State.removeOrders_current _ _ s).trans current) .halt
    · exact removed

/-! ### Every step -/

theorem benched_steady : Steady Benched where
  notice n _ ok := ok.notify n
  points _ _ power ok := ok.congr rfl rfl rfl rfl rfl power
  source _ _ ok := ok.energy _ rfl
  attempt _ ok := ok.attempt
  surge s ok := ⟨ok.lines.onward (Onward.takeSurge s), ok.stood.takeSurge⟩
  door s ok := ⟨ok.lines.onward (Onward.takeDoor s), ok.stood.takeDoor⟩
  removed cause os _ _ ok := ok.removeOrders cause os
  changeSupply new source _ ok := ok.changeSupply new source

theorem Benched.traffic (ok : Benched s) (lines : LinesOk u) (states : SameLines s u) (gen : u.gen = s.gen)
    (points : u.points = s.points) (engine : u.engine = s.engine) : Benched u :=
  ok.undisturbed lines (Undisturbed.of_sameLines states gen (by rw [points]) (by rw [engine]))

theorem benched_requests : Requests Benched where
  clearStatus s ok := ok.traffic (linesOk_requests.clearStatus s ok.lines) (SameLines.of_lines (by simp)) (by simp)
    (by simp) (by simp)
  setParameter id value _ ok := ok.setParameter id value
  fetch s ok := ok.traffic (linesOk_requests.fetch s ok.lines) (SameLines.of_lines (by simp)) (by simp) (by simp) (by simp)
  lineStart l _ ok := ok.lineStart l
  lineStop l _ ok := ok.lineStop l
  lineProfile l p _ ok := ok.lineProfile l p
  lineClear l _ ok := ok.lineClear l
  lineQuery l clear _ ok := ok.lineQuery l clear
  lineEquip l _ ok := ok.lineEquip l
  lineUnequip l _ ok := ok.lineUnequip l
  flowPut k c s ok := ok.traffic (ok.lines.flowPut k c) (SameLines.flowPut k c s) (by simp) (by simp) (by simp)
  flowPlace c s ok := ok.traffic (ok.lines.flowPlace c) (SameLines.flowPlace c s) (by simp) (by simp) (by simp)
  flowDrop k s ok := ok.traffic (linesOk_requests.flowDrop k s ok.lines) (SameLines.of_lines (by simp)) (by simp) (by simp)
    (by simp)
  flowClear b s ok := ok.traffic (linesOk_requests.flowClear b s ok.lines) (SameLines.of_lines (by simp)) (by simp)
    (by simp) (by simp)
  testOrder p l i q c steps _ ok := ok.testOrder p l i q c steps
  testCancel p id _ ok := ok.testCancel p id
  testResult p oldest id _ ok := ok.testResult p oldest id
  testHalt _ ok := ok.testHalt
  supply st _ ok := benched_steady.supplyRequest st ok
  budgetSet st n s ok := by
    unfold State.budgetSet
    split
    · exact ok
    · split
      · exact ok
      · exact ok.putBudget _ _
  pointAssign p f pol _ ok := benched_steady.pointAssign p f pol ok
  pointDrive p active _ ok := benched_steady.pointDrive p active ok

/-- A start leaves the bench idle, and no pass changes that (R100, R128). -/
theorem Benched.start (cause : StartCause) (s : State) : Benched (s.start cause) := by
  have begun (st : Settings) (v : SettingsStatus) (u : State) :
      Benched (u.startWith st v cause).sheddingPass.startSurgeNotice := by
    have idle : Idle (u.startWith st v cause) := ⟨rfl, rfl, rfl, rfl, rfl, rfl, rfl⟩
    have started : Benched (u.startWith st v cause) := ⟨LinesOk.startWith st v cause u, .inl idle⟩
    exact started.sheddingPass.congr (by simp) (by simp) (by simp) (by simp) (by simp) (by simp)
  unfold State.start
  dsimp only
  split <;> exact begun _ _ _

theorem benched_kept : Kept Benched where
  time t s ok := ok.traffic (linesOk_kept.time t s ok.lines) (SameLines.of_lines (by simp)) (by simp) (by simp) (by simp)
  recv p r s ok := ok.traffic (linesOk_kept.recv p r s ok.lines) (SameLines.of_lines (by simp)) (by simp) (by simp)
    (by simp)
  job p j s ok := ok.traffic (linesOk_kept.job p j s ok.lines) (SameLines.of_lines (by simp)) (by simp) (by simp) (by simp)
  fault p f s ok := ok.traffic (linesOk_kept.fault p f s ok.lines) (SameLines.of_lines (by simp)) (by simp) (by simp)
    (by simp)
  inForce s ok := ok.traffic (linesOk_kept.inForce s ok.lines) (SameLines.of_lines (by simp)) (by simp) (by simp) (by simp)
  saved st v n s ok := ok.traffic (linesOk_kept.saved st v n s ok.lines) (SameLines.of_lines (by simp)) (by simp)
    (by simp) (by simp)
  power on low s ok := ok.traffic (linesOk_kept.power on low s ok.lines) (SameLines.of_lines (by simp)) (by simp)
    (by simp) (by simp)
  queue cs s ok := ok.traffic (linesOk_kept.queue cs s ok.lines) (SameLines.of_lines (by simp)) (by simp) (by simp)
    (by simp)
  start cause s _ := Benched.start cause s
  own p r _ ok := benched_requests.own p r ok
  syncUp l _ ok := ok.syncUp l
  syncLost l _ ok := ok.syncLost l
  deadline l _ ok := ok.deadlineExpires l
  arriveUp l tag len s frame ok := ok.traffic (linesOk_kept.arriveUp l tag len s frame ok.lines)
    (SameLines.arriveUp l tag len s) (by simp) (by simp) (by simp)
  arriveDown tag len s frame ok := ok.traffic (linesOk_kept.arriveDown tag len s frame ok.lines)
    (SameLines.arriveDown tag len s) (by simp) (by simp) (by simp)
  takeDown l s ok := ok.traffic (linesOk_kept.takeDown l s ok.lines) (SameLines.takeDown l s) (by simp) (by simp) (by simp)
  takeUp s ok := ok.traffic (linesOk_kept.takeUp s ok.lines) (SameLines.takeUp s) (by simp) (by simp) (by simp)
  expireHeld l tag s ok := ok.traffic (linesOk_kept.expireHeld l tag s ok.lines) (SameLines.expireHeld l tag s) (by simp)
    (by simp) (by simp)
  decide s ok := ok.traffic (linesOk_kept.decide s ok.lines) (SameLines.of_lines (by simp)) (by simp) (by simp) (by simp)
  uplink r s ok := ok.traffic (linesOk_kept.uplink r s ok.lines) (SameLines.of_lines (by simp)) (by simp) (by simp)
    (by simp)
  stepGen s ok := ⟨ok.lines.onward (Onward.stepGen s), ok.stood.stepGen⟩
  endWarmup s ok := ⟨ok.lines.onward (Onward.endWarmup s), ok.stood.endWarmup⟩
  endFirstSettle s ok := ⟨ok.lines.onward (Onward.endFirstSettle s), ok.stood.endFirstSettle⟩
  endSecondSettle s ok := ⟨ok.lines.onward (Onward.endSecondSettle s), ok.stood.endSecondSettle⟩
  reading r s ok := ⟨ok.lines.onward (Onward.takeReading r s), ok.stood.takeReading r⟩
  hazard s ok := ⟨ok.lines.onward (Onward.takeHazard s), ok.stood.takeHazard⟩
  endRelease _ ok := ok.endRelease
  endDwell s ok := ⟨ok.lines.onward (Onward.endDwell s), ok.stood.endDwell⟩
  endExit _ ok := ok.endExit
  input p v _ ok := benched_steady.inputChange p v ok
  endDebounce p _ ok := benched_steady.endDebounce p ok
  endSurgeClear _ ok := benched_steady.endSurgeClear ok
  endQuiet _ ok := benched_steady.endQuiet ok

/-- Settles O58: generator, relay and phase go together through every phase, and nothing else touches them. -/
theorem benchKept : Obligations.BenchKept := fun s u lines bench stepped => by
  have ok := benched_kept.step s u ⟨lines, (benchOk_iff lines).mp bench⟩ stepped
  exact (benchOk_iff ok.lines).mpr ok.stood

end

end Sys2Proof.Machine
end

section
/-! Order ids (R104): how often an id is in use, what each operation of the engine does to that, that a free id is found,
and every step. -/

namespace Sys2Proof.Machine

/-! ### How often an id is in use -/

/-- The uses of an id by the queue, the current order and the results. -/
theorem Engine.count_ids (a : Nat) (e : Engine) : e.ids.count a =
    (e.queue.map TestOrder.id).count a + ((e.current.map Current.order).map TestOrder.id).toList.count a +
      (e.results.map Result.id).count a := by
  simp only [Engine.ids, List.count_append, Option.map_map]
  rfl

/-- No id is in use more often than before, and the last id given is one. -/
structure Fewer (e f : Engine) : Prop where
  ids : ∀ a, f.ids.count a ≤ e.ids.count a
  last : f.lastId = e.lastId

theorem Fewer.of_eq {e f : Engine} (h : f = e) : Fewer e f := ⟨fun _ => h ▸ le_rfl, h ▸ rfl⟩

theorem Fewer.trans {e f g : Engine} (h : Fewer e f) (k : Fewer f g) : Fewer e g :=
  ⟨fun a => (k.ids a).trans (h.ids a), k.last.trans h.last⟩

theorem idsOk_iff (s : State) : IdsOk s ↔
    (∀ a, s.engine.ids.count a ≤ 1) ∧ (∀ a, 0 < s.engine.ids.count a → 1 ≤ a ∧ a ≤ 255) ∧ s.engine.lastId ≤ 255 := by
  constructor
  · exact fun ok => ⟨List.nodup_iff_count_le_one.mp ok.distinct, fun a used => ok.range a (List.count_pos_iff.mp used), ok.last⟩
  · exact fun ⟨distinct, range, last⟩ =>
      ⟨List.nodup_iff_count_le_one.mpr distinct, fun a used => range a (List.count_pos_iff.mpr used), last⟩

section
variable {s u : State}

theorem IdsOk.fewer (ok : IdsOk s) (h : Fewer s.engine u.engine) : IdsOk u := by
  obtain ⟨distinct, range, last⟩ := (idsOk_iff s).mp ok
  exact (idsOk_iff u).mpr ⟨fun a => (h.ids a).trans (distinct a), fun a used => range a (used.trans_le (h.ids a)),
    h.last ▸ last⟩

/-- The same orders and results, whatever the phase of the current order. -/
theorem Fewer.of_orders {e f : Engine} (queue : f.queue = e.queue) (results : f.results = e.results)
    (last : f.lastId = e.lastId) (order : f.current.map Current.order = e.current.map Current.order) : Fewer e f :=
  ⟨fun a => by rw [Engine.count_ids, Engine.count_ids, queue, results, order], last⟩

theorem Onward.fewer (h : Onward s u) : Fewer s.engine u.engine :=
  Fewer.of_orders h.queue h.results h.lastId h.order

/-! ### The passes -/

theorem Fewer.shedLoop (n : Nat) (s : State) : Fewer s.engine (s.shedLoop n).engine := by
  induction n generalizing s with
  | zero => exact Fewer.of_eq rfl
  | succ n ih =>
    rw [State.shedLoop]
    split
    · exact Fewer.of_eq rfl
    · split
      · exact ih (s.setCap (s.energy.cap - 1))
      · split
        case h_1 l _ => exact (Fewer.of_eq (by simp [State.shedLine])).trans (ih (s.shedLine l))
        case h_2 => exact (Onward.takeEnergyPass s).fewer

theorem Fewer.sheddingPass (s : State) : Fewer s.engine s.sheddingPass.engine := Fewer.shedLoop 28 s

theorem Fewer.passFor (before after : Nat) (s : State) : Fewer s.engine (s.passFor before after).engine := by
  unfold State.passFor
  split
  · exact Fewer.sheddingPass s
  · split
    · exact Fewer.of_eq (by simp)
    · exact Fewer.of_eq rfl

theorem Fewer.budgetPass (before : Nat) (s : State) : Fewer s.engine (s.budgetPass before).engine := by
  unfold State.budgetPass
  split
  · exact Fewer.sheddingPass s
  · split
    · exact Fewer.of_eq (by simp)
    · exact Fewer.of_eq rfl

/-! ### Results stored (R123) -/

/-- A record stored adds at most its own id. -/
theorem Engine.count_store (a : Nat) (r : Result) (e : Engine) : (e.store r).ids.count a ≤ e.ids.count a + [r.id].count a := by
  have results : ((e.store r).results.map Result.id).count a ≤ (e.results.map Result.id).count a + [r.id].count a := by
    unfold Engine.store
    split
    · simp
    · have dropped := ((List.drop_sublist 1 e.results).map Result.id).count_le a
      simp only [List.map_append, List.count_append, List.map_cons, List.map_nil]
      omega
  obtain ⟨queue, current, -⟩ := Engine.store_queue r e
  rw [Engine.count_ids, Engine.count_ids, queue, current]
  omega

/-- The queue without an order of it uses that order's id once less. -/
theorem count_dequeue (a : Nat) {o : TestOrder} {q : List TestOrder} (mem : o ∈ q) :
    ((q.filter fun p => p.id != o.id).map TestOrder.id).count a + [o.id].count a ≤ (q.map TestOrder.id).count a := by
  have filtered : (q.filter fun p => p.id != o.id).map TestOrder.id = (q.map TestOrder.id).filter fun i => i != o.id := by
    rw [List.filter_map]
    rfl
  rw [filtered]
  by_cases same : a = o.id
  · subst same
    have gone : ((q.map TestOrder.id).filter fun i => i != o.id).count o.id = 0 := by
      rw [List.count_eq_zero]
      simp
    have used : 0 < (q.map TestOrder.id).count o.id := List.count_pos_iff.mpr (List.mem_map_of_mem mem)
    rw [gone, List.count_singleton_self]
    omega
  · have other : [o.id].count a = 0 := by simp [Ne.symm same]
    rw [other]
    exact (List.filter_sublist (l := q.map TestOrder.id)).count_le a

theorem Fewer.dequeue_store {o : TestOrder} (mem : o ∈ s.engine.queue) {r : Result} (id : r.id = o.id) :
    Fewer s.engine ((s.dequeue o).storeResult r).engine := by
  refine ⟨fun a => ?_, ?_⟩
  · have stored := Engine.count_store a r (s.dequeue o).engine
    have left := count_dequeue a mem
    have engine : ((s.dequeue o).storeResult r).engine = (s.dequeue o).engine.store r := by simp [State.storeResult]
    rw [id] at stored
    rw [engine]
    rw [Engine.count_ids] at stored ⊢
    rw [Engine.count_ids a s.engine]
    simp only [State.dequeue_engine] at stored ⊢
    rw [Engine.count_ids] at stored
    dsimp only at stored
    omega
  · simp [State.storeResult, (Engine.store_queue _ _).2.2]

theorem Fewer.removeOrder {o : TestOrder} (cause : Cause) (mem : o ∈ s.engine.queue) :
    Fewer s.engine (State.removeOrder cause s o).engine := Fewer.dequeue_store mem rfl

theorem Fewer.refuseOrder {o : TestOrder} (mem : o ∈ s.engine.queue) : Fewer s.engine (s.refuseOrder o).engine :=
  Fewer.dequeue_store mem rfl

/-! ### Orders taken and ended (R109, R118, R136) -/

theorem Engine.candidate_mem {e : Engine} {o : TestOrder} (h : e.candidate = some o) : o ∈ e.queue := by
  unfold Engine.candidate at h
  split at h
  case h_1 found =>
    cases h
    exact List.mem_of_find?_eq_some found
  case h_2 => exact List.mem_of_head? h

theorem Fewer.acquire {o : TestOrder} (mem : o ∈ s.engine.queue) (idle : s.engine.current = none) (target : Target) :
    Fewer s.engine (s.acquire o target).engine := by
  have taken : Fewer s.engine (((s.dequeue o).withdraw o.line target).makeCurrent o).engine := by
    refine ⟨fun a => ?_, by simp [State.withdraw, State.makeCurrent]⟩
    have left := count_dequeue a mem
    rw [Engine.count_ids, Engine.count_ids a s.engine, idle]
    simp only [State.makeCurrent, State.withdraw, State.moveLine_frame, State.setShed_frame, State.dequeue_engine,
      Option.map_some, Option.map_none, Option.toList_some, Option.toList_none, List.count_nil]
    omega
  exact taken.trans (Fewer.passFor _ _ _)

theorem Fewer.attemptLoop (n : Nat) (s : State) : Fewer s.engine (s.attemptLoop n).engine := by
  induction n generalizing s with
  | zero => exact Fewer.of_eq rfl
  | succ n ih =>
    rw [State.attemptLoop]
    split
    · exact Fewer.of_eq rfl
    case isFalse free =>
      have idle : s.engine.current = none := by simpa using free
      split
      · exact Fewer.of_eq rfl
      case h_2 o candidate =>
        have mem := Engine.candidate_mem candidate
        have refused : Fewer s.engine ((s.refuseOrder o).attemptLoop n).engine :=
          (Fewer.refuseOrder mem).trans (ih (s.refuseOrder o))
        split
        · split
          · exact Fewer.acquire mem idle _
          · exact Fewer.acquire mem idle _
          · split
            · exact Fewer.acquire mem idle _
            · exact refused
          · split
            · exact Fewer.acquire mem idle _
            · exact refused
          · exact Fewer.acquire mem idle _
          · exact Fewer.of_eq rfl
          · exact Fewer.of_eq rfl
        · exact Fewer.of_eq rfl

theorem Fewer.attempt (s : State) : Fewer s.engine s.attempt.engine := Fewer.attemptLoop _ s

theorem Fewer.settleChange (before : Nat) (s : State) : Fewer s.engine (s.settleChange before).engine := by
  unfold State.settleChange
  split
  · exact Fewer.of_eq rfl
  · exact (Fewer.passFor _ _ s).trans (Fewer.attempt _)

/-- The id of the order that ends goes from the current order to the result store. -/
theorem Fewer.finishOrder {c : Current} (current : s.engine.current = some c) :
    Fewer s.engine (s.finishOrder c).engine := by
  obtain ⟨r, -, -, -, engine, -⟩ := State.reported_spec c s
  have reported : Fewer s.engine (s.reported c).engine := by
    refine ⟨fun a => ?_, by rw [engine, (Engine.store_queue _ _).2.2]⟩
    have stored := Engine.count_store a (c.result r) { s.engine with current := none }
    have same : ({ s.engine with current := none } : Engine).store (c.result r) =
        { s.engine.store (c.result r) with current := none } := by
      unfold Engine.store
      split <;> rfl
    rw [engine, ← same]
    refine stored.trans ?_
    rw [Engine.count_ids, Engine.count_ids a s.engine, current]
    simp [Current.result]
    omega
  rw [State.finishOrder_eq]
  exact reported.trans ((Fewer.of_eq (by simp)).trans (Fewer.attempt _))

theorem Fewer.endRelease (s : State) : Fewer s.engine s.endRelease.engine := by
  unfold State.endRelease
  split
  · exact Fewer.of_eq rfl
  case h_2 c current =>
    split
    · split
      · exact Fewer.finishOrder current
      · exact Fewer.of_eq rfl
    · exact Fewer.of_eq rfl

theorem Fewer.endExit (s : State) : Fewer s.engine s.endExit.engine := by
  unfold State.endExit
  split
  · exact Fewer.of_eq rfl
  case h_2 c current =>
    split
    · split
      · split
        · exact Fewer.finishOrder current
        · exact Fewer.of_eq rfl
      · exact Fewer.of_eq rfl
    · exact Fewer.of_eq rfl

/-! ### Supply, budgets and the cap ceiling -/

theorem Fewer.changeSupply (new : Supply) (source : SupplySource) (s : State) :
    Fewer s.engine (s.changeSupply new source).engine := by
  have noticed (n : Notice) (u : State)
      (h : Fewer (State.notify n { s with energy := { s.energy with supply := new, source := source } }).engine u.engine) :
      Fewer s.engine (u.budgetPass s.budget).attempt.engine :=
    (Fewer.of_eq (by simp)).trans (h.trans ((Fewer.budgetPass _ u).trans (Fewer.attempt _)))
  unfold State.changeSupply
  dsimp only
  split
  · exact noticed _ _ (Onward.takeEnergyCrit _).fewer
  · exact noticed _ _ (Fewer.of_eq rfl)

theorem Fewer.putBudget (st : Supply) (n : Nat) (s : State) : Fewer s.engine (s.putBudget st n).engine := by
  unfold State.putBudget
  dsimp only
  split
  · exact Fewer.of_eq rfl
  · refine Fewer.trans ?_ (Fewer.attempt _)
    exact Fewer.trans (Fewer.of_eq (by simp)) (Fewer.budgetPass _ _)

theorem Fewer.ceilingSet (old : Nat) (s : State) : Fewer s.engine (s.ceilingSet old).engine := by
  unfold State.ceilingSet
  split
  · exact Fewer.trans (Fewer.of_eq (by simp)) (Fewer.attempt _)
  · split
    · unfold State.attemptIfMoved
      split
      · exact Fewer.of_eq (by simp)
      · exact Fewer.trans (Fewer.of_eq (by simp)) (Fewer.attempt _)
    · exact Fewer.of_eq rfl

theorem Fewer.setParameter (id value : Nat) (s : State) : Fewer s.engine (s.setParameter id value).2.engine := by
  unfold State.setParameter
  split
  · exact Fewer.of_eq rfl
  · split
    · exact Fewer.of_eq rfl
    · unfold State.putParameter
      dsimp only
      split
      · exact Fewer.ceilingSet s.params.capCeiling { s with params := s.params.put id value }
      · exact Fewer.of_eq rfl

/-! ### Lines -/

theorem Fewer.deadlineExpires (l : LineNo) (s : State) : Fewer s.engine (s.deadlineExpires l).engine := by
  unfold State.deadlineExpires
  split
  · split
    · exact Fewer.trans (Fewer.of_eq (by simp)) (Fewer.settleChange _ _)
    · exact Fewer.of_eq rfl
  · exact Fewer.of_eq rfl

theorem Fewer.lineStart (l : LineNo) (s : State) : Fewer s.engine (s.lineStart l).2.engine := by
  unfold State.lineStart
  split
  case h_1 =>
    split
    · exact Fewer.trans (Fewer.of_eq (by simp)) (Fewer.settleChange _ _)
    · exact Fewer.of_eq rfl
  all_goals exact Fewer.of_eq rfl

theorem Fewer.lineStop (l : LineNo) (s : State) : Fewer s.engine (s.lineStop l).2.engine := by
  have stopped : Fewer s.engine ((s.moveLine l .idle .request).settleChange s.committed).engine :=
    Fewer.trans (Fewer.of_eq (by simp)) (Fewer.settleChange _ _)
  unfold State.lineStop
  split
  case h_1 => exact stopped
  case h_2 => exact stopped
  case h_4 => exact Fewer.of_eq (by simp)
  all_goals exact Fewer.of_eq rfl

theorem Fewer.lineProfile (l : LineNo) (p : Profile) (s : State) : Fewer s.engine (s.lineProfile l p).2.engine := by
  unfold State.lineProfile
  split
  · exact Fewer.of_eq rfl
  · split
    · exact Fewer.of_eq rfl
    · exact Fewer.settleChange s.committed (s.setLine l fun r => { r with profile := p })

end

end Sys2Proof.Machine
end

section
/-! Order ids, to their end: a new order finds an id not in use, and every step keeps the ids apart (R104). -/

namespace Sys2Proof.Machine

/-! ### A free id is found (R104) -/

theorem Engine.uses_iff (e : Engine) (a : Nat) : e.uses a = true ↔ a ∈ e.ids := by
  simp only [Engine.uses, Engine.ids, Bool.or_eq_true, List.mem_append, List.mem_map, List.any_eq_true, beq_iff_eq]
  cases e.current with
  | none => simp
  | some c =>
    simp only [beq_iff_eq, Option.map_some, Option.toList_some, List.mem_singleton]
    rw [or_right_comm, eq_comm (a := a)]

theorem idAfter_range {n : Nat} (h : n ≤ 255) : 1 ≤ idAfter n ∧ idAfter n ≤ 255 := by
  unfold idAfter
  split <;> omega

/-- The j-th number after n, returning from 255 to 1. -/
def idAt (n j : Nat) : Nat := (n - 1 + j) % 255 + 1

theorem idAt_zero {n : Nat} (h : 1 ≤ n ∧ n ≤ 255) : idAt n 0 = n := by
  unfold idAt
  omega

theorem idAt_succ {n : Nat} (h : 1 ≤ n ∧ n ≤ 255) (j : Nat) : idAt (idAfter n) j = idAt n (j + 1) := by
  unfold idAt idAfter
  split <;> omega

theorem idAt_range (n j : Nat) : 1 ≤ idAt n j ∧ idAt n j ≤ 255 := by
  unfold idAt
  omega

theorem idAt_injOn {n i j : Nat} (hi : i < 26) (hj : j < 26) (same : idAt n i = idAt n j) : i = j := by
  unfold idAt at same
  omega

/-- The search ends at a number not in use, unless all that it tries are. -/
theorem Engine.freeId_spec (e : Engine) (k : Nat) {n : Nat} (h : 1 ≤ n ∧ n ≤ 255) :
    (∃ j, e.freeId k n = idAt n j ∧ e.uses (idAt n j) = false) ∨ ∀ j < k, e.uses (idAt n j) = true := by
  induction k generalizing n with
  | zero => exact .inr nofun
  | succ k ih =>
    rw [Engine.freeId]
    split
    case isFalse free => exact .inl ⟨0, (idAt_zero h).symm, by rw [idAt_zero h]; simpa using free⟩
    case isTrue used =>
      rcases ih (idAfter_range h.2) with ⟨j, found, free⟩ | all
      · rw [idAt_succ h] at found free
        exact .inl ⟨j + 1, found, free⟩
      · refine .inr fun j hj => ?_
        cases j with
        | zero => rwa [idAt_zero h]
        | succ j => rw [← idAt_succ h]; exact all j (by omega)

/-- Twenty-five ids in use leave one of the 26 tried free. -/
theorem Engine.nextId_spec {e : Engine} (last : e.lastId ≤ 255) (room : e.ids.length ≤ 25) :
    (1 ≤ e.nextId ∧ e.nextId ≤ 255) ∧ e.nextId ∉ e.ids := by
  rcases e.freeId_spec 26 (idAfter_range last) with ⟨j, found, free⟩ | all
  · have next : e.nextId = idAt (idAfter e.lastId) j := found
    rw [next]
    refine ⟨idAt_range _ j, fun used => ?_⟩
    rw [(e.uses_iff _).mpr used] at free
    cases free
  · have tried : ((List.range 26).map (idAt (idAfter e.lastId))).Nodup := by
      rw [List.nodup_map_iff_inj_on List.nodup_range]
      exact fun i hi j hj same => idAt_injOn (List.mem_range.mp hi) (List.mem_range.mp hj) same
    have within : (List.range 26).map (idAt (idAfter e.lastId)) ⊆ e.ids := fun a ha => by
      obtain ⟨j, hj, rfl⟩ := List.mem_map.mp ha
      exact (e.uses_iff _).mp (all j (List.mem_range.mp hj))
    have more := (List.subperm_of_subset tried within).length_le
    rw [List.length_map, List.length_range] at more
    omega

theorem Engine.ids_length (e : Engine) : e.ids.length ≤ e.queue.length + 1 + e.results.length := by
  simp only [Engine.ids, List.length_append, List.length_map]
  cases e.current <;> simp

section
variable {s u : State}

/-- An order with a new id joins the queue (R103, R104). -/
theorem IdsOk.enqueue (ok : IdsOk s) {o : TestOrder} (range : 1 ≤ o.id ∧ o.id ≤ 255) (new : o.id ∉ s.engine.ids) :
    IdsOk (s.enqueue o) := by
  obtain ⟨distinct, inRange, -⟩ := (idsOk_iff s).mp ok
  have added (a : Nat) : (s.enqueue o).engine.ids.count a = s.engine.ids.count a + [o.id].count a := by
    rw [Engine.count_ids, Engine.count_ids]
    simp only [State.enqueue_engine, List.map_append, List.count_append, List.map_cons, List.map_nil]
    omega
  have unused : s.engine.ids.count o.id = 0 := List.count_eq_zero.mpr new
  refine (idsOk_iff _).mpr ⟨fun a => ?_, fun a used => ?_, range.2⟩
  · rw [added]
    by_cases same : a = o.id
    · rw [same, unused, List.count_singleton_self]
    · have other : [o.id].count a = 0 := by simp [Ne.symm same]
      rw [other]
      exact distinct a
  · by_cases same : a = o.id
    · rw [same]
      exact range
    · have other : [o.id].count a = 0 := by simp [Ne.symm same]
      rw [added, other] at used
      exact inRange a used

/-- Orders of the queue are removed one after another, each still in the queue when its turn comes. -/
theorem IdsOk.removeOrders (cause : Cause) (os : List TestOrder) {s : State} (ok : IdsOk s)
    (listed : os.Sublist s.engine.queue) : IdsOk (os.foldl (State.removeOrder cause) s) := by
  induction os generalizing s with
  | nil => exact ok
  | cons o os ih =>
    have once : (s.engine.queue.map TestOrder.id).Nodup := by
      have distinct := ok.distinct
      rw [Engine.ids] at distinct
      exact (List.nodup_append.mp (List.nodup_append.mp distinct).1).1
    have mem : o ∈ s.engine.queue := listed.subset List.mem_cons_self
    have apart : ∀ p ∈ os, p.id ≠ o.id := fun p hp same =>
      (List.nodup_cons.mp ((listed.map TestOrder.id).nodup once)).1 (same ▸ List.mem_map_of_mem hp)
    refine ih (ok.fewer (Fewer.removeOrder cause mem)) ?_
    have queue : (State.removeOrder cause s o).engine.queue = s.engine.queue.filter fun p => p.id != o.id := by
      simp [State.removeOrder, State.storeResult, (Engine.store_queue _ _).1]
    rw [queue]
    have kept : os.filter (fun p => p.id != o.id) = os := List.filter_eq_self.mpr fun p hp => by simpa using apart p hp
    exact kept ▸ ((List.sublist_cons_self o os).trans listed).filter _

/-! ### Changes of one line leave the engine -/

theorem State.lineClear_engine (l : LineNo) (s : State) : (s.lineClear l).2.engine = s.engine := by
  unfold State.lineClear
  split <;> simp [State.editTarget]

theorem State.lineEquip_engine (l : LineNo) (s : State) : (s.lineEquip l).2.engine = s.engine := by
  unfold State.lineEquip
  split <;> simp

theorem State.lineUnequip_engine (l : LineNo) (s : State) : (s.lineUnequip l).2.engine = s.engine := by
  unfold State.lineUnequip
  split
  · split <;> simp
  · split <;> simp
  · rfl

theorem State.syncUp_engine (l : LineNo) (s : State) : (s.syncUp l).engine = s.engine := by
  unfold State.syncUp
  split <;> simp

theorem State.syncLost_engine (l : LineNo) (s : State) : (s.syncLost l).engine = s.engine := by
  unfold State.syncLost
  split <;> simp

/-! ### Every step -/

/-- Capacities and ranges, and the ids apart: a new id rests on the capacities of queue and result store. -/
structure Numbered (s : State) : Prop where
  ranges : RangesOk s
  ids : IdsOk s

theorem Numbered.fewer (ok : Numbered s) (ranges : RangesOk u) (h : Fewer s.engine u.engine) : Numbered u :=
  ⟨ranges, ok.ids.fewer h⟩

theorem Numbered.congr (ok : Numbered s) (ranges : RangesOk u) (engine : u.engine = s.engine) : Numbered u :=
  ok.fewer ranges (Fewer.of_eq engine)

theorem Numbered.onward (ok : Numbered s) (h : Onward s u) : Numbered u :=
  ok.fewer (rangesOk_inward.onward s u h ok.ranges) h.fewer

theorem Numbered.attempt (ok : Numbered s) : Numbered s.attempt :=
  ok.fewer (rangesOk_inward.attempt ok.ranges) (Fewer.attempt s)

theorem Numbered.removeOrders (ok : Numbered s) (cause : Cause) {os : List TestOrder}
    (listed : os.Sublist s.engine.queue) : Numbered (os.foldl (State.removeOrder cause) s) :=
  ⟨rangesOk_inward.removeOrders cause os ok.ranges, ok.ids.removeOrders cause os listed⟩

theorem Numbered.testOrder (ok : Numbered s) (p : PortId) (l : LineNo) (i q c : Bool) (steps : List RawStep) :
    Numbered (s.testOrder p l i q c steps).2 := by
  refine ⟨rangesOk_inward.testOrder p l i q c steps ok.ranges, ?_⟩
  unfold State.testOrder
  split
  · exact ok.ids
  · split
    · exact ok.ids
    · split
      · exact ok.ids
      · split
        · exact ok.ids
        · split
          · exact ok.ids
          case isFalse room =>
            have few : s.engine.ids.length ≤ 25 := by
              have length := s.engine.ids_length
              have results := ok.ranges.results
              simp only [Config.orderCapacity] at room
              omega
            obtain ⟨range, new⟩ := Engine.nextId_spec ok.ids.last few
            exact (ok.ids.enqueue range new).fewer (Fewer.attempt _)

theorem Numbered.testCancel (ok : Numbered s) (p : PortId) (id : Nat) : Numbered (s.testCancel p id).2 := by
  unfold State.testCancel
  split
  case h_1 o found =>
    split
    · exact ok
    · have mem : o ∈ s.engine.queue := List.mem_of_find?_eq_some found
      exact (ok.removeOrders .cancel (List.singleton_sublist.mpr mem)).attempt
  · split
    · exact ok
    · split
      · exact ok
      · split
        · exact ok
        · split
          · exact ok.onward (Onward.beginExit .cancel s)
          · exact ok

theorem Result.markRead_id (p : PortId) (r : Result) : (r.markRead p).id = r.id := by cases p <;> rfl

theorem Fewer.testResult (p : PortId) (oldest : Bool) (id : Nat) (s : State) :
    Fewer s.engine (s.testResult p oldest id).2.engine := by
  unfold State.testResult
  split
  · exact Fewer.of_eq rfl
  · refine ⟨fun a => ?_, rfl⟩
    have same : ∀ r : Result, (s.engine.results.map fun q => if q.id = r.id then q.markRead p else q).map Result.id =
        s.engine.results.map Result.id := fun r => by
      rw [List.map_map]
      refine List.map_congr_left fun q _ => ?_
      rw [Function.comp_apply]
      split
      · exact q.markRead_id p
      · rfl
    rw [Engine.count_ids, Engine.count_ids]
    simp only [same, le_refl]

theorem Numbered.testHalt (ok : Numbered s) : Numbered s.testHalt.2 := by
  have removed := ok.removeOrders .halt (List.Sublist.refl s.engine.queue)
  unfold State.testHalt
  dsimp only
  split
  · exact removed
  · split
    · exact removed.onward (Onward.beginExit .halt _)
    · exact removed

theorem numbered_steady : Steady Numbered where
  notice n s ok := ok.congr (rangesOk_inward.notice n s ok.ranges) (by simp)
  points x s _ ok := ok.congr (rangesOk_inward.points x s ok.ranges) rfl
  source v s ok := ok.congr (rangesOk_inward.energy _ s ok.ranges) rfl
  attempt _ ok := ok.attempt
  surge s ok := ok.onward (Onward.takeSurge s)
  door s ok := ok.onward (Onward.takeDoor s)
  removed cause _ _ listed ok := ok.removeOrders cause listed
  changeSupply new source s ok := ok.fewer (rangesOk_inward.changeSupply new source ok.ranges) (Fewer.changeSupply new source s)

theorem numbered_requests : Requests Numbered where
  clearStatus s ok := ok.congr (rangesOk_inward.clearStatus s ok.ranges) (by simp)
  setParameter id value s ok := ok.fewer (rangesOk_inward.setParameter id value ok.ranges) (Fewer.setParameter id value s)
  fetch s ok := ok.congr (rangesOk_inward.fetch s ok.ranges) (by simp)
  lineStart l s ok := ok.fewer (rangesOk_inward.lineStart l ok.ranges) (Fewer.lineStart l s)
  lineStop l s ok := ok.fewer (rangesOk_inward.lineStop l ok.ranges) (Fewer.lineStop l s)
  lineProfile l p s ok := ok.fewer (rangesOk_inward.lineProfile l p ok.ranges) (Fewer.lineProfile l p s)
  lineClear l _ ok := ok.congr (rangesOk_inward.lineClear l ok.ranges) (State.lineClear_engine l _)
  lineQuery l clear _ ok := ok.congr (rangesOk_inward.lineQuery l clear ok.ranges) (by simp)
  lineEquip l _ ok := ok.congr (rangesOk_inward.lineEquip l ok.ranges) (State.lineEquip_engine l _)
  lineUnequip l _ ok := ok.congr (rangesOk_inward.lineUnequip l ok.ranges) (State.lineUnequip_engine l _)
  flowPut k c _ ok := ok.congr (rangesOk_inward.flowPut k c ok.ranges) (by simp)
  flowPlace c _ ok := ok.congr (rangesOk_inward.flowPlace c ok.ranges) (by simp)
  flowDrop k _ ok := ok.congr (rangesOk_inward.flowDrop k ok.ranges) (by simp)
  flowClear b s ok := ok.congr (rangesOk_inward.requests.flowClear b s ok.ranges) (by simp)
  testOrder p l i q c steps _ ok := ok.testOrder p l i q c steps
  testCancel p id _ ok := ok.testCancel p id
  testResult p oldest id s ok :=
    ok.fewer (rangesOk_inward.testResult p oldest id ok.ranges) (Fewer.testResult p oldest id s)
  testHalt _ ok := ok.testHalt
  supply st _ ok := numbered_steady.supplyRequest st ok
  budgetSet st n s ok := by
    refine ok.fewer (rangesOk_inward.budgetSet st n ok.ranges) ?_
    unfold State.budgetSet
    split
    · exact Fewer.of_eq rfl
    · split
      · exact Fewer.of_eq rfl
      · exact Fewer.putBudget _ n s
  pointAssign p f pol _ ok := numbered_steady.pointAssign p f pol ok
  pointDrive p active _ ok := numbered_steady.pointDrive p active ok

theorem IdsOk.start (cause : StartCause) (s : State) : IdsOk (s.start cause) := by
  have begun (st : Settings) (v : SettingsStatus) (u : State) :
      IdsOk (u.startWith st v cause).sheddingPass.startSurgeNotice := by
    have started : IdsOk (u.startWith st v cause) :=
      ⟨List.nodup_nil, fun _ used => absurd used List.not_mem_nil, Nat.zero_le 255⟩
    exact started.fewer ((Fewer.sheddingPass _).trans (Fewer.of_eq (by simp)))
  unfold State.start
  dsimp only
  split <;> exact begun _ _ _

theorem numbered_kept : Kept Numbered where
  time t s ok := ok.congr (rangesOk_kept.time t s ok.ranges) (by simp)
  recv p r s ok := ok.congr (rangesOk_kept.recv p r s ok.ranges) (by simp)
  job p j s ok := ok.congr (rangesOk_kept.job p j s ok.ranges) (by simp)
  fault p f s ok := ok.congr (rangesOk_kept.fault p f s ok.ranges) (by simp)
  inForce s ok := ok.congr (rangesOk_kept.inForce s ok.ranges) (by simp)
  saved st v n s ok := ok.congr (rangesOk_kept.saved st v n s ok.ranges) (by simp)
  power on low s ok := ok.congr (rangesOk_kept.power on low s ok.ranges) (by simp)
  queue cs s ok := ok.congr (rangesOk_kept.queue cs s ok.ranges) (by simp)
  start cause s _ := ⟨RangesOk.start cause s, IdsOk.start cause s⟩
  own p r _ ok := numbered_requests.own p r ok
  syncUp l s ok := ok.congr (rangesOk_kept.syncUp l s ok.ranges) (State.syncUp_engine l s)
  syncLost l s ok := ok.congr (rangesOk_kept.syncLost l s ok.ranges) (State.syncLost_engine l s)
  deadline l s ok := ok.fewer (rangesOk_kept.deadline l s ok.ranges) (Fewer.deadlineExpires l s)
  arriveUp l tag len s frame ok := ok.congr (rangesOk_kept.arriveUp l tag len s frame ok.ranges) (by simp)
  arriveDown tag len s frame ok := ok.congr (rangesOk_kept.arriveDown tag len s frame ok.ranges) (by simp)
  takeDown l s ok := ok.congr (rangesOk_kept.takeDown l s ok.ranges) (by simp)
  takeUp s ok := ok.congr (rangesOk_kept.takeUp s ok.ranges) (by simp)
  expireHeld l tag s ok := ok.congr (rangesOk_kept.expireHeld l tag s ok.ranges) (by simp)
  decide s ok := ok.congr (rangesOk_kept.decide s ok.ranges) (by simp)
  uplink r s ok := ok.congr (rangesOk_kept.uplink r s ok.ranges) (by simp)
  stepGen s ok := ok.onward (Onward.stepGen s)
  endWarmup s ok := ok.onward (Onward.endWarmup s)
  endFirstSettle s ok := ok.onward (Onward.endFirstSettle s)
  endSecondSettle s ok := ok.onward (Onward.endSecondSettle s)
  reading r s ok := ok.onward (Onward.takeReading r s)
  hazard s ok := ok.onward (Onward.takeHazard s)
  endRelease s ok := ok.fewer (rangesOk_inward.endRelease ok.ranges) (Fewer.endRelease s)
  endDwell s ok := ok.onward (Onward.endDwell s)
  endExit s ok := ok.fewer (rangesOk_inward.endExit ok.ranges) (Fewer.endExit s)
  input p v _ ok := numbered_steady.inputChange p v ok
  endDebounce p _ ok := numbered_steady.endDebounce p ok
  endSurgeClear _ ok := numbered_steady.endSurgeClear ok
  endQuiet _ ok := numbered_steady.endQuiet ok

/-- Settles O59: what an operation of the engine does to the use of an id, and an id found for each new order. -/
theorem orderIdsKept : Obligations.OrderIdsKept := fun s u ranges ids stepped =>
  (numbered_kept.step s u ⟨ranges, ids⟩ stepped).ids

end

end Sys2Proof.Machine
end

section
/-! The step and the queue (R193; log 1, 2, 14): what every command does to queue and time, which commands complete, what a
stopped part does, and the machine after reset. -/

namespace Sys2Proof.Machine

/-- Settles O1: the definition of a step. -/
theorem stepRunsFrontCommand : Obligations.StepRunsFrontCommand := fun _ _ _ => rfl

/-! ### Queue and time -/

/-- The queue stays and time goes from that of the command. -/
def Clocked (t : Nat) (s u : State) : Prop := u.pending = s.pending ∧ u.now = max s.now t

theorem Clocked.event {f : State → State} (keeps : ∀ v, (f v).pending = v.pending ∧ (f v).now = v.now) (t : Nat) (s : State) :
    Clocked t s (s.event t f) := by
  unfold State.event
  split
  · obtain ⟨pending, now⟩ := keeps (s.advance t)
    exact ⟨pending, now⟩
  · exact ⟨rfl, rfl⟩

theorem Clocked.message (t : Nat) (h : Header) (kind : Byte) (req : Parsed) (n : Nat) (s : State) :
    Clocked t s ((s.advance t).message h kind req n) := by
  constructor
  · simp
  · rw [(State.message_frame _ _ _ _ _).1]
    rfl

theorem State.inputChange_clock (p : PointNo) (v : Level) (s : State) :
    (s.inputChange p v).pending = s.pending ∧ (s.inputChange p v).now = s.now := by simp

theorem Clocked.start (t : Nat) (cause : StartCause) {s u : State} (pending : u.pending = s.pending)
    (now : u.now = max s.now t) : Clocked t s (u.start cause) := by
  constructor
  · simpa using pending
  · simpa using now

theorem Clocked.applyPower (t : Nat) (s : State) : Clocked t s (s.advance t).applyPower := by
  unfold State.applyPower
  split
  · exact ⟨rfl, rfl⟩
  · exact Clocked.start t .power rfl rfl

theorem Clocked.pinHigh (t : Nat) (s : State) : Clocked t s (s.advance t).pinHigh := by
  unfold State.pinHigh
  split
  · split
    · exact Clocked.start t .pin rfl rfl
    · exact ⟨rfl, rfl⟩
  · exact ⟨rfl, rfl⟩

theorem Clocked.exec {c : Instr} {s u : State} (he : exec c s = .next u) : Clocked (timeOf c) s u := by
  cases hc : requestOf c with
  | some q =>
    rw [exec_request hc] at he
    cases he
    exact Clocked.message _ _ _ _ _ s
  | none =>
    cases c <;> simp only [requestOf, reduceCtorEq] at hc
    case batch t run =>
      cases run with
      | begin h subs n => cases he; exact Clocked.message t _ _ _ _ s
      | go p n =>
        cases he
        exact Clocked.event (f := State.batchOn p n) (fun v => by simp) t s
    case unknownKindRequest t h kind payload => cases he; exact Clocked.message t _ _ _ _ s
    case upstreamArrival t l tag len =>
      replace he : execUpstreamArrival t l tag len s = .next u := he
      unfold execUpstreamArrival at he
      split at he
      · cases he; exact Clocked.event (fun v => by simp) t s
      · exact nomatch he
    case downstreamArrival t tag len =>
      replace he : execDownstreamArrival t tag len s = .next u := he
      unfold execDownstreamArrival at he
      split at he
      · cases he; exact Clocked.event (fun v => by simp) t s
      · exact nomatch he
    case inputLevelChange t p v =>
      cases he
      obtain ⟨pending, now⟩ := State.inputChange_clock p v (s.advance t)
      exact ⟨pending, now⟩
    case powerOn t => cases he; exact Clocked.applyPower t s
    case powerLoss t => cases he; exact ⟨by simp [State.losePower], by simp [State.losePower, State.advance, timeOf]⟩
    case resetPinLow t => cases he; exact ⟨by simp [State.pinLow], by simp [State.pinLow, State.advance, timeOf]⟩
    case resetPinRelease t => cases he; exact Clocked.pinHigh t s
    all_goals
      cases he
      exact Clocked.event (fun v => by simp) _ s

theorem frameLengthOk_iff (len : Nat) : frameLengthOk len = true ↔ 64 ≤ len ∧ len ≤ 1536 := by
  simp [frameLengthOk]

theorem exec_upstreamArrival (t : Nat) (l : LineNo) (tag : Fin 4096) (len : Nat) (s : State) :
    exec (.upstreamArrival t l tag len) s =
      if frameLengthOk len then .next (s.event t (State.arriveUp l tag.val len)) else .fault .frameNeverPresented := rfl

theorem exec_downstreamArrival (t : Nat) (tag : Fin 4096) (len : Nat) (s : State) :
    exec (.downstreamArrival t tag len) s =
      if frameLengthOk len then .next (s.event t (State.arriveDown tag.val len)) else .fault .frameNeverPresented := rfl

/-- Every command but an arrival of a length that is never presented has a next state. -/
theorem exec_completes (c : Instr) (s : State) (up : ∀ t l tag len, c = .upstreamArrival t l tag len → frameLengthOk len = true)
    (down : ∀ t tag len, c = .downstreamArrival t tag len → frameLengthOk len = true) : ∃ u, exec c s = .next u := by
  cases c
  case upstreamArrival t l tag len =>
    rw [exec_upstreamArrival, if_pos (up t l tag len rfl)]
    exact ⟨_, rfl⟩
  case downstreamArrival t tag len =>
    rw [exec_downstreamArrival, if_pos (down t tag len rfl)]
    exact ⟨_, rfl⟩
  case batch t run => cases run <;> exact ⟨_, rfl⟩
  all_goals exact ⟨_, rfl⟩

/-- Settles O2: each command is an event at its time, and exec has no other outcome than the fault of R26. -/
theorem everyCommandCompletes : Obligations.EveryCommandCompletes := by
  refine ⟨fun s empty => ?_, fun c s u next => Clocked.exec next, fun t l tag len s never => ?_, fun c s up down => ?_⟩
  · rw [step, empty]
  · rw [← frameLengthOk_iff] at never
    rw [exec_upstreamArrival, exec_downstreamArrival, if_neg never, if_neg never]
    exact ⟨rfl, rfl⟩
  · exact exec_completes c s (fun t l tag len is => (frameLengthOk_iff len).mpr (up t l tag len is)) fun t tag len is =>
      (frameLengthOk_iff len).mpr (down t tag len is)

/-! ### A stopped part (R193) -/

section
variable {s : State}

theorem State.message_stopped (stopped : s.running = false) (h : Header) (kind : Byte) (req : Parsed) (n : Nat) :
    s.message h kind req n = s := by
  simp [State.message, State.receiving, stopped]

/-- Setting what a point's input is already. -/
theorem State.setPoint_input_self (p : PointNo) (s : State) :
    (s.setPoint p fun r => { r with input := (s.point p).input }) = s := by
  have same : s.points.recs.set p (s.points.recs[p]) = s.points.recs := by simp
  have point : ({ s.points.recs[p] with input := (s.point p).input } : Point) = s.points.recs[p] := rfl
  simp only [State.setPoint, point]
  exact congrArg (fun recs => ({ s with points := { s.points with recs := recs } } : State)) same

/-- The level itself is recorded, and nothing else follows (log 18). -/
theorem State.inputChange_stopped (stopped : s.running = false) (p : PointNo) (v : Level) :
    s.inputChange p v = s.setPoint p fun r => { r with input := v } := by
  unfold State.inputChange
  split
  case isTrue same =>
    subst same
    exact (s.setPoint_input_self p).symm
  case isFalse =>
    have still : (s.setPoint p fun r => { r with input := v }).running = false := by
      simpa [State.running] using stopped
    simp [still]

/-- A command of a stopped part but power, pin and input level. -/
theorem exec_stopped (c : Instr) (stopped : s.running = false) (wf : c.wf = true) (on : ∀ t, c ≠ .powerOn t)
    (off : ∀ t, c ≠ .powerLoss t) (low : ∀ t, c ≠ .resetPinLow t) (release : ∀ t, c ≠ .resetPinRelease t)
    (level : ∀ t p v, c ≠ .inputLevelChange t p v) : exec c s = .next (s.advance (timeOf c)) := by
  have lost (t : Nat) (h : Header) (kind : Byte) (req : Parsed) (n : Nat) : (s.advance t).message h kind req n = s.advance t :=
    State.message_stopped (by simpa [State.running] using stopped) h kind req n
  have missed (t : Nat) (f : State → State) : (Host.Outcome.next (s.event t f) : Outcome) = .next (s.advance t) :=
    congrArg _ (State.event_stopped stopped t f)
  cases hc : requestOf c with
  | some q => rw [exec_request hc, State.request, lost]
  | none =>
    cases c <;> simp only [requestOf, reduceCtorEq] at hc
    case batch t run =>
      cases run with
      | begin h subs n => exact congrArg _ (lost t h _ _ n)
      | go p n => exact missed t (State.batchOn p n)
    case unknownKindRequest t h kind payload => exact congrArg _ (lost t h _ _ 0)
    case upstreamArrival t l tag len =>
      have frame : frameLengthOk len = true := wf
      rw [exec_upstreamArrival, if_pos frame]
      exact missed t _
    case downstreamArrival t tag len =>
      have frame : frameLengthOk len = true := wf
      rw [exec_downstreamArrival, if_pos frame]
      exact missed t _
    case inputLevelChange t p v => exact absurd rfl (level t p v)
    case powerOn t => exact absurd rfl (on t)
    case powerLoss t => exact absurd rfl (off t)
    case resetPinLow t => exact absurd rfl (low t)
    case resetPinRelease t => exact absurd rfl (release t)
    all_goals exact missed _ _

/-- Settles O3: a stopped part takes neither a message nor an event, and every output is off. -/
theorem stoppedPart : Obligations.StoppedPart := by
  refine ⟨fun c s stopped wf on off low release level => exec_stopped c stopped wf on off low release level,
    fun t p v s stopped => ?_, fun s stopped => ?_⟩
  · exact congrArg _ (State.inputChange_stopped (by simpa [State.running] using stopped) p v)
  · refine ⟨fun l => ⟨?_, ?_, ?_, ?_⟩, ?_, ?_, fun p => ?_, ?_, ?_⟩
    · simp [State.transceiverPower, stopped]
    · simp [State.serviceRelay, stopped]
    · simp [State.testRelay, stopped]
    · simp [State.signatureSwitch, stopped]
    · simp [State.stimulusCode, stopped, Config.restCode]
    · simp [State.driveEnable, stopped]
    · simp [State.terminal, stopped]
    · simp [State.attnLow, stopped]
    · simp [State.asksUplink, stopped]

end

/-! ### The machine after reset -/

/-- Settles O4: each value read off the machine after reset. -/
theorem resetState : Obligations.ResetState := by
  refine ⟨rfl, rfl, by decide +kernel, rfl, rfl, rfl, by decide +kernel, rfl, rfl, rfl, by decide +kernel, rfl, rfl, rfl, rfl,
    rfl, by decide +kernel, rfl, rfl, rfl, by decide +kernel, by decide +kernel, rfl, rfl, rfl, rfl, rfl, rfl⟩

/-- The machine after reset is that of a start, its store holding no image. -/
theorem reset_eq_start : State.reset = State.reset.start .power := by decide +kernel

/-- Settles O60: the machine after reset is that of a start, and the laws hold after every start. -/
theorem lawsHoldAtReset : Obligations.LawsHoldAtReset := by
  have metered := Metered.start .power State.reset
  have benched := Benched.start .power State.reset
  have flows := FlowsOk.start State.reset .power
  have pool := PoolOk.start .power State.reset
  have ranges := RangesOk.start .power State.reset
  have sched := SchedOk.start .power State.reset
  have ids := IdsOk.start .power State.reset
  rw [← reset_eq_start] at metered benched flows pool ranges sched ids
  exact ⟨pool, flows, metered.lines, (energyOk_iff _).mpr ⟨metered.supplied, metered.account⟩, ranges, sched,
    (benchOk_iff benched.lines).mpr benched.stood, ids⟩

end Sys2Proof.Machine
end

section
/-! Message ports (R170 to R177, R190): what each character, break, time-out and end of a reply does to a port. -/

namespace Sys2Proof.Machine

section
variable {s : State} {p : PortId}

/-! ### A port that receives (R176) -/

theorem State.receiving_advance (t : Nat) (p : PortId) (s : State) : (s.advance t).receiving p = s.receiving p := by
  simp only [State.receiving, State.transmitting, State.port_advance, State.running, State.advance_frame]

theorem State.transmitting_iff (s : State) (p : PortId) :
    s.transmitting p = true ↔ ∃ body restart, (s.port p).job = some (.sending body restart) := by
  unfold State.transmitting
  split
  case h_1 body restart job => exact ⟨fun _ => ⟨body, restart, job⟩, fun _ => rfl⟩
  case h_2 other => exact ⟨nofun, fun ⟨body, restart, job⟩ => absurd job (other body restart)⟩

theorem State.receiving_craft (s : State) : s.receiving .craft = s.running := by
  simp [State.receiving]

theorem State.receiving_main_iff (s : State) : s.receiving .main = true ↔
    s.running = true ∧ ∀ body restart, s.ports.main.job ≠ some (.sending body restart) := by
  have idle : s.transmitting .main = false ↔ ∀ body restart, s.ports.main.job ≠ some (.sending body restart) := by
    rw [← Bool.not_eq_true, State.transmitting_iff]
    simp [State.port_main]
  simp [State.receiving, idle]

theorem State.running_of_receiving (receiving : s.receiving p = true) : s.running = true := by
  rw [State.receiving, Bool.and_eq_true] at receiving
  exact receiving.1

/-- A main link that sends a reply does not receive (R176). -/
theorem State.not_receiving_of_sending {body : List Byte} {restart : Bool}
    (job : s.ports.main.job = some (.sending body restart)) : s.receiving .main = false := by
  rw [← Bool.not_eq_true, State.receiving_main_iff]
  exact fun receiving => receiving.2 body restart job

theorem exec_addressCharacter (t : Nat) (p : PortId) (c : SerialChar) (s : State) :
    exec (.addressCharacter t p c) s = .next (s.event t (State.takeChar p c)) := rfl

theorem exec_bodyCharacter (t : Nat) (p : PortId) (c : SerialChar) (s : State) :
    exec (.bodyCharacter t p c) s = .next (s.event t (State.takeChar p c)) := rfl

theorem State.takeChar_ignored {c : SerialChar} (deaf : s.receiving p = false) : s.takeChar p c = s := by
  simp [State.takeChar, deaf]

/-- A character at a main link that sends a reply (R176). -/
theorem State.event_takeChar_sending {body : List Byte} {restart : Bool} (t : Nat) (c : SerialChar)
    (running : s.running = true) (job : s.ports.main.job = some (.sending body restart)) :
    s.event t (State.takeChar .main c) = s.advance t := by
  rw [State.event_running running]
  exact State.takeChar_ignored ((State.receiving_advance t .main s).trans (State.not_receiving_of_sending job))

/-! ### Characters (R172 to R174) -/

theorem State.addressed_iff (p : PortId) (data : Byte) (s : State) :
    s.addressed p data = true ↔ p = .craft ∨ data.toNat = s.ports.dropInForce ∨ data.toNat = 31 := by
  simp [State.addressed, Config.groupAddress, or_assoc]

theorem State.addressed_countFault (p q : PortId) (f : FaultKind) (data : Byte) (s : State) :
    (s.countFault q f).addressed p data = s.addressed p data := by cases q <;> rfl

theorem State.newPartial_countFault (p q : PortId) (f : FaultKind) (data : Byte) (s : State) :
    (s.countFault q f).newPartial p data = s.newPartial p data := by cases q <;> rfl

/-- An undamaged address character on a port that receives. -/
theorem State.event_takeAddress (t : Nat) {c : SerialChar} (receiving : s.receiving p = true) (address : c.isAddress = true) :
    s.event t (State.takeChar p c) = (s.advance t).takeAddress p c.data := by
  rw [State.event_running (State.running_of_receiving receiving), State.takeChar, State.receiving_advance, if_pos receiving,
    if_pos address]

theorem State.event_takeBody (t : Nat) {c : SerialChar} (receiving : s.receiving p = true) (body : c.isAddress = false) :
    s.event t (State.takeChar p c) = (s.advance t).takeBody p c.data c.damaged := by
  rw [State.event_running (State.running_of_receiving receiving), State.takeChar, State.receiving_advance, if_pos receiving,
    body]
  rfl

/-- Settles O5: an address character starts a partial message or sends the port to SKIP, whatever state it finds. -/
theorem addressCharacter : Obligations.AddressCharacter := by
  refine ⟨fun s => ⟨s.receiving_craft, s.receiving_main_iff⟩, fun t c body restart s running job => ?_,
    fun t p c s receiving address => ?_⟩
  · rw [exec_addressCharacter, State.event_takeChar_sending t c running job]
  · rw [exec_addressCharacter, State.event_takeAddress t receiving address]
    simp only [← State.addressed_iff p c.data s]
    unfold State.takeAddress
    rw [State.port_advance]
    cases (s.port p).recv with
    | take m =>
      dsimp only
      rw [State.addressed_countFault, State.newPartial_countFault]
      rfl
    | _ => rfl

/-- A body character that completes nothing and one that is not the LEN byte of a message. -/
theorem State.takeBody_of_take {m : Partial} (data : Byte) (damaged : Bool) (recv : (s.port p).recv = .take m) :
    s.takeBody p data damaged = s.takeInto p m data damaged := by
  simp only [State.takeBody, recv]

/-- A character that does not complete the message is added. -/
theorem State.takeInto_short {m : Partial} {n : Nat} (data : Byte) (damaged : Bool) (known : m.expected = some n)
    (short : m.body.length + 1 ≠ n) :
    s.takeInto p m data damaged = s.setRecv p (.take (m.add data damaged s.now (ms s.params.charTimeout))) := by
  have more : (m.add data damaged s.now (ms s.params.charTimeout)).body.length ≠ n := by simpa [Partial.add] using short
  simp only [State.takeInto, known, if_neg more]

theorem State.takeBody_of_not_take (data : Byte) (damaged : Bool)
    (recv : (s.port p).recv = .hunt ∨ (s.port p).recv = .skip) : s.takeBody p data damaged = s := by
  rcases recv with recv | recv <;> simp only [State.takeBody, recv]

/-- Settles O6: by the receive state, and in TAKE by whether the message's length is known. -/
theorem bodyCharacterTaken : Obligations.BodyCharacterTaken := by
  refine ⟨fun t c body restart s running job => ?_, fun t p c s receiving body => ⟨fun recv => ?_, fun m recv unknown => ?_,
    fun m n recv known short => ?_⟩⟩
  · rw [exec_bodyCharacter, State.event_takeChar_sending t c running job]
  · rw [exec_bodyCharacter, State.event_takeBody t receiving body]
    rw [← State.port_advance p t] at recv
    rw [State.takeBody_of_not_take _ _ recv]
  · rw [exec_bodyCharacter, State.event_takeBody t receiving body]
    rw [← State.port_advance p t] at recv
    rw [State.takeBody_of_take _ _ recv]
    simp only [State.takeInto, unknown, Bool.and_eq_true, decide_eq_true_eq]
    rfl
  · rw [exec_bodyCharacter, State.event_takeBody t receiving body]
    rw [← State.port_advance p t] at recv
    rw [State.takeBody_of_take _ _ recv]
    rw [State.takeInto_short _ _ known short]
    rfl

/-- A message that the last character completes. -/
theorem State.event_complete (t : Nat) {c : SerialChar} {m : Partial} (receiving : s.receiving p = true)
    (body : c.isAddress = false) (recv : (s.port p).recv = .take m) (expected : m.expected = some (m.body.length + 1)) :
    s.event t (State.takeChar p c) = (s.advance t).complete p (m.add c.data c.damaged (max s.now t) (ms s.params.charTimeout)) := by
  rw [State.event_takeBody t receiving body]
  rw [← State.port_advance p t] at recv
  rw [State.takeBody_of_take _ _ recv]
  have full : (m.add c.data c.damaged (s.advance t).now (ms (s.advance t).params.charTimeout)).body.length =
      m.body.length + 1 := by simp [Partial.add]
  simp only [State.takeInto, expected, if_pos full]
  rfl

/-- On its port a message handed over by its last character is the message of its own row (log 4). -/
theorem State.dispatch_of_message (receiving : s.receiving p = true) (tag kind : Byte) (group : Bool)
    (plain : p = .craft → group = false) (req : Parsed) (n : Nat) :
    (s.setRecv p .hunt).dispatch { port := p, group := group, tag := tag } kind req n =
      s.message { port := p, group := group, tag := tag } kind req n := by
  have header : plainHeader { port := p, group := group, tag := tag } = { port := p, group := group, tag := tag } := by
    cases p with
    | main => simp [plainHeader]
    | craft => simp [plainHeader, plain rfl]
  rw [State.message, if_pos receiving, header]

/-- Settles O7: a damaged message, one that does not sum to 0, and a good one. -/
theorem bodyCharacterCompletes : Obligations.BodyCharacterCompletes := by
  intro t p c s m receiving body recv expected
  have event := State.event_complete t receiving body recv expected
  refine ⟨fun damaged => ?_, fun sound clean wrong => ?_, fun len kind tag payload sound clean good layout plain => ?_⟩
  · rw [exec_bodyCharacter, event]
    have bad : (m.add c.data c.damaged (max s.now t) (ms s.params.charTimeout)).damaged = true := by
      simpa [Partial.add] using damaged
    simp only [State.complete, bad, if_true]
  · rw [exec_bodyCharacter, event]
    simp only [State.complete, Partial.add, sound, clean, Bool.or_self, Bool.false_eq_true, if_false]
    rw [if_pos wrong]
  · rw [exec_bodyCharacter, event]
    have summed : ¬(m.body ++ [c.data]).sum ≠ 0 := not_not.mpr good
    simp only [State.complete, Partial.add, sound, clean, Bool.or_self, Bool.false_eq_true, if_false]
    rw [if_neg summed, layout]
    simp only [List.cons_append, List.dropLast_concat]
    rw [State.dispatch_of_message ((State.receiving_advance t p s).trans receiving) tag kind m.group plain]

/-! ### Breaks and time-outs (R173, R175) -/

theorem exec_breakSeen (t : Nat) (p : PortId) (s : State) :
    exec (.breakSeen t p) s = .next (s.event t (State.takeBreak p)) := rfl

theorem exec_characterTimeout (t : Nat) (p : PortId) (s : State) :
    exec (.characterTimeout t p) s = .next (s.event t (State.charTimeout p)) := rfl

/-- Settles O8: by the receive state that a break or time-out finds. -/
theorem breakAndTimeout : Obligations.BreakAndTimeout := by
  refine ⟨fun t body restart s running job => ?_, fun t p s => ⟨fun receiving => ?_, fun running => ?_⟩⟩
  · have deaf := (State.receiving_advance t .main s).trans (State.not_receiving_of_sending job)
    rw [exec_breakSeen, State.event_running running, State.takeBreak, deaf]
    rfl
  · have hears := (State.receiving_advance t p s).trans receiving
    rw [exec_breakSeen, State.event_running (State.running_of_receiving receiving)]
    cases recv : (s.port p).recv <;> simp only [State.takeBreak, if_pos hears, State.port_advance, recv]
  · have still : (s.advance t).running = true := by simpa [State.running] using running
    rw [exec_characterTimeout, State.event_running running, State.charTimeout, State.port_advance]
    cases (s.port p).recv with
    | take m =>
      simp only [still, Bool.true_and, decide_eq_true_eq]
      rfl
    | _ => rfl

/-! ### Replies (R176, R177, R190, R193, R195) -/

theorem exec_replySent (t : Nat) (p : PortId) (s : State) :
    exec (.replySent t p) s = .next (s.event t (State.replyEnds p)) := rfl

/-- Settles O9: by the port's job. -/
theorem replyEnds : Obligations.ReplyEnds := by
  refine fun t s running => ⟨fun body job => ?_, fun body job => ?_, fun p body job => ?_, fun p none => ?_⟩
  · rw [exec_replySent, State.event_running running]
    have job : ((s.advance t).port .main).job = some (.sending body false) := job
    simp only [State.replyEnds, job]
    rfl
  · rw [exec_replySent, State.event_running running]
    have job : ((s.advance t).port .craft).job = some (.sending body false) := job
    simp only [State.replyEnds, job]
    rfl
  · rw [exec_replySent, State.event_running running]
    rw [← State.port_advance p t] at job
    simp only [State.replyEnds, job]
  · rw [exec_replySent, State.event_running running]
    rw [← State.port_advance p t] at none
    unfold State.replyEnds
    split
    case h_1 body job => exact absurd job (none body true)
    case h_2 body job => exact absurd job (none body false)
    case h_3 => rfl

/-- The check byte brings the sum of a body to 0. -/
theorem sum_checkByte (body : List Byte) : (body ++ [checkByte body]).sum = 0 := by
  simp [checkByte]

theorem State.sentChars_of_job {body : List Byte} {restart : Bool} (job : (s.port p).job = some (.sending body restart)) :
    s.sentChars p = body.map sentChar := by simp only [State.sentChars, job]

theorem State.transmit_job (p : PortId) (body : List Byte) (restart : Bool) (s : State) :
    ((s.transmit p body restart).port p).job = some (.sending body restart) := by
  unfold State.transmit
  cases p with
  | craft => rfl
  | main =>
    dsimp only
    split <;> rfl

/-- A partial message on the main link is discarded as a reply begins (R176). -/
theorem State.transmit_eq (p : PortId) (body : List Byte) (restart : Bool) (s : State) :
    s.transmit p body restart =
      (match p, s.ports.main.recv with
       | .main, .take _ =>
         { s with ports := { s.ports with main :=
             { recv := .hunt, job := some (.sending body restart), faults := s.ports.main.faults.add .overlap } } }
       | _, _ => s.setJob p (some (.sending body restart))) := by
  unfold State.transmit
  cases p with
  | craft => rfl
  | main =>
    have recv : (s.setJob .main (some (.sending body restart))).ports.main.recv = s.ports.main.recv := rfl
    dsimp only
    rw [recv]
    cases s.ports.main.recv <;> rfl

/-- The ones of the data bits, as the bits of the character have them. -/
theorem count_data_bits (b : Byte) : ((List.range 8).map fun k => b.getLsbD k).count true = dataOnes b := by
  rw [List.count, List.countP_map, List.countP_eq_length_filter, dataOnes]
  refine congrArg List.length (List.filter_congr fun k _ => ?_)
  simp

/-- The parity bit makes the ones even (R170). -/
theorem sentChar_damaged (b : Byte) : (sentChar b).damaged = false := by
  have parity : ∀ n : Nat, (n + (n % 2 == 1).toNat) % 2 = 0 := fun n => by
    rcases Nat.mod_two_eq_zero_or_one n with even | odd
    · simp [even]
    · simp [odd]
      omega
  simp [SerialChar.damaged, sentChar, parity]

/-- Settles O10: the body of a reply, its beginning, its characters and the status codes. -/
theorem replyBegins : Obligations.ReplyBegins := by
  refine ⟨fun kind tag st payload _ => ?_, fun p body restart s => ⟨s.transmit_eq p body restart, ?_⟩, fun b => ?_, rfl⟩
  · refine ⟨checkByte (byte (4 + payload.length) :: kind :: tag :: st.code :: payload), ?_, sum_checkByte _⟩
    rw [Nat.add_comm payload.length 4]
    rfl
  · exact State.sentChars_of_job (s.transmit_job p body restart)
  · refine ⟨rfl, rfl, rfl, sentChar_damaged b, rfl, ?_⟩
    have ones := count_data_bits b
    have sound := sentChar_damaged b
    have data : (sentChar b).data = b := rfl
    have mark : (sentChar b).mark = false := rfl
    simp only [SerialChar.damaged, data, mark, Bool.toNat_false, Nat.add_zero, Bool.or_eq_false_iff, bne_eq_false_iff_eq]
      at sound
    have bits : (((sentChar b).bits.drop 1).take 10) =
        ((List.range 8).map fun k => b.getLsbD k) ++ [false, (sentChar b).parity] := rfl
    rw [bits, List.count_append, ones]
    cases parity : (sentChar b).parity with
    | true => simpa [parity] using sound.1
    | false => simpa [parity] using sound.1

end

end Sys2Proof.Machine
end

section
/-! The dispatcher (R176 to R181, R184, R195 to R199): messages on an EXECUTING port, the checks and their refusals, the
permission table, layouts and ranges, and group messages. -/

namespace Sys2Proof.Machine

section
variable {s : State}

theorem exec_batch_begin (t : Nat) (h : Header) (subs : List RawSub) (n : Nat) (s : State) :
    exec (.batch t (.begin h subs n)) s = .next ((s.advance t).message h 0x08 (.req (.batch subs)) n) := rfl

theorem exec_unknownKindRequest (t : Nat) (h : Header) (kind : Byte) (payload : List Byte) (s : State) :
    exec (.unknownKindRequest t h kind payload) s = .next ((s.advance t).message h kind (parse kind payload) 0) := rfl

/-- Settles O11: every request row is a message at its port, and an EXECUTING port discards it. -/
theorem messageWhileExecuting : Obligations.MessageWhileExecuting := by
  intro c h s running job rows
  have still : (s.advance (timeOf c)).running = true := by simpa [State.running] using running
  have busy : ((s.advance (timeOf c)).port h.port).job ≠ none := by simpa using job
  have same : (s.advance (timeOf c)).transmitting .main = s.transmitting .main := by simp [State.transmitting]
  have discarded (kind : Byte) (req : Parsed) (n : Nat) := State.message_executing still busy kind req n
  rw [same] at discarded
  rcases rows with ⟨r, row⟩ | ⟨t, subs, n, rfl⟩ | ⟨t, kind, payload, rfl⟩
  · rw [exec_request row, State.request, discarded]
  · rw [exec_batch_begin]
    exact congrArg _ (discarded _ _ _)
  · rw [exec_unknownKindRequest]
    exact congrArg _ (discarded _ _ _)

/-! ### Kinds and layouts (R184, R195, R197, R199) -/

theorem reqKind_eq_laid (r : Req) : reqKind r = (Req.laid r).1 := by cases r <;> rfl

theorem fits_eq_req_iff (o : Option Req) (r : Req) : fits o = .req r ↔ o = some r := by cases o <;> simp [fits]

theorem fits_ne_unknown (o : Option Req) : fits o ≠ .unknown := by cases o <;> nofun

/-- A kind is unknown exactly when it is none of the table's. -/
theorem parse_eq_unknown_iff (kind : Byte) (payload : List Byte) :
    parse kind payload = .unknown ↔ acceptedKinds.contains kind = false := by
  have named (n : Nat) (is : kind.toNat = n) (listed : acceptedKinds.contains (BitVec.ofNat 8 n) = true) (o : Option Req) :
      fits o = .unknown ↔ acceptedKinds.contains kind = false := by
    rw [← is, BitVec.ofNat_toNat, BitVec.setWidth_eq] at listed
    rw [listed]
    exact iff_of_false (fits_ne_unknown o) nofun
  unfold parse
  split
  case h_32 =>
    refine iff_of_true rfl ?_
    rw [← Bool.not_eq_true, List.contains_iff_mem]
    intro listed
    simp only [acceptedKinds, List.mem_cons, List.not_mem_nil, or_false] at listed
    rcases listed with rfl | rfl | rfl | rfl | rfl | rfl | rfl | rfl | rfl | rfl | rfl | rfl | rfl | rfl | rfl | rfl | rfl |
      rfl | rfl | rfl | rfl | rfl | rfl | rfl | rfl | rfl | rfl | rfl | rfl | rfl | rfl <;> contradiction
  all_goals exact named _ ‹kind.toNat = _› (by decide) _

/-- A request is read from what it is laid out as. -/
theorem parse_laid (r : Req) (declares : Declares r) : parse (Req.laid r).1 (Req.laid r).2 = .req r := by
  have byte255 {n : Nat} (h : n ≤ 255) : (BitVec.ofNat 8 n).toNat = n := by
    rw [BitVec.toNat_ofNat]
    omega
  cases r with
  | setParameter id value =>
    change fits (some (.setParameter id (half _ _))) = _
    rw [half_laid]
    rfl
  | batch subs =>
    obtain ⟨count, lengths⟩ := declares
    change fits ((readSubs (BitVec.ofNat 8 subs.length).toNat _).map .batch) = _
    rw [byte255 count, readSubs_laid subs lengths]
    rfl
  | flowPut index content =>
    change fits ((readContent (FlowContent.laid content)).map (.flowPut index)) = _
    rw [readContent_laid]
    rfl
  | flowPlace content =>
    change fits ((readContent (FlowContent.laid content)).map .flowPlace) = _
    rw [readContent_laid]
    rfl
  | flowFind sel line tag =>
    change fits (some (.flowFind sel line (half _ _))) = _
    rw [half_laid]
    rfl
  | testOrder line intr quar clr steps =>
    have whole : (steps.flatMap RawStep.laid).length = 15 * (BitVec.ofNat 8 steps.length).toNat := by
      rw [byte255 declares, length_steps_laid]
    change fits (if (steps.flatMap RawStep.laid).length = 15 * (BitVec.ofNat 8 steps.length).toNat then
      some (.testOrder line intr quar clr (readSteps (steps.flatMap RawStep.laid))) else none) = _
    rw [if_pos whole, readSteps_laid]
    rfl
  | _ => rfl

/-- What is read as a request is that request laid out. -/
theorem laid_of_parse {kind : Byte} {payload : List Byte} {r : Req} (read : parse kind payload = .req r) :
    Declares r ∧ Req.laid r = (kind, payload) := by
  have plain (n : Nat) (is : kind.toNat = n) {q : Req} (declares : Declares q) {bs : List Byte}
      (layout : Req.laid q = (BitVec.ofNat 8 n, bs)) (body : bs = payload) : Declares q ∧ Req.laid q = (kind, payload) := by
    rw [← is, BitVec.ofNat_toNat, BitVec.setWidth_eq, body] at layout
    exact ⟨declares, layout⟩
  unfold parse at read
  split at read
  case h_32 => cases read
  case h_3 is =>
    rw [fits_eq_req_iff] at read
    split at read
    · cases read
      exact plain _ is trivial rfl (by rw [laid_half])
    · cases read
  case h_8 is =>
    rw [fits_eq_req_iff] at read
    split at read
    case h_1 n rest =>
      obtain ⟨subs, found, rfl⟩ := Option.map_eq_some_iff.mp read
      obtain ⟨count, lengths, body⟩ := laid_of_readSubs n.toNat rest subs found
      have few : subs.length ≤ 255 := by
        have := n.isLt
        omega
      exact plain _ is ⟨few, lengths⟩ rfl (by rw [body, count, BitVec.ofNat_toNat, BitVec.setWidth_eq])
    case h_2 => cases read
  case h_15 is =>
    rw [fits_eq_req_iff] at read
    split at read
    case h_1 i rest =>
      obtain ⟨c, found, rfl⟩ := Option.map_eq_some_iff.mp read
      exact plain _ is trivial rfl (by rw [laid_of_readContent found])
    case h_2 => cases read
  case h_16 is =>
    rw [fits_eq_req_iff] at read
    obtain ⟨c, found, rfl⟩ := Option.map_eq_some_iff.mp read
    exact plain _ is trivial rfl (laid_of_readContent found)
  case h_18 is =>
    rw [fits_eq_req_iff] at read
    split at read
    · cases read
      exact plain _ is trivial rfl (by rw [laid_half])
    · cases read
  case h_21 is =>
    rw [fits_eq_req_iff] at read
    split at read
    case h_1 l i q c n rest =>
      split at read
      case isTrue whole =>
        cases read
        obtain ⟨count, body⟩ := laid_of_readSteps n.toNat rest whole
        have few : (readSteps rest).length ≤ 255 := by
          have := n.isLt
          omega
        exact plain _ is few rfl (by rw [body, count, BitVec.ofNat_toNat, BitVec.setWidth_eq]; rfl)
      case isFalse => cases read
    case h_2 => cases read
  all_goals
    rw [fits_eq_req_iff] at read
    split at read
    · cases read
      exact plain _ ‹kind.toNat = _› trivial rfl rfl
    · cases read

/-- The fields that the dispatcher judges (R178 check 5). -/
theorem fieldsOk_iff (r : Req) : fieldsOk r = true ↔ InRange r := by
  have line (b : Byte) : lineOk b = true ↔ b.toNat ≤ 23 := by
    rw [lineOk, decide_eq_true_eq]
    omega
  cases r with
  | flowPut i c => simp [fieldsOk, InRange, contentCodesOk_iff]; omega
  | flowPlace c => exact contentCodesOk_iff c
  | testOrder l i q c steps => simp [fieldsOk, InRange, line, flagOk, stepCodesOk_iff, and_assoc]
  | flowFind c l tag => simp [fieldsOk, InRange, line, flagOk, and_assoc]
  | lineStart l => exact line l
  | lineStop l => exact line l
  | lineClear l => exact line l
  | lineProfile l w k c g p => simp [fieldsOk, InRange, line, flagOk]
  | lineQuery l c => simp [fieldsOk, InRange, line, flagOk]
  | lineEquip l c => simp [fieldsOk, InRange, line, flagOk]
  | flowDrop i => simp [fieldsOk, InRange]; omega
  | flowRead i => simp [fieldsOk, InRange]; omega
  | pointAssign p f pol => simp [fieldsOk, InRange, flagOk, and_assoc]; omega
  | pointDrive p st => simp [fieldsOk, InRange, flagOk]; omega
  | _ => simp [fieldsOk, InRange, flagOk]

/-- The kinds of the table are those of its requests. -/
theorem acceptedKinds_iff (kind : Byte) : acceptedKinds.contains kind = true ↔ ∃ r : Req, (Req.laid r).1 = kind := by
  constructor
  · intro listed
    have known : ∀ k ∈ acceptedKinds, ∃ r : Req, (Req.laid r).1 = k := by
      have content : FlowContent := { kept := 0, up := 0, down := 0, owner := 0, lineBase := 0, uplinkBase := 0, span := 0, members := 0 }
      simp only [acceptedKinds, List.forall_mem_cons, List.not_mem_nil, IsEmpty.forall_iff, implies_true, and_true]
      exact ⟨⟨.ident, rfl⟩, ⟨.status 0, rfl⟩, ⟨.setParameter 0 0, rfl⟩, ⟨.getParameter 0, rfl⟩, ⟨.saveSettings, rfl⟩,
        ⟨.restart, rfl⟩, ⟨.fetchNotices, rfl⟩, ⟨.batch [], rfl⟩, ⟨.lineStart 0, rfl⟩, ⟨.lineStop 0, rfl⟩,
        ⟨.lineProfile 0 0 0 0 0 0, rfl⟩, ⟨.lineClear 0, rfl⟩, ⟨.lineQuery 0 0, rfl⟩, ⟨.lineEquip 0 0, rfl⟩,
        ⟨.flowPut 0 content, rfl⟩, ⟨.flowPlace content, rfl⟩, ⟨.flowDrop 0, rfl⟩, ⟨.flowFind 0 0 0, rfl⟩, ⟨.flowRead 0, rfl⟩,
        ⟨.flowClear 0, rfl⟩, ⟨.testOrder 0 0 0 0 [], rfl⟩, ⟨.testCancel 0, rfl⟩, ⟨.testResult 0 0, rfl⟩, ⟨.testList, rfl⟩,
        ⟨.testHalt, rfl⟩, ⟨.supply 0, rfl⟩, ⟨.budgetSet 0 0, rfl⟩, ⟨.energyQuery, rfl⟩, ⟨.pointAssign 0 0 0, rfl⟩,
        ⟨.pointRead, rfl⟩, ⟨.pointDrive 0 0, rfl⟩⟩
    exact known kind (List.contains_iff_mem.mp listed)
  · rintro ⟨r, rfl⟩
    cases r <;> rfl

/-! ### The permission table (R179) -/

theorem permitted_craft_shut_iff (r : Req) : permitted .craft false r = true ↔ r = .ident := by
  simp [permitted]

/-- The kind codes of the craft port's row with the door open (R179). -/
def craftCodes : List Byte :=
  [0x01, 0x02, 0x06, 0x08, 0x10, 0x11, 0x13, 0x14, 0x23, 0x24, 0x30, 0x31, 0x32, 0x33, 0x42, 0x51]

/-- The craft port's kinds with the door open, less the two clear options. -/
theorem craftKind_iff (r : Req) : craftKind r = true ↔
    craftCodes.contains (Req.laid r).1 = true ∧ r ≠ .status 1 ∧ ∀ l, r ≠ .lineQuery l 1 := by
  cases r with
  | status clear =>
    have other : craftKind (.status clear) = true ↔ Req.status clear ≠ .status 1 := by
      rw [ne_eq, Req.status.injEq]
      exact bne_iff_ne
    rw [other]
    exact ⟨fun h => ⟨rfl, h, by simp⟩, fun h => h.2.1⟩
  | lineQuery l clear =>
    have other : craftKind (.lineQuery l clear) = true ↔ clear ≠ 1 := bne_iff_ne
    rw [other]
    exact ⟨fun h => ⟨rfl, by simp, fun _ same => h (Req.lineQuery.inj same).2⟩, fun h same => h.2.2 l (congrArg _ same)⟩
  | ident | restart | batch | lineStart | lineStop | lineClear | flowFind | flowRead | testOrder | testCancel | testResult |
      testList | energyQuery | pointRead =>
    exact iff_of_true rfl ⟨rfl, by simp, by simp⟩
  | _ => exact iff_of_false Bool.false_ne_true fun listed => Bool.false_ne_true listed.1

/-! ### Refusals (R177, R178) -/

theorem State.taken_answer {h : Header} (direct : Direct h) (t : Nat) (kind : Byte) (r : Reply) (s : State) :
    (s.taken t h.port).answer h kind r = (s.taken t h.port).answers h kind r.status r.payload :=
  State.answer_direct direct (State.taken_recv t h.port s) kind r

/-- Settles O12: each check in its turn, the permission table, and the reader against the table of layouts. -/
theorem dispatcherChecks : Obligations.DispatcherChecks := by
  refine ⟨fun t h kind payload s ready direct => ⟨fun unlisted => ?_, fun length => ?_⟩,
    fun c h r s row ready direct => ⟨fun denied => ?_, fun allowed range => ?_⟩, fun door r => ⟨rfl, ?_, ?_⟩,
    fun r => ⟨reqKind_eq_laid r, parse_laid r, fieldsOk_iff r⟩,
    fun kind payload => ⟨fun r read => laid_of_parse read, acceptedKinds_iff kind, parse_eq_unknown_iff kind payload⟩⟩
  · rw [exec_unknownKindRequest, (parse_eq_unknown_iff kind payload).mpr unlisted, State.message_ready t ready direct]
    exact congrArg _ (State.taken_answer direct t kind (Reply.bad .unknown) s)
  · rw [length, State.message_ready t ready direct]
    exact State.taken_answer direct t kind (Reply.bad .length) s
  · exact exec_eq_denied row ready direct denied
  · exact exec_eq_range row ready direct allowed range
  · exact permitted_craft_shut_iff r
  · exact (craftKind_iff r).trans (and_congr_left' List.contains_iff_mem)

/-! ### Group messages (R181) -/

/-- A group message on a READY main link is judged by the dispatcher. -/
theorem State.message_group (t : Nat) (ready : Ready .main s) (tag kind : Byte) (req : Parsed) (n : Nat) :
    (s.advance t).message { port := .main, group := true, tag } kind req n =
      (s.taken t .main).judge { port := .main, group := true, tag } kind req n := by
  have ready' := State.ready_advance t ready
  have idle : ((s.advance t).setRecv .main .hunt).executing .main = false := by
    simp only [State.executing, State.port_setRecv, ready'.2]
    rfl
  have plain : plainHeader { port := .main, group := true, tag } = { port := .main, group := true, tag } := rfl
  simp only [State.message, State.receiving_of_ready ready', if_true, plain, State.dispatch, idle, State.taken]
  rfl

/-- A discarded group message counts GROUP and sends nothing. -/
theorem State.answer_group_bad (tag kind : Byte) {st : Status} (bad : st ≠ .ok) (s : State) :
    s.answer { port := .main, group := true, tag } kind (Reply.bad st) = s.endGroup true := by
  have discarded : (Reply.bad st).discarded = true := by simp [Reply.discarded, Reply.bad, bad]
  simp only [State.answer, if_true, discarded]

theorem State.judge_group_refused (tag kind : Byte) {r : Req} (other : groupKind r = false) (n : Nat) (s : State) :
    s.judge { port := .main, group := true, tag } kind (.req r) n = s.endGroup true := by
  simp [State.judge, other]

theorem State.judge_group_perform (tag kind : Byte) {r : Req} (group : groupKind r = true) (fields : fieldsOk r = true)
    (n : Nat) (s : State) :
    s.judge { port := .main, group := true, tag } kind (.req r) n = s.perform { port := .main, group := true, tag } r n := by
  simp [State.judge, group, fields, permitted]

theorem groupKind_eq_false {r : Req} (supply : ∀ v, r ≠ .supply v) (halt : r ≠ .testHalt) (restart : r ≠ .restart) :
    groupKind r = false := by
  cases r with
  | supply v => exact absurd rfl (supply v)
  | testHalt => exact absurd rfl halt
  | restart => exact absurd rfl restart
  | _ => rfl

theorem supplyOfByte_supplyCode {st : Supply} (named : st ≠ .unknown) : supplyOfByte (supplyCode st) = some st := by
  cases st with
  | unknown => exact absurd rfl named
  | _ => rfl

theorem supplyCode_le (st : Supply) : (supplyCode st).toNat ≤ 4 := by cases st <;> decide

/-- A TEST HALT answers OK, or STATE with the number of orders it removed (log 12). -/
theorem State.testHalt_discarded (s : State) : s.testHalt.1.discarded = false := by
  unfold State.testHalt
  dsimp only
  split
  · rfl
  · split <;> rfl

/-- Settles O13: by the kind, and for SUPPLY by its state. -/
theorem groupMessages : Obligations.GroupMessages := by
  refine ⟨fun c tag r s row ready => ?_, fun t tag kind payload subs n s ready => ⟨?_, fun unlisted => ?_, fun length => ?_⟩⟩
  · have judged : exec c s = .next ((s.taken (timeOf c) .main).judge { port := .main, group := true, tag } (reqKind r)
        (.req r) 0) := by
      rw [exec_request row, State.request, State.message_group _ ready]
    refine ⟨fun supply halt restart => ?_, fun v is refused => ?_, fun v new is named code => ?_, fun is => ?_, fun is => ?_⟩
    · rw [judged, State.judge_group_refused tag _ (groupKind_eq_false supply halt restart)]
      rfl
    · subst is
      rcases refused with rfl | high
      · rw [judged, State.judge_group_perform tag _ rfl rfl]
        exact congrArg _ (State.answer_group_bad tag 0x40 (by decide : Status.range ≠ .ok) _)
      · have range : fieldsOk (.supply v) = false := by simpa [fieldsOk] using high
        have answered : (s.taken (timeOf c) .main).judge { port := .main, group := true, tag } (reqKind (.supply v))
            (.req (.supply v)) 0 = (s.taken (timeOf c) .main).endGroup true := by
          simp only [State.judge, groupKind, range, permitted, Bool.not_true, Bool.and_false, Bool.false_eq_true, if_false,
            Bool.not_false, if_true]
          exact State.answer_group_bad tag _ (by decide) _
        rw [judged, answered]
        rfl
    · subst is code
      have fields : fieldsOk (.supply (supplyCode new)) = true := by simpa [fieldsOk] using supplyCode_le new
      rw [judged, State.judge_group_perform tag _ rfl fields]
      simp only [State.perform, own, supplyOfByte_supplyCode named]
      rfl
    · subst is
      rw [judged, State.judge_group_perform tag _ rfl rfl]
      simp only [State.perform, own, State.answer, if_true, State.testHalt_discarded]
      rfl
    · subst is
      rw [judged, State.judge_group_perform tag _ rfl rfl]
      rfl
  · rw [exec_batch_begin, State.message_group t ready, State.judge_group_refused tag _ rfl]
    rfl
  · rw [exec_unknownKindRequest, (parse_eq_unknown_iff kind payload).mpr unlisted, State.message_group t ready]
    exact congrArg _ (State.answer_group_bad tag kind (by decide : Status.unknown ≠ .ok) _)
  · rw [length, State.message_group t ready]
    exact State.answer_group_bad tag kind (by decide : Status.length ≠ .ok) _

end

end Sys2Proof.Machine
end

section
/-! The records that replies and notices carry (R22, R55, R106, R124, R157, R167, R183, R194, R196, R198 to R200), field by
field with their lengths, and the requests that answer with them. -/

namespace Sys2Proof.Machine

/-! ### Codes (R196) -/

theorem classByte_eq (c : Option RateClass) : classByte c =
    match c with
    | none => 0xFF
    | some .one => 1
    | some .two => 2
    | some .three => 3
    | some .four => 4 := by
  rcases c with _ | c
  · rfl
  · cases c <;> rfl

theorem optByte_eq (x : Option Byte) : optByte x = x.getD 0xFF := by cases x <;> rfl

theorem originByte_eq (p : PortId) : originByte p = if p = .main then 0 else 1 := by cases p <;> rfl

theorem QCause.code_eq (q : QCause) : q.code = if q = .test then 0 else 1 := by cases q <;> rfl

theorem SettingsStatus.code_eq (x : SettingsStatus) : x.code = if x = .good then 0 else 1 := by cases x <;> rfl

/-! ### STATUS (R183, R200) -/

theorem State.statusBytes_eq (u : State) : u.statusBytes =
    le2 u.pool.free ++ le2 u.pool.frames.length ++ [byte u.sched.launch.length, byte u.hold.length] ++
      le4 u.pool.uplinkDrops.toNat ++ [byte u.sched.active.length] ++ u.sched.active.map lineByte ++
      List.replicate (24 - u.sched.active.length) 0xFF ++ le2 u.sched.currentDeficit ++
      [flagByte (u.sched.active != [] && u.sched.launch.length == 4), flagByte u.uplink.status.isSome,
        classByte u.uplink.status, byte u.notices.queue.length, byte u.notices.lost] ++ u.ports.main.bytes ++
      u.ports.craft.bytes := by
  have waiting : u.stalled = (u.sched.active != [] && u.sched.launch.length == 4) := by
    cases active : u.sched.active with
    | nil => simp [State.stalled, active]
    | cons l ls =>
      have some : (l :: ls != []) = true := by simp
      simp only [State.stalled, active, some]
      rfl
  rw [← waiting]
  simp only [State.statusBytes, Sched.activeBytes, countBytes, absent, List.append_assoc, List.cons_append, List.nil_append]

theorem PortRec.bytes_length (p : PortRec) : p.bytes.length = 16 := rfl

theorem State.statusBytes_length {u : State} (few : u.sched.active.length ≤ 24) : u.statusBytes.length = 74 := by
  rw [State.statusBytes_eq]
  simp only [List.length_append, List.length_map, List.length_replicate, PortRec.bytes_length, List.length_cons,
    List.length_nil, le2, le4]
  omega

/-! ### LINE QUERY (R22, R200) -/

theorem Counters.bytes_length (c : Counters) : c.bytes.length = 56 := rfl

theorem LineState.targetBytes_length (st : LineState) : st.targetBytes.length = 3 := by cases st <;> rfl

theorem State.lineBytes_length (u : State) (l : LineNo) : (u.lineBytes l).length = 76 := by
  simp only [State.lineBytes, List.length_append, LineState.targetBytes_length, Counters.bytes_length, List.length_cons,
    List.length_nil, le2]

theorem LineState.targetBytes_eq (st : LineState) : st.targetBytes =
    match st with
    | .withdrawn .idle k => [1, 0xFF, if k = .onBus then 1 else 0]
    | .withdrawn .training k => [2, 0xFF, if k = .onBus then 1 else 0]
    | .withdrawn (.quarantined q) k => [6, if q = .test then 0 else 1, if k = .onBus then 1 else 0]
    | _ => [0xFF, 0xFF, 0xFF] := by
  cases st with
  | withdrawn target conn => cases target with
    | quarantined q => cases q <;> cases conn <;> rfl
    | _ => cases conn <;> rfl
  | _ => rfl

theorem LineState.deadlineByte_eq (now : Nat) (st : LineState) : st.deadlineByte now =
    match st with
    | .training d => byte ((d - now + 999999) / 1000000)
    | _ => 0xFF := by
  cases st <;> rfl

theorem LineState.causeByte_eq (st : LineState) : st.causeByte =
    match st with
    | .quarantined q => if q = .test then 0 else 1
    | _ => 0xFF := by
  cases st with
  | quarantined q => exact q.code_eq
  | _ => rfl

theorem Park.code_eq (p : Park) : byte p.code = if p = .open then 0 else 1 := by cases p <;> rfl

/-- The record of a line, its codes as the model has them. -/
theorem State.lineBytes_eq (u : State) (l : LineNo) : u.lineBytes l =
    [byte l.val, flagByte ((u.line l).state != .unequipped), (u.line l).state.kind.code] ++ (u.line l).state.targetBytes ++
      [byte (u.line l).profile.weight, byte (u.line l).profile.keep, byte (u.line l).profile.cost,
        byte (u.line l).profile.limit, byte (u.line l).profile.park.code, byte (u.line l).failCount,
        (u.line l).state.deadlineByte u.now, (u.line l).state.causeByte, byte u.sched.ingress[l].length,
        byte u.egress[l].length] ++ le2 u.sched.deficit[l] ++
      [flagByte (u.sched.active.contains l), if (u.line l).state = .shed then byte (u.energy.shed.idxOf l) else 0xFF] ++
      (u.line l).counters.bytes := by
  simp only [State.lineBytes, State.shedByte, State.equipped, lineByte, absent, List.append_assoc, List.cons_append,
    List.nil_append]

/-! ### FLOW READ (R55, R199) -/

theorem State.flowBytes_length (u : State) (k : FlowIdx) : (u.flowBytes k).length = 22 := by
  unfold State.flowBytes
  split <;> rfl

theorem State.flowBytes_of_none {u : State} {k : FlowIdx} (free : u.flows[k] = none) :
    u.flowBytes k = [byte k.val, 0] ++ List.replicate 20 0xFF := by
  simp only [State.flowBytes, free]
  rfl

theorem State.flowBytes_of_some {u : State} {k : FlowIdx} {e : FlowEntry} (entry : u.flows[k] = some e) :
    u.flowBytes k = [byte k.val, 1, flagByte e.kept, flagByte e.up, flagByte e.down, e.owner.code] ++ le2 e.lineBase ++
      le2 e.uplinkBase ++ [byte e.spanExp, e.members.extractLsb' 0 8, e.members.extractLsb' 8 8,
        e.members.extractLsb' 16 8] ++ le4 e.matchUp.toNat ++ le4 e.matchDown.toNat := by
  simp only [State.flowBytes, entry]
  rfl

/-! ### TEST LIST and results (R106, R124, R200) -/

theorem State.currentBytes_length (u : State) : u.currentBytes.length = 11 := by
  unfold State.currentBytes
  split <;> rfl

theorem TestOrder.listBytes_eq :
    TestOrder.listBytes = fun o => [byte o.id, if o.origin = .main then 0 else 1, byte o.line.val] :=
  funext fun o => by rw [TestOrder.listBytes, originByte_eq]; rfl

theorem Phase.codes_eq (ph : Phase) : [ph.codes.1, optByte ph.codes.2] =
    match ph with
    | .warmup _ => [0, 0xFF]
    | .firstSettle _ | .secondSettle _ => [1, 0xFF]
    | .foreign _ => [2, 0xFF]
    | .step k _ => [3, byte k]
    | .releaseRamp | .releaseSettle _ => [4, 0xFF]
    | .exit _ => [5, 0xFF] := by
  cases ph <;> rfl

theorem Motion.code_eq (m : Motion) : m.code = if m = .ramping then 0 else 1 := by cases m <;> rfl

/-- The block of the current order. -/
theorem State.currentBytes_of_some {u : State} {c : Current} (current : u.engine.current = some c) :
    u.currentBytes = (1 : Byte) :: c.order.listBytes ++ [c.phase.codes.1, optByte c.phase.codes.2] ++ le2 u.gen.code ++
      [flagByte u.gen.drive, u.gen.program.code, u.gen.motion.code] := by
  simp only [State.currentBytes, current]
  rfl

theorem State.currentBytes_of_none {u : State} (idle : u.engine.current = none) :
    u.currentBytes = [0, 0xFF, 0xFF, 0xFF, 0xFF, 0xFF, 0x00, 0x08, 0, 0xFF, 0xFF] := by
  simp only [State.currentBytes, idle]
  rfl

theorem steps_bytes_length (steps : List StepResult) : (steps.flatMap StepResult.bytes).length = 4 * steps.length := by
  induction steps with
  | nil => rfl
  | cons x xs ih =>
    have four : x.bytes.length = 4 := rfl
    rw [List.flatMap_cons, List.length_append, four, ih, List.length_cons]
    omega

theorem presentHalf_length (x : Option Nat) : (presentHalf x).length = 3 := by cases x <;> rfl

theorem exitBytes_length (x : Option ExitReport) : (exitBytes x).length = 4 := by cases x <;> rfl

theorem returnBytes_length (x : Option ReturnState) : (returnBytes x).length = 2 := by
  rcases x with _ | r
  · rfl
  · cases r <;> rfl

theorem Result.bytes_eq (r : Result) : r.bytes =
    [byte r.id, originByte r.origin, lineByte r.line, r.outcome.code, optByte (r.cause.map Cause.code)] ++
      presentHalf r.foreignValue ++ [byte r.steps.length] ++ r.steps.flatMap StepResult.bytes ++
      List.replicate (20 - 4 * r.steps.length) 0xFF ++ exitBytes r.exit ++ returnBytes r.returned ++
      [flagByte r.readMain, flagByte r.readCraft] := by
  simp only [Result.bytes, absent, List.append_assoc, List.cons_append, List.nil_append]

theorem Result.bytes_length {r : Result} (few : r.steps.length ≤ 5) : r.bytes.length = 37 := by
  rw [Result.bytes_eq]
  simp only [List.length_append, steps_bytes_length, presentHalf_length, exitBytes_length, returnBytes_length,
    List.length_replicate, List.length_cons, List.length_nil]
  omega

theorem ExitMode.code_eq (m : ExitMode) : byte m.code =
    match m with
    | .cut => 0
    | .ramp => 1
    | .dwell => 2 := by
  cases m <;> rfl

theorem exitBytes_eq (x : Option ExitReport) : exitBytes x =
    match x with
    | some x => [1, x.cause.code, (x.second.map Cause.code).getD 0xFF, match x.mode with
        | .cut => 0
        | .ramp => 1
        | .dwell => 2]
    | none => [0, 0xFF, 0xFF, 0xFF] := by
  rcases x with _ | x
  · rfl
  · rw [exitBytes, optByte_eq, ExitMode.code_eq]

theorem returnBytes_eq (x : Option ReturnState) : returnBytes x =
    match x with
    | none => [0xFF, 0xFF]
    | some .idle => [1, 0xFF]
    | some .training => [2, 0xFF]
    | some .shed => [5, 0xFF]
    | some (.quarantined q) => [6, if q = .test then 0 else 1] := by
  rcases x with _ | r
  · rfl
  · cases r with
    | quarantined q => rw [returnBytes, QCause.code_eq]
    | _ => rfl

/-! ### ENERGY QUERY (R157, R200) -/

theorem State.enginePart_byte (u : State) : byte u.enginePart = if u.engine.current.isSome then 6 else 0 := by
  unfold State.enginePart
  split <;> rfl

theorem State.energyBytes_eq (u : State) : u.energyBytes =
    [u.energy.supply.code, u.energy.source.code, byte u.budget, byte u.energy.budgets.mains,
        byte u.energy.budgets.battHigh, byte u.energy.budgets.battLow, byte u.energy.budgets.battCrit] ++ le2 u.committed ++
      le2 u.linePart ++ [byte u.enginePart, byte u.capPart, byte u.energy.cap, byte u.params.capCeiling,
        classByte u.uplink.status, flagByte u.energyHeld, byte u.energy.shed.length] ++ u.energy.shed.map lineByte := by
  simp only [State.energyBytes, List.append_assoc, List.cons_append, List.nil_append]

theorem State.energyBytes_length (u : State) : u.energyBytes.length = 18 + u.energy.shed.length := by
  rw [State.energyBytes_eq]
  simp only [List.length_append, List.length_map, List.length_cons, List.length_nil, le2]

/-! ### POINT READ (R167, R200) -/

theorem pointGroup_code (p : PointNo) : (pointGroup p).code =
    if p.val < 2 then 0 else if p.val < 4 then 1 else if p.val < 8 then 2 else 3 := by
  unfold pointGroup
  split
  · rfl
  · split
    · rfl
    · split <;> rfl

theorem Level.optByte_eq (x : Option Level) : optByte (x.map Level.code) =
    match x with
    | none => 0xFF
    | some .low => 0
    | some .high => 1 := by
  rcases x with _ | v
  · rfl
  · cases v <;> rfl

theorem PointFn.byte_code (f : PointFn) : byte f.code =
    match f with
    | .unassigned => 0
    | .door => 1
    | .surge => 2
    | .mains => 3
    | .battLow => 4
    | .battCrit => 5
    | .spareIn => 6
    | .testPower => 7
    | .capA => 8
    | .capB => 9
    | .lamp => 10
    | .fan => 11 := by
  cases f <;> rfl

theorem Polarity.code_eq (x : Polarity) : byte x.code = if x = .activeHigh then 0 else 1 := by cases x <;> rfl

theorem State.pointBytes_length (u : State) (p : PointNo) : (u.pointBytes p).length = 7 := rfl

theorem State.pointReadBytes_length (u : State) : u.pointReadBytes.length = 89 := by
  have points : (allPoints.flatMap u.pointBytes).length = 84 := by
    rw [List.length_flatMap]
    simp only [State.pointBytes_length]
    rfl
  rw [State.pointReadBytes, List.length_append, List.length_append, points]
  rfl

theorem surgeBytes_eq (u : State) : u.points.surge.code :: le2 u.quietLeft =
    match u.points.surge with
    | .calm => [0, 0, 0]
    | .asserted => [1, 0, 0]
    | .quiet e => 2 :: le2 ((e - u.now + 999) / 1000) := by
  have zero : le2 0 = [0, 0] := by decide
  unfold State.quietLeft
  cases u.points.surge with
  | quiet e => rfl
  | _ => exact congrArg _ zero

theorem State.pointReadBytes_eq (u : State) : u.pointReadBytes = allPoints.flatMap u.pointBytes ++
    (match u.points.surge with
    | .calm => [0, 0, 0]
    | .asserted => [1, 0, 0]
    | .quiet e => 2 :: le2 ((e - u.now + 999) / 1000)) ++ [flagByte u.doorOpen, flagByte u.points.testPower] := by
  rw [State.pointReadBytes, surgeBytes_eq]

/-! ### The requests that report -/

section
variable {s : State} {c : Instr} {h : Header} {r : Req}

/-- A report: its owning block answers OK and changes nothing. -/
theorem exec_report (row : requestOf c = some (h, r)) (ready : Ready h.port s) (direct : Direct h)
    (allowed : permitted h.port s.doorOpen r = true) (fields : fieldsOk r = true) (kind : answeredAtOnce r = true)
    {payload : List Byte} (report : own h.port r (s.taken (timeOf c) h.port) = (Reply.ok payload, s.taken (timeOf c) h.port)) :
    exec c s = .next ((s.taken (timeOf c) h.port).answers h (reqKind r) .ok payload) :=
  exec_eq_answers row ready direct allowed fields kind report

theorem paramIds_contains_iff (id : Nat) : paramIds.contains id = true ↔ 1 ≤ id ∧ id ≤ 10 := by
  rw [List.contains_iff_mem, paramIds]
  simp only [List.mem_cons, List.not_mem_nil, or_false]
  omega

theorem State.parameterBytes_eq (id : Byte) (s : State) :
    s.parameterBytes id.toNat = id :: le2 (s.params.get id.toNat) := by
  simp [State.parameterBytes, byte]

theorem exec_ident (ready : Ready h.port s) (direct : Direct h) (t : Nat) : exec (.ident t h) s =
    .next ((s.taken t h.port).answers h 0x01 .ok (s.taken t h.port).identBytes) :=
  exec_report (c := .ident t h) (r := .ident) rfl ready direct (by cases h.port <;> cases s.doorOpen <;> rfl) rfl rfl rfl

theorem State.identBytes_taken (t : Nat) (p : PortId) (s : State) : (s.taken t p).identBytes =
    [0x43, 0x4C, 0x32, 0x34, 3, byte s.ports.dropInForce, s.status.code, s.cause.code] := by
  cases p <;> rfl

theorem exec_status_keep (ready : Ready h.port s) (direct : Direct h) (entitled : Entitled h.port s) (t : Nat) :
    exec (.status t h 0) s = .next ((s.taken t h.port).answers h 0x02 .ok (s.taken t h.port).statusBytes) :=
  exec_report (c := .status t h 0) (r := .status 0) rfl ready direct (permitted_entitled entitled rfl) rfl rfl rfl

theorem fieldsOk_lineQuery (l : LineNo) {clear : Byte} (flag : flagOk clear = true) :
    fieldsOk (.lineQuery (lineByte l) clear) = true := by
  simp only [fieldsOk, lineOk_lineByte, flag, Bool.and_self]

theorem exec_lineQuery_keep (ready : Ready h.port s) (direct : Direct h) (entitled : Entitled h.port s) (t : Nat)
    (l : LineNo) : exec (.lineQuery t h (lineByte l) 0) s =
      .next ((s.taken t h.port).answers h 0x14 .ok ((s.taken t h.port).lineBytes l)) :=
  exec_report (c := .lineQuery t h (lineByte l) 0) (r := .lineQuery (lineByte l) 0) rfl ready direct
    (permitted_entitled entitled rfl) (fieldsOk_lineQuery l rfl) rfl (onLine_lineByte l _ _)

theorem exec_flowRead (ready : Ready h.port s) (direct : Direct h) (entitled : Entitled h.port s) (t : Nat)
    (k : FlowIdx) : exec (.flowRead t h (BitVec.ofNat 8 k.val)) s =
      .next ((s.taken t h.port).answers h 0x24 .ok ((s.taken t h.port).flowBytes k)) :=
  exec_report (c := .flowRead t h (BitVec.ofNat 8 k.val)) (r := .flowRead (BitVec.ofNat 8 k.val)) rfl ready direct
    (permitted_entitled entitled rfl) (by simp only [fieldsOk, flowByte_toNat, k.isLt, decide_true]) rfl (onFlow_byte k _ _)

theorem exec_testList (ready : Ready h.port s) (direct : Direct h) (entitled : Entitled h.port s) (t : Nat) :
    exec (.testList t h) s = .next ((s.taken t h.port).answers h 0x33 .ok (s.taken t h.port).testListBytes) :=
  exec_report (c := .testList t h) (r := .testList) rfl ready direct (permitted_entitled entitled rfl) rfl rfl rfl

theorem exec_energyQuery (ready : Ready h.port s) (direct : Direct h) (entitled : Entitled h.port s) (t : Nat) :
    exec (.energyQuery t h) s = .next ((s.taken t h.port).answers h 0x42 .ok (s.taken t h.port).energyBytes) :=
  exec_report (c := .energyQuery t h) (r := .energyQuery) rfl ready direct (permitted_entitled entitled rfl) rfl rfl rfl

theorem exec_pointRead (ready : Ready h.port s) (direct : Direct h) (entitled : Entitled h.port s) (t : Nat) :
    exec (.pointRead t h) s = .next ((s.taken t h.port).answers h 0x51 .ok (s.taken t h.port).pointReadBytes) :=
  exec_report (c := .pointRead t h) (r := .pointRead) rfl ready direct (permitted_entitled entitled rfl) rfl rfl rfl

theorem exec_getParameter (ready : Ready h.port s) (direct : Direct h) (main : h.port = .main) (t : Nat) (id : Byte) :
    exec (.getParameter t h id) s = .next
      (if 1 ≤ id.toNat ∧ id.toNat ≤ 10 then
        (s.taken t h.port).answers h 0x04 .ok (id :: le2 (s.params.get id.toNat))
       else (s.taken t h.port).answers h 0x04 .range []) := by
  rw [exec_eq_answers (c := .getParameter t h id) (r := .getParameter id) rfl ready direct (permitted_main main _ _) rfl rfl rfl]
  have params : (s.taken t h.port).params = s.params := by simp
  rw [own, State.getParameter, State.parameterBytes_eq]
  simp only [timeOf, paramIds_contains_iff, params]
  split <;> rfl

theorem exec_status_clear (ready : Ready h.port s) (direct : Direct h) (main : h.port = .main) (t : Nat) :
    exec (.status t h 1) s =
      .next ((s.taken t h.port).clearStatus.answers h 0x02 .ok (s.taken t h.port).statusBytes) :=
  exec_eq_answers (c := .status t h 1) (r := .status 1)
    (out := (Reply.ok (s.taken t h.port).statusBytes, (s.taken t h.port).clearStatus))
    rfl ready direct (permitted_main main _ _) rfl rfl rfl

theorem exec_lineQuery_clear (ready : Ready h.port s) (direct : Direct h) (main : h.port = .main) (t : Nat)
    (l : LineNo) : exec (.lineQuery t h (lineByte l) 1) s =
      .next (((s.taken t h.port).setLine l fun r => { r with counters := Counters.zero }).answers h 0x14 .ok
        ((s.taken t h.port).lineBytes l)) :=
  exec_eq_answers (c := .lineQuery t h (lineByte l) 1) (r := .lineQuery (lineByte l) 1)
    (out := (Reply.ok ((s.taken t h.port).lineBytes l),
      (s.taken t h.port).setLine l fun r => { r with counters := Counters.zero }))
    rfl ready direct (permitted_main main _ _) (fieldsOk_lineQuery l rfl) rfl (onLine_lineByte l _ _)

end

/-- Settles O14: the layout of each record, and each report at its owning block. -/
theorem reports : Obligations.Reports := by
  unfold Obligations.Reports
  intro b n2 n4 flag opt origin class_ quar kind supply source fn outcome cause settings started
  have classEq (c : Option RateClass) : class_ c = classByte c := (classByte_eq c).symm
  refine ⟨fun u => ⟨?_, State.statusBytes_length⟩, fun u l => ⟨?_, u.lineBytes_length l⟩,
    fun u k => ⟨State.flowBytes_of_none, fun e entry => State.flowBytes_of_some entry, u.flowBytes_length k⟩,
    fun u => ?_, fun u => ⟨?_, u.energyBytes_length⟩, fun u => ?_,
    fun r => ⟨?_, Result.bytes_length⟩, fun n => ⟨?_, ?_⟩, fun t h s ready direct => ⟨?_, fun entitled => ⟨?_, ?_, ?_, ?_, ?_, ?_⟩,
    fun main id => ?_, fun main => ⟨?_, ?_⟩⟩⟩
  · dsimp only
    rw [classEq]
    exact u.statusBytes_eq
  · have target := (u.line l).state.targetBytes_eq
    have deadline := (u.line l).state.deadlineByte_eq u.now
    have reason := (u.line l).state.causeByte_eq
    have park := (u.line l).profile.park.code_eq
    have record := u.lineBytes_eq l
    rw [target, deadline, reason, park] at record
    exact record
  · have length := u.currentBytes_length
    have list : u.testListBytes = byte u.engine.queue.length :: u.engine.queue.flatMap TestOrder.listBytes ++ u.currentBytes :=
      rfl
    cases current : u.engine.current with
    | none =>
      rw [State.currentBytes_of_none current, TestOrder.listBytes_eq] at list
      exact ⟨list, rfl⟩
    | some c =>
      rw [State.currentBytes_of_some current, c.phase.codes_eq, Motion.code_eq, TestOrder.listBytes_eq] at length list
      exact ⟨list, length⟩
  · have record := u.energyBytes_eq
    rw [u.enginePart_byte] at record
    rw [classEq]
    exact record
  · intro point
    have each (p : PointNo) : u.pointBytes p = point p := by
      have record : u.pointBytes p = [byte p.val, (pointGroup p).code, byte (u.point p).fn.code,
          byte (u.point p).polarity.code, optByte ((u.point p).debounced.map Level.code),
          optByte ((u.driven p).map flagByte), flagByte (u.reads p && (u.point p).window.isSome)] := rfl
      rw [pointGroup_code, Polarity.code_eq, Level.optByte_eq, optByte_eq, State.reads, Bool.and_comm,
        PointFn.byte_code] at record
      exact record
    have all := u.pointReadBytes_eq
    rw [funext each] at all
    exact ⟨fun p => ⟨each p, rfl⟩, all, u.pointReadBytes_length⟩
  · have record := r.bytes_eq
    rw [originByte_eq, optByte_eq, exitBytes_eq, returnBytes_eq] at record
    exact record
  · cases n <;> rfl
  · cases n with
    | start c st => cases c <;> cases st <;> rfl
    | test id o r => cases o <;> rfl
    | uplink c cap =>
      rcases c with _ | c
      · rfl
      · cases c <;> rfl
    | point p f a => rw [Notice.bytes, PointFn.byte_code]; rfl
    | _ => rfl
  · have answer := exec_ident ready direct t
    rw [State.identBytes_taken, SettingsStatus.code_eq] at answer
    exact answer
  · exact exec_status_keep ready direct entitled t
  · exact exec_lineQuery_keep ready direct entitled t
  · exact exec_flowRead ready direct entitled t
  · exact exec_testList ready direct entitled t
  · exact exec_energyQuery ready direct entitled t
  · exact exec_pointRead ready direct entitled t
  · exact exec_getParameter ready direct main t id
  · exact exec_status_clear ready direct main t
  · exact exec_lineQuery_clear ready direct main t

end Sys2Proof.Machine
end

section
/-! The parameter table at its requests (R190, R149), saves and restarts (R189, R191, R193), and batches (R180, R184,
R185). -/

namespace Sys2Proof.Machine

/-! ### SET PARAMETER (R190, R149) -/

section
variable {id v : Nat} {s : State}

theorem State.setParameter_range (bad : paramOk id v = false) : s.setParameter id v = (Reply.bad .range, s) := by
  simp only [State.setParameter, bad, Bool.not_false, if_true]

theorem State.setParameter_same (ok : paramOk id v = true) (same : s.params.get id = v) :
    s.setParameter id v = (Reply.ok (s.parameterBytes id), s) := by
  simp only [State.setParameter, ok, Bool.not_true, Bool.false_eq_true, if_false, same, if_true]

theorem State.setParameter_new (ok : paramOk id v = true) (new : s.params.get id ≠ v) :
    s.setParameter id v = (Reply.ok (byte id :: le2 v), s.putParameter id v) := by
  simp only [State.setParameter, ok, Bool.not_true, Bool.false_eq_true, if_false, new]

theorem State.putParameter_other (other : id ≠ 10) : s.putParameter id v = { s with params := s.params.put id v } :=
  if_neg other

/-- What a new cap ceiling does at the energy manager. -/
theorem State.putParameter_ceiling (v : Nat) (s : State) : s.putParameter 10 v =
    (let stored := { s with params := s.params.put 10 v }
     if v < s.energy.cap then (stored.setCap v).restoringPass.attempt
     else if s.params.capCeiling < v then
       (if stored.restoringPass.committed = stored.committed then stored.restoringPass else stored.restoringPass.attempt)
     else stored) := rfl

end

theorem byte_toNat (b : Byte) : byte b.toNat = b := by simp [byte]

theorem exec_setParameter {h : Header} {s : State} {id : Byte} {value : Half} {out : Reply × State} (t : Nat)
    (ready : Ready h.port s) (direct : Direct h) (main : h.port = .main)
    (own : (s.taken t h.port).setParameter id.toNat value.toNat = out) :
    exec (.setParameter t h id value) s = .next (out.2.answers h 0x03 out.1.status out.1.payload) :=
  exec_eq_answers (c := .setParameter t h id value) (r := .setParameter id value) rfl ready direct
    (permitted_main main _ _) rfl rfl own

/-- Settles O15: the parameter table by its ids, and SET PARAMETER by the value held. -/
theorem setParameter : Obligations.SetParameter := by
  refine ⟨paramOk_iff, fun p => ?_, fun p v => ?_, fun p id v ok => ⟨p.get_put_self ok, fun _ => p.get_put_other⟩, ?_⟩
  · rfl
  · have rate : p.put 2 v = { p with rate := v * 100 } := rfl
    rw [Nat.mul_comm] at rate
    exact ⟨rfl, rate, rfl, rfl, rfl, rfl, rfl, rfl, rfl, rfl, rfl, rfl⟩
  · rintro t ⟨port, group, tag⟩ id value s ready direct main
    subst main
    have same : (s.taken t .main).params = s.params := rfl
    refine ⟨fun bad => ?_, fun ok held => ?_, fun ok new other => ?_, fun ok new ceiling => ?_⟩
    · exact exec_setParameter t ready direct rfl (State.setParameter_range bad)
    · have bytes : (s.taken t .main).parameterBytes id.toNat = id :: Half.laid value := by
        rw [State.parameterBytes_eq, same, held]
        rfl
      rw [exec_setParameter t ready direct rfl (State.setParameter_same ok held), bytes]
      rfl
    · have other' : id.toNat ≠ 10 := fun e => other (BitVec.eq_of_toNat_eq e)
      rw [exec_setParameter t ready direct rfl (State.setParameter_new ok new), State.putParameter_other other',
        byte_toNat]
      rfl
    · subst ceiling
      rw [exec_setParameter t ready direct rfl (State.setParameter_new ok new)]
      have ten : (10 : Byte).toNat = 10 := rfl
      rw [ten, State.putParameter_ceiling]
      rfl

/-! ### SAVE SETTINGS and RESTART (R189, R191, R193) -/

/-- A request past the dispatcher's checks on a READY port is carried out on the machine with the message handed over. -/
theorem exec_perform {c : Instr} {h : Header} {r : Req} {s : State} (row : requestOf c = some (h, r)) (ready : Ready h.port s)
    (direct : Direct h) (allowed : permitted h.port s.doorOpen r = true) (fields : fieldsOk r = true) :
    exec c s = .next ((s.taken (timeOf c) h.port).perform h r 0) := by
  rw [exec_request row, State.request, State.message_ready _ ready direct,
    State.judge_perform direct (by rw [State.taken_doorOpen]; exact allowed) fields]

theorem exec_saveWriteEnd (t : Nat) (held : Option (List Half)) (s : State) :
    exec (.saveWriteEnd t held) s = .next (s.event t (State.writeEnds held)) := rfl

theorem State.writeEnds_of_save {s : State} {tag : Byte} {words : List Half} (held : Option (List Half))
    (job : s.ports.main.job = some (.save tag words)) : s.writeEnds held =
      if held.getD words = words then
        ({ s with store := { words := held.getD words, mark := false }, status := .good }).transmit .main
          (Reply.body 0x05 tag (Reply.ok [])) false
      else
        ({ s with store := { words := held.getD words, mark := false } }).transmit .main
          (Reply.body 0x05 tag (Reply.bad .storeFail)) false := by
  simp only [State.writeEnds, job]
  split <;> rfl

/-- The check word brings the sum of an image to 65535. -/
theorem sum_checkWord (body : List Half) : (body ++ [checkWord body]).sum = 0xFFFF := by
  rw [List.sum_append, List.sum_singleton, checkWord, BitVec.add_not_self]
  rfl

/-- Settles O17: the snapshot, by what the store then holds, and the check word. -/
theorem saveSettings : Obligations.SaveSettings := by
  refine ⟨?_, fun t held tag words s running job => ?_, fun st => sum_checkWord st.body⟩
  · rintro t ⟨port, group, tag⟩ s ready direct main
    subst main
    exact exec_perform (c := .saveSettings t _) (r := .saveSettings) rfl ready direct rfl rfl
  · have job' : (s.advance t).ports.main.job = some (.save tag words) := job
    rw [exec_saveWriteEnd, State.event_running running, State.writeEnds_of_save held job']
    cases held with
    | none =>
      simp only [Option.getD_none, if_true, true_or]
      rfl
    | some written =>
      by_cases same : written = words
      · subst same
        simp only [Option.getD_some, if_true, or_true]
        rfl
      · have differ : ¬ (some written = none ∨ some written = some words) := by simpa using same
        simp only [Option.getD_some, same, differ, if_false]
        rfl

/-- Settles O18: performed or refused at the permission check. -/
theorem restart : Obligations.Restart := by
  intro t h s ready direct
  refine ⟨fun entitled => ?_, fun craft shut => ?_⟩
  · rw [exec_perform (c := .restart t h) (r := .restart) rfl ready direct (permitted_entitled entitled rfl) rfl]
    have alone : h.group = false := direct
    simp only [State.perform, State.beginRestart, alone, Bool.false_eq_true, if_false, timeOf]
    exact congrArg _ (State.transmit_of_hunt (State.taken_recv t h.port s) _ true)
  · exact exec_eq_denied (c := .restart t h) (r := .restart) rfl ready direct (by rw [craft, shut]; rfl)

/-! ### BATCH (R180, R184, R185) -/

theorem batchGo_failed {p : PortId} {tag : Byte} {n : Nat} {sub : RawSub} {rest : List RawSub} {done : List Byte}
    {s : State} (failed : (subRun p sub s).1.status ≠ .ok) : batchGo p tag (n + 1) (sub :: rest) done s =
      (subRun p sub s).2.transmit p ((batchPartial done (subRun p sub s).1.status).body 0x08 tag) false := if_neg failed

theorem batchGo_succeeded {p : PortId} {tag : Byte} {n : Nat} {sub : RawSub} {rest : List RawSub} {done : List Byte}
    {s : State} (succeeded : (subRun p sub s).1.status = .ok) : batchGo p tag (n + 1) (sub :: rest) done s =
      batchGo p tag n rest (done ++ [resultValue sub.kind (subRun p sub s).1]) (subRun p sub s).2 := if_pos succeeded

theorem State.batchOn_of_batch {p : PortId} {tag : Byte} {rest : List RawSub} {done : List Byte} {s : State}
    (job : (s.port p).job = some (.batch tag rest done)) (n : Nat) : s.batchOn p n = batchGo p tag n rest done s := by
  simp only [State.batchOn, job]

theorem subRun_unlisted {p : PortId} {sub : RawSub} {s : State} (unlisted : sub.kind ∉ batchKinds) :
    subRun p sub s = (Reply.bad .unknown, s) := by
  have absent : batchKinds.contains sub.kind = false := by simpa [← Bool.not_eq_true] using unlisted
  simp only [subRun, absent, Bool.not_false, if_true]

theorem subRun_badLength {p : PortId} {sub : RawSub} {s : State} (listed : sub.kind ∈ batchKinds)
    (length : parse sub.kind sub.payload = .badLength) : subRun p sub s = (Reply.bad .length, s) := by
  simp only [subRun, List.contains_iff_mem.mpr listed, Bool.not_true, Bool.false_eq_true, if_false, length]

theorem subRun_read {p : PortId} {sub : RawSub} {s : State} {r : Req} (listed : sub.kind ∈ batchKinds)
    (read : parse sub.kind sub.payload = .req r) : subRun p sub s =
      (if permitted p s.doorOpen r = false then (Reply.bad .denied, s)
       else if fieldsOk r = false then (Reply.bad .range, s) else own p r s) := by
  simp only [subRun, List.contains_iff_mem.mpr listed, Bool.not_true, Bool.false_eq_true, if_false, read,
    Bool.not_eq_true']

/-- The beginning of a BATCH, at the dispatcher. -/
theorem exec_batch_judged (t : Nat) {h : Header} (subs : List RawSub) (n : Nat) {s : State} (ready : Ready h.port s)
    (direct : Direct h) : exec (.batch t (.begin h subs n)) s =
      .next ((s.taken t h.port).judge h 0x08 (.req (.batch subs)) n) := by
  rw [exec_batch_begin, State.message_ready t ready direct]

/-- A BATCH refused at one of the dispatcher's checks. -/
theorem State.judge_direct_refused {h : Header} (direct : Direct h) (kind : Byte) (r : Req) (n : Nat) (s : State) :
    (permitted h.port s.doorOpen r = false → s.judge h kind (.req r) n = s.answer h kind (Reply.bad .denied)) ∧
    (permitted h.port s.doorOpen r = true → fieldsOk r = false →
      s.judge h kind (.req r) n = s.answer h kind (Reply.bad .range)) := by
  have alone : h.group = false := direct
  refine ⟨fun denied => ?_, fun allowed range => ?_⟩
  · simp only [State.judge, alone, Bool.false_and, Bool.false_eq_true, if_false, denied, Bool.not_false, if_true]
  · simp only [State.judge, alone, Bool.false_and, Bool.false_eq_true, if_false, allowed, range, Bool.not_false,
      Bool.not_true, if_true]

/-- Settles O19: the beginning by the checks, the course by what is left, a sub-request by its checks. -/
theorem batch : Obligations.Batch := by
  unfold Obligations.Batch
  intro entries kinds
  refine ⟨fun t h subs n s ready direct entitled => ?_, fun t h subs n s ready direct craft shut => ?_,
    fun t n p tag rest done s running job => ?_, fun p tag n sub rest done s => ⟨?_, rfl, batchGo_failed, ?_⟩,
    fun p sub s => ⟨subRun_unlisted, subRun_badLength, fun r => subRun_read⟩⟩
  · have allowed : permitted h.port (s.taken t h.port).doorOpen (.batch subs) = true := by
      rw [State.taken_doorOpen]
      exact permitted_entitled entitled rfl
    refine ⟨fun count => ?_, fun one eight => ?_⟩
    · have range : fieldsOk (.batch subs) = false := by
        rw [← Bool.not_eq_true, fieldsOk_iff]
        intro fits
        have : 1 ≤ subs.length ∧ subs.length ≤ 8 := fits
        omega
      rw [exec_batch_judged t subs n ready direct, (State.judge_direct_refused direct _ _ n _).2 allowed range]
      exact congrArg _ (State.taken_answer direct t 0x08 (Reply.bad .range) s)
    · rw [exec_batch_judged t subs n ready direct,
        State.judge_perform direct allowed ((fieldsOk_iff _).mpr ⟨one, eight⟩)]
      rfl
  · have denied : permitted h.port (s.taken t h.port).doorOpen (.batch subs) = false := by
      rw [State.taken_doorOpen, craft, shut]
      rfl
    rw [exec_batch_judged t subs n ready direct, (State.judge_direct_refused direct _ _ n _).1 denied]
    exact congrArg _ (State.taken_answer direct t 0x08 (Reply.bad .denied) s)
  · have job' : ((s.advance t).port p).job = some (.batch tag rest done) := by cases p <;> exact job
    have run : exec (.batch t (.go p n)) s = .next (s.event t (State.batchOn p n)) := rfl
    rw [run, State.event_running running, State.batchOn_of_batch job']
  · cases n <;> rfl
  · exact batchGo_succeeded

end Sys2Proof.Machine
end

section
/-! The requests and indications of the line supervisor (R7 to R9, R14, R16, R17, R21), a line's move, and the drive of
the line ports (R3 to R5, R13, R35). -/

namespace Sys2Proof.Machine

/-! ### The engine is told of a change of committed consumption (R108, R148) -/

section
variable {s : State} {before : Nat}

theorem State.settleChange_same (same : s.committed = before) : s.settleChange before = s := if_pos same

theorem State.settleChange_rise (rise : before < s.committed) : s.settleChange before = s.sheddingPass.attempt := by
  simp only [State.settleChange, State.passFor, if_neg (Nat.ne_of_gt rise), if_pos rise]

theorem State.settleChange_fall (fall : s.committed < before) : s.settleChange before = s.restoringPass.attempt := by
  simp only [State.settleChange, State.passFor, if_neg (Nat.ne_of_lt fall), if_neg (Nat.lt_asymm fall), if_pos fall]

end

/-! ### LINE START and LINE STOP at the line supervisor (R14, R16, R17) -/

section
variable {s : State} {l : LineNo}

/-- A line that starts within the budget: its cost is added, and the shedding pass that the rise calls for finds nothing
to do. -/
theorem State.lineStart_of_idle (idle : (s.line l).state = .idle) (cost : 1 ≤ (s.line l).profile.cost)
    (fits : s.committed + (s.line l).profile.cost ≤ s.budget) :
    s.lineStart l = (Reply.ok [], (s.moveLine l (.training s.newDeadline) .request).attempt) := by
  have moved := State.committed_moveLine l (.training s.newDeadline) .request s
  have counts : (if (LineState.training s.newDeadline).counted = true then (s.line l).profile.cost else 0) =
      (s.line l).profile.cost := rfl
  have free : (if LineState.idle.counted = true then (s.line l).profile.cost else 0) = 0 := rfl
  rw [idle, free, counts, Nat.add_zero] at moved
  have within : (s.moveLine l (.training s.newDeadline) .request).committed ≤
      (s.moveLine l (.training s.newDeadline) .request).budget := by
    rw [moved, State.budget_moveLine]
    exact fits
  have admitted : s.admits (s.costOf l) = true := decide_eq_true fits
  simp only [State.lineStart, idle, admitted, if_true]
  rw [State.settleChange_rise (by omega), State.sheddingPass_within within]

theorem State.lineStart_of_idle_over (idle : (s.line l).state = .idle)
    (above : s.budget < s.committed + (s.line l).profile.cost) : s.lineStart l = (Reply.bad .budget, s) := by
  have refused : s.admits (s.costOf l) = false := decide_eq_false (Nat.not_le.mpr above)
  simp only [State.lineStart, idle, refused, Bool.false_eq_true, if_false]

/-- A counted line that stops: its cost falls away, and the restoring pass follows. -/
theorem State.lineStop_of_counted (counted : (s.line l).state.counted = true) (cost : 1 ≤ (s.line l).profile.cost) :
    s.lineStop l = (Reply.ok [], (s.moveLine l .idle .request).restoringPass.attempt) := by
  have moved := State.committed_moveLine l .idle .request s
  have free : (if LineState.idle.counted = true then (s.line l).profile.cost else 0) = 0 := rfl
  rw [if_pos counted, free, Nat.add_zero] at moved
  have settled := State.settleChange_fall (s := s.moveLine l .idle .request) (before := s.committed) (by omega)
  unfold State.lineStop
  split
  case h_1 => rw [settled]
  case h_2 => rw [settled]
  all_goals
    rename_i is
    rw [is] at counted
    exact absurd counted Bool.false_ne_true

theorem exec_lineStart {h : Header} {out : Reply × State} (t : Nat) (ready : Ready h.port s) (direct : Direct h)
    (entitled : Entitled h.port s) (own : (s.taken t h.port).lineStart l = out) :
    exec (.lineStart t h (lineByte l)) s = .next (out.2.answers h 0x10 out.1.status out.1.payload) :=
  exec_eq_answers (c := .lineStart t h (lineByte l)) (r := .lineStart (lineByte l)) rfl ready direct
    (permitted_entitled entitled rfl) (lineOk_lineByte l) rfl ((onLine_lineByte l _ _).trans own)

theorem exec_lineStop {h : Header} {out : Reply × State} (t : Nat) (ready : Ready h.port s) (direct : Direct h)
    (entitled : Entitled h.port s) (own : (s.taken t h.port).lineStop l = out) :
    exec (.lineStop t h (lineByte l)) s = .next (out.2.answers h 0x11 out.1.status out.1.payload) :=
  exec_eq_answers (c := .lineStop t h (lineByte l)) (r := .lineStop (lineByte l)) rfl ready direct
    (permitted_entitled entitled rfl) (lineOk_lineByte l) rfl ((onLine_lineByte l _ _).trans own)

theorem State.taken_committed (t : Nat) (p : PortId) (s : State) : (s.taken t p).committed = s.committed :=
  State.committed_congr (fun l => by rw [State.taken_line]; exact ⟨rfl, rfl⟩) (by simp) (by simp)

theorem State.taken_budget (t : Nat) (p : PortId) (s : State) : (s.taken t p).budget = s.budget :=
  State.budget_congr (by simp) (by simp)

theorem State.taken_newDeadline (t : Nat) (p : PortId) (s : State) :
    (s.taken t p).newDeadline = max s.now t + 1000000 * s.params.trainTimeout := by
  simp [State.newDeadline, secs]

end

/-- Settles O20: by the state of the line. -/
theorem lineStart : Obligations.LineStart := by
  intro t h l s ready direct entitled cost u done
  have line : u.line l = s.line l := State.taken_line t h.port l s
  have answered {out : Reply × State} (own : u.lineStart l = out) := exec_lineStart t ready direct entitled own
  split
  case h_1 idle =>
    have idle' : (u.line l).state = .idle := by rw [line, idle]
    refine ⟨fun fits => ?_, fun above => ?_⟩
    · have own := State.lineStart_of_idle (s := u) idle' (by rw [line]; exact cost)
        (by rw [line, State.taken_committed, State.taken_budget]; exact fits)
      rw [State.taken_newDeadline] at own
      exact answered own
    · exact answered (State.lineStart_of_idle_over (s := u) idle'
        (by rw [line, State.taken_committed, State.taken_budget]; exact above))
  all_goals
    rename_i is
    have own := answered rfl
    simp only [State.lineStart, line, is, State.editTarget] at own
    exact own

/-- Settles O21: by the state of the line. -/
theorem lineStop : Obligations.LineStop := by
  intro t h l s ready direct entitled cost u done
  have line : u.line l = s.line l := State.taken_line t h.port l s
  have shed : u.energy.shed = s.energy.shed := by simp [u]
  have answered {out : Reply × State} (own : u.lineStop l = out) := exec_lineStop t ready direct entitled own
  have stopped (counted : (s.line l).state.counted = true) : done .ok (u.moveLine l .idle .request).restoringPass.attempt :=
    answered (State.lineStop_of_counted (s := u) (by rw [line]; exact counted) (by rw [line]; exact cost))
  split
  case h_1 is => exact stopped (by rw [is]; rfl)
  case h_2 is => exact stopped (by rw [is]; rfl)
  all_goals
    rename_i is
    have own := answered rfl
    simp only [State.lineStop, line, is, State.editTarget, State.setShed, shed] at own
    exact own

/-! ### LINE PROFILE (R2, R21, R148) -/

/-- What a line adds to committed consumption (R148). -/
def State.part (s : State) (l : LineNo) : Nat := if (s.line l).state.counted then (s.line l).profile.cost else 0

/-- When the records of the other lines stay, the line part changes by line l's own part. -/
theorem State.linePart_changed {s u : State} {l : LineNo} (others : ∀ k, k ≠ l → u.line k = s.line k) :
    u.linePart + s.part l = s.linePart + u.part l := by
  have split (v : State) : v.linePart = v.part l + ∑ k ∈ Finset.univ.erase l, v.part k := by
    rw [State.linePart_sum]
    exact (Finset.add_sum_erase Finset.univ v.part (Finset.mem_univ l)).symm
  have rest : ∑ k ∈ Finset.univ.erase l, u.part k = ∑ k ∈ Finset.univ.erase l, s.part k :=
    Finset.sum_congr rfl fun k mem => by rw [State.part, State.part, others k (Finset.ne_of_mem_erase mem)]
  rw [split u, split s, rest]
  omega

theorem State.committed_setLine (l : LineNo) (f : LineRec → LineRec) (s : State) :
    (s.setLine l f).committed + s.part l = s.committed + (s.setLine l f).part l := by
  have moved := State.linePart_changed (s := s) (u := s.setLine l f) (l := l) fun k ne => State.line_setLine_other f s ne
  have engine : (s.setLine l f).enginePart = s.enginePart := by simp [State.enginePart]
  have cap : (s.setLine l f).capPart = s.capPart := by simp [State.capPart]
  simp only [State.committed, engine, cap]
  omega

section
variable {s : State} {l : LineNo} {p : Profile}

theorem State.lineProfile_unequipped (unequipped : (s.line l).state = .unequipped) :
    s.lineProfile l p = (Reply.bad .state, s) := by
  simp [State.lineProfile, State.equipped, unequipped]

theorem State.lineProfile_range (equipped : (s.line l).state ≠ .unequipped)
    (bad : profileOk p.weight p.keep p.cost p.limit = false) : s.lineProfile l p = (Reply.bad .range, s) := by
  simp [State.lineProfile, State.equipped, equipped, bad]

theorem State.lineProfile_set (equipped : (s.line l).state ≠ .unequipped)
    (ok : profileOk p.weight p.keep p.cost p.limit = true) :
    s.lineProfile l p = (Reply.ok [], (s.setLine l fun r => { r with profile := p }).settleChange s.committed) := by
  simp [State.lineProfile, State.equipped, equipped, ok]

/-- A new profile moves committed consumption by the change of cost of a counted line. -/
theorem State.committed_profile (l : LineNo) (p : Profile) (s : State) :
    (s.setLine l fun r => { r with profile := p }).committed + (if (s.line l).state.counted then (s.line l).profile.cost else 0)
      = s.committed + (if (s.line l).state.counted then p.cost else 0) := by
  have moved := State.committed_setLine l (fun r => { r with profile := p }) s
  rw [State.part, State.part, State.line_setLine_self] at moved
  exact moved

section
variable (equipped : (s.line l).state ≠ .unequipped) (ok : profileOk p.weight p.keep p.cost p.limit = true)
include equipped ok

theorem State.lineProfile_rise (counted : (s.line l).state.counted = true) (rise : (s.line l).profile.cost < p.cost) :
    s.lineProfile l p = (Reply.ok [], (s.setLine l fun r => { r with profile := p }).sheddingPass.attempt) := by
  have moved := State.committed_profile l p s
  rw [if_pos counted, if_pos counted] at moved
  rw [State.lineProfile_set equipped ok, State.settleChange_rise (by omega)]

theorem State.lineProfile_fall (counted : (s.line l).state.counted = true) (fall : p.cost < (s.line l).profile.cost) :
    s.lineProfile l p = (Reply.ok [], (s.setLine l fun r => { r with profile := p }).restoringPass.attempt) := by
  have moved := State.committed_profile l p s
  rw [if_pos counted, if_pos counted] at moved
  rw [State.lineProfile_set equipped ok, State.settleChange_fall (by omega)]

theorem State.lineProfile_still (same : (s.line l).state.counted = false ∨ p.cost = (s.line l).profile.cost) :
    s.lineProfile l p = (Reply.ok [], s.setLine l fun r => { r with profile := p }) := by
  have moved := State.committed_profile l p s
  have still : (s.setLine l fun r => { r with profile := p }).committed = s.committed := by
    rcases same with out | same
    · rw [out, if_neg Bool.false_ne_true, if_neg Bool.false_ne_true] at moved
      omega
    · rw [same] at moved
      omega
  rw [State.lineProfile_set equipped ok, State.settleChange_same still]

end

end

theorem LineState.counted_iff (st : LineState) : st.counted = true ↔ (∃ d, st = .training d) ∨ st = .inService := by
  cases st <;> simp [LineState.counted]

theorem profileOk_iff (weight keep cost limit : Nat) : profileOk weight keep cost limit = true ↔
    1 ≤ weight ∧ weight ≤ 12 ∧ keep ≤ 3 ∧ 1 ≤ cost ∧ cost ≤ 15 ∧ 1 ≤ limit ∧ limit ≤ 48 := by
  simp [profileOk, and_assoc]

theorem profileOf_eq (weight keep cost limit park : Byte) : profileOf weight keep cost limit park =
    { weight := weight.toNat, keep := keep.toNat, cost := cost.toNat, limit := limit.toNat,
      park := if park = 0 then .open else .signature } := by
  have zero : park.toNat = 0 ↔ park = 0 := by rw [← BitVec.toNat_inj]; rfl
  simp only [profileOf, parkOfCode, zero]

theorem exec_lineProfile {h : Header} {l : LineNo} {weight keep cost limit park : Byte} {s : State} {out : Reply × State}
    (t : Nat) (ready : Ready h.port s) (direct : Direct h) (main : h.port = .main) (parkOk : park.toNat ≤ 1)
    (own : (s.taken t h.port).lineProfile l (profileOf weight keep cost limit park) = out) :
    exec (.lineProfile t h (lineByte l) weight keep cost limit park) s =
      .next (out.2.answers h 0x12 out.1.status out.1.payload) :=
  exec_eq_answers (c := .lineProfile t h (lineByte l) weight keep cost limit park)
    (r := .lineProfile (lineByte l) weight keep cost limit park) rfl ready direct (permitted_main main _ _)
    (by simp only [fieldsOk, lineOk_lineByte, flagOk, parkOk, decide_true, Bool.and_self]) rfl
    ((onLine_lineByte l _ _).trans own)

/-- Settles O23: by the line's state, the ranges, and the change of cost. -/
theorem lineProfile : Obligations.LineProfile := by
  intro t h l w k c g park s ready direct main parkOk u ok v old counted done
  have line : u.line l = s.line l := State.taken_line t h.port l s
  have answered {out : Reply × State} (own : u.lineProfile l (profileOf w k c g park) = out) :=
    exec_lineProfile t ready direct main parkOk own
  rw [profileOf_eq] at answered
  refine ⟨fun unequipped => ?_, fun equipped bad => ?_, fun equipped fits => ?_⟩
  · exact answered (State.lineProfile_unequipped (by rw [line, unequipped]))
  · have range : profileOk w.toNat k.toNat c.toNat g.toNat = false := by
      rw [← Bool.not_eq_true, profileOk_iff]
      exact bad
    exact answered (State.lineProfile_range (by rw [line]; exact equipped) range)
  · have equipped' : (u.line l).state ≠ .unequipped := by rw [line]; exact equipped
    have ranged := (profileOk_iff _ _ _ _).mpr fits
    have counts : (u.line l).state.counted = true ↔ counted := by
      rw [line]
      exact LineState.counted_iff _
    refine ⟨fun counted rise => ?_, fun counted fall => ?_, fun same => ?_⟩
    · exact answered (State.lineProfile_rise equipped' ranged (counts.mpr counted) (by rw [line]; exact rise))
    · exact answered (State.lineProfile_fall equipped' ranged (counts.mpr counted) (by rw [line]; exact fall))
    · refine answered (State.lineProfile_still equipped' ranged (same.imp (fun out => ?_) fun same => ?_))
      · exact Bool.not_eq_true _ ▸ mt counts.mp out
      · rw [line]
        exact same

/-! ### SYNC_UP, SYNC_LOST and TRAINING_DEADLINE_EXPIRY (R7 to R9) -/

theorem exec_syncUp (t : Nat) (l : LineNo) (s : State) : exec (.syncUp t l) s = .next (s.event t (State.syncUp l)) := rfl

theorem exec_syncLost (t : Nat) (l : LineNo) (s : State) :
    exec (.syncLost t l) s = .next (s.event t (State.syncLost l)) := rfl

theorem exec_trainingDeadlineExpiry (t : Nat) (l : LineNo) (s : State) :
    exec (.trainingDeadlineExpiry t l) s = .next (s.event t (State.deadlineExpires l)) := rfl

theorem State.line_advance (t : Nat) (l : LineNo) (s : State) : (s.advance t).line l = s.line l := rfl

section
variable {s : State} {l : LineNo} {d : Nat}

/-- A deadline that has been reached: the cost of the line falls away, and the restoring pass follows. -/
theorem State.deadlineExpires_due (training : (s.line l).state = .training d) (due : d ≤ s.now)
    (cost : 1 ≤ (s.line l).profile.cost) : s.deadlineExpires l =
      (((s.setFail l (min 7 ((s.line l).failCount + 1))).moveLine l
        (afterExpiry (min 7 ((s.line l).failCount + 1)) s.params.failLimit) .timeout).restoringPass.attempt) := by
  simp only [State.deadlineExpires, training, if_pos due]
  refine State.settleChange_fall ?_
  generalize counted : min 7 ((s.line l).failCount + 1) = n
  have moved := State.committed_moveLine l (afterExpiry n s.params.failLimit) .timeout (s.setFail l n)
  have line : (s.setFail l n).line l = { s.line l with failCount := n } := by rw [State.line_setFail, if_pos rfl]
  have left : (afterExpiry n s.params.failLimit).counted = false := by
    unfold afterExpiry
    split <;> rfl
  have same : (s.setFail l n).committed = s.committed := by
    have := State.committed_setLine l (fun r => { r with failCount := n }) s
    rw [State.part, State.part, State.line_setLine_self] at this
    exact Nat.add_right_cancel this
  have part : (if (LineState.training d).counted = true then (s.line l).profile.cost else 0) = (s.line l).profile.cost := rfl
  rw [line, left, same] at moved
  dsimp only at moved
  rw [training, part] at moved
  simp only [Bool.false_eq_true, if_false] at moved
  omega

theorem State.deadlineExpires_early (early : ∀ d, (s.line l).state = .training d → s.now < d) : s.deadlineExpires l = s := by
  unfold State.deadlineExpires
  split
  case h_1 d training => rw [if_neg (Nat.not_le.mpr (early d training))]
  case h_2 => rfl

end

/-- Settles O24: by the state of the line, and the deadline by the time. -/
theorem syncAndDeadline : Obligations.SyncAndDeadline := by
  intro t l s running a
  have line : a.line l = s.line l := rfl
  refine ⟨?_, ?_, fun d training due cost => ?_, fun early => ?_⟩
  · rw [exec_syncUp, State.event_running running, State.syncUp, State.line_advance]
    cases (s.line l).state <;> rfl
  · rw [exec_syncLost, State.event_running running, State.syncLost, State.line_advance]
    cases (s.line l).state <;> rfl
  · rw [exec_trainingDeadlineExpiry, State.event_running running,
      State.deadlineExpires_due (s := s.advance t) training due cost]
    rfl
  · rw [exec_trainingDeadlineExpiry, State.event_running running, State.deadlineExpires_early (s := s.advance t) early]

end Sys2Proof.Machine
end

section
/-! A line's move with its egress queue (R4, R5, R35), and the drive of the line ports (R3, R13). -/

namespace Sys2Proof.Machine

/-- A line's counters after n drops downstream with NOT_IN_SERVICE (R35, R39). -/
def LineRec.undelivered (n : Nat) (r : LineRec) : LineRec :=
  { r with counters := { r.counters with
      dropsDown := r.counters.dropsDown + BitVec.ofNat 32 n
      notInService := r.counters.notInService + BitVec.ofNat 32 n } }

theorem LineRec.undelivered_zero (r : LineRec) : r.undelivered 0 = r := by
  simp [LineRec.undelivered]

theorem LineRec.undelivered_succ (n : Nat) (r : LineRec) :
    { r with counters := Counters.addReason .notInService { r.counters with dropsDown := r.counters.dropsDown + 1 } }.undelivered n
      = r.undelivered (n + 1) := by
  have more (c : Count32) : c + 1 + BitVec.ofNat 32 n = c + BitVec.ofNat 32 (n + 1) := by
    rw [BitVec.add_assoc, Nat.add_comm n 1, BitVec.ofNat_add]
    rfl
  simp only [LineRec.undelivered, Counters.addReason, more]

theorem State.setLine_id (l : LineNo) {f : LineRec → LineRec} (keeps : ∀ r, f r = r) (s : State) : s.setLine l f = s := by
  simp [State.setLine, keeps]

theorem State.setLine_setLine (l : LineNo) (f g : LineRec → LineRec) (s : State) :
    (s.setLine l f).setLine l g = s.setLine l fun r => g (f r) := by
  simp [State.setLine]

/-- Frames taken off an egress queue one after another: each counts a drop down and gives up its position. -/
theorem State.foldl_undelivered (l : LineNo) (ids : List Nat) (s : State) :
    ids.foldl (fun s id => (s.giveUp id).dropDown l .notInService) s =
      { s.setLine l (LineRec.undelivered ids.length) with pool := ids.foldl (fun p id => p.giveUp id) s.pool } := by
  induction ids generalizing s with
  | nil =>
    have still : s.setLine l (LineRec.undelivered ([] : List Nat).length) = s :=
      State.setLine_id l LineRec.undelivered_zero s
    rw [still]
    rfl
  | cons id ids ih =>
    rw [List.foldl_cons, ih]
    have fused : ((s.giveUp id).dropDown l .notInService).setLine l (LineRec.undelivered ids.length) =
        (s.giveUp id).setLine l (LineRec.undelivered (id :: ids).length) := by
      rw [State.dropDown, State.setLine_setLine]
      exact congrArg (fun f => (s.giveUp id).setLine l f) (funext fun r => LineRec.undelivered_succ ids.length r)
    rw [fused]
    rfl

theorem State.emptyEgress_eq (l : LineNo) (s : State) : s.emptyEgress l =
    { s.setLine l (LineRec.undelivered s.egress[l].length) with
      pool := s.egress[l].foldl (fun p id => p.giveUp id) s.pool
      egress := s.egress.set l [] } := by
  rw [State.emptyEgress, State.foldl_undelivered]
  rfl

theorem State.notify_setLineState (l : LineNo) (st : LineState) (n : Notice) (s : State) :
    (s.setLineState l st).notify n = { s.notify n with lines := (s.setLineState l st).lines } := by
  unfold State.notify
  have same : (s.setLineState l st).notices = s.notices := rfl
  rw [same]
  split <;> rfl

theorem State.moveLine_stays {l : LineNo} {st : LineState} {s : State}
    (stays : ¬((s.line l).state = .inService ∧ st ≠ .inService)) (cause : LineCause) :
    s.moveLine l st cause = (s.setLineState l st).notify (.line l st.kind cause) := if_neg stays

/-- A line that leaves IN_SERVICE. -/
theorem State.moveLine_leaves {l : LineNo} {st : LineState} {s : State}
    (leaves : (s.line l).state = .inService ∧ st ≠ .inService) (cause : LineCause) :
    s.moveLine l st cause =
      { s.notify (.line l st.kind cause) with
        lines := s.lines.set l (({ s.line l with state := st } : LineRec).undelivered s.egress[l].length)
        pool := s.egress[l].foldl (fun p id => p.giveUp id) s.pool
        egress := s.egress.set l [] } := by
  have moved : s.moveLine l st cause = ((s.setLineState l st).notify (.line l st.kind cause)).emptyEgress l := if_pos leaves
  have pool : (s.notify (.line l st.kind cause)).pool = s.pool := by simp
  have egress : (s.notify (.line l st.kind cause)).egress = s.egress := by simp
  rw [moved, State.emptyEgress_eq, State.notify_setLineState]
  simp only [State.setLine, State.setLineState, egress, pool]
  simp [State.line]

theorem State.ports_of_running {s : State} (running : s.running = true) (l : LineNo) :
    (s.transceiverPower l, s.serviceRelay l, s.testRelay l, s.signatureSwitch l) =
      match (s.line l).state with
      | .unequipped => (false, false, false, false)
      | .idle => (false, true, false, (s.line l).profile.park == .signature)
      | .training _ => (true, true, false, false)
      | .inService => (true, true, false, false)
      | .withdrawn _ .offBus => (false, false, false, false)
      | .withdrawn _ .onBus => (false, false, true, false)
      | .shed => (false, true, false, (s.line l).profile.park == .signature)
      | .quarantined _ => (false, true, false, (s.line l).profile.park == .signature) := by
  simp only [State.transceiverPower, State.serviceRelay, State.testRelay, State.signatureSwitch, running, Bool.true_and]
  cases (s.line l).state with
  | withdrawn target conn => cases conn <;> simp [LineState.counted]
  | _ => simp [LineState.counted]

/-- Settles O25: whether the line leaves IN_SERVICE, and the drive by the state. -/
theorem lineMoves : Obligations.LineMoves := by
  refine ⟨fun l st cause s => ?_, fun l s running => State.ports_of_running running l⟩
  intro u n leaves
  refine ⟨fun stays => State.moveLine_stays stays cause, fun gone => ?_⟩
  have moved := State.moveLine_leaves gone cause
  have lines : u.lines = s.lines.set l (({ s.line l with state := st } : LineRec).undelivered s.egress[l].length) := by
    simp only [u, moved]
  have egress : u.egress = s.egress.set l [] := by simp only [u, moved]
  have pool : u.pool = s.egress[l].foldl (fun p id => p.giveUp id) s.pool := by simp only [u, moved]
  refine ⟨?_, fun k other => ?_, egress, pool, ?_⟩
  · simp only [State.line, lines, Fin.getElem_fin, Vector.getElem_set_self]
    rfl
  · have apart : (l : Nat) ≠ k := fun e => other (Fin.ext e.symm)
    simp only [State.line, lines, Fin.getElem_fin, Vector.getElem_set_ne _ _ apart]
  · rw [lines, egress, pool]
    exact moved

end Sys2Proof.Machine
end

section
/-! FLOW PUT and FLOW PLACE (R48 to R51): what the flow table answers to content, case by case. -/

namespace Sys2Proof.Machine

/-- The overlap test in the words of R48. -/
theorem overlapsAny_iff (flows : Vector (Option FlowEntry) 64) (look : FlowIdx → Bool) (e : FlowEntry) :
    overlapsAny flows look e = true ↔
      ∃ (j : FlowIdx) (f : FlowEntry), look j = true ∧ flows[j] = some f ∧ EntriesMeet e f := by
  simp only [overlapsAny, List.any_eq_true, allFlows, List.mem_finRange, true_and, Bool.and_eq_true]
  refine exists_congr fun j => ?_
  cases flows[j] with
  | none => simp
  | some f => simp [entriesMeet_iff]

theorem exists_ownerNamed {c : FlowContent} (codes : ContentCodes c) : ∃ o, OwnerNamed c o := by
  obtain ⟨-, -, -, line | shared⟩ := codes
  · refine ⟨.line ⟨c.owner.toNat, by omega⟩, .inl ⟨_, ?_, rfl⟩⟩
    exact (byte_toNat c.owner).symm
  · exact ⟨.shared, .inr ⟨shared, rfl⟩⟩

section
variable {s : State} {c : FlowContent} {e : FlowEntry} {k : FlowIdx}

theorem State.entryOf_refused (codes : ContentCodes c) (bad : ¬ContentFits s.equipped c) : s.entryOf c = none := by
  obtain ⟨o, named⟩ := exists_ownerNamed codes
  exact (FlowContent.entry_of_named s.equipped c o named).2 bad

theorem State.entryOf_fits {o : Owner} (named : OwnerNamed c o) (fits : ContentFits s.equipped c) :
    s.entryOf c = some (FlowContent.written o c) := (FlowContent.entry_of_named s.equipped c o named).1 fits

theorem State.flowPut_range (refused : s.entryOf c = none) : s.flowPut k c = (Reply.bad .range, s) := by
  simp only [State.flowPut, refused]

theorem State.flowPut_overlap (entry : s.entryOf c = some e)
    (meets : ∃ (j : FlowIdx) (f : FlowEntry), j ≠ k ∧ s.flows[j] = some f ∧ EntriesMeet e f) :
    s.flowPut k c = (Reply.bad .overlap, s) := by
  have overlap : overlapsAny s.flows (fun j => j != k) e = true := by
    rw [overlapsAny_iff]
    simpa only [bne_iff_ne] using meets
  simp only [State.flowPut, entry, overlap, if_true]

theorem State.flowPut_install (entry : s.entryOf c = some e)
    (apart : ∀ (j : FlowIdx) (f : FlowEntry), j ≠ k → s.flows[j] = some f → ¬EntriesMeet e f) :
    s.flowPut k c = (Reply.ok [byte (s.install k e).2.1, byte (s.install k e).2.2], (s.install k e).1) := by
  have clear : overlapsAny s.flows (fun j => j != k) e = false := by
    rw [← Bool.not_eq_true, overlapsAny_iff]
    rintro ⟨j, f, other, here, meets⟩
    exact apart j f (bne_iff_ne.mp other) here meets
  simp only [State.flowPut, entry, clear, Bool.false_eq_true, if_false]

theorem State.flowPlace_range (refused : s.entryOf c = none) : s.flowPlace c = (Reply.bad .range, s) := by
  simp only [State.flowPlace, refused]

theorem State.flowPlace_overlap (entry : s.entryOf c = some e)
    (meets : ∃ (j : FlowIdx) (f : FlowEntry), s.flows[j] = some f ∧ EntriesMeet e f) :
    s.flowPlace c = (Reply.bad .overlap, s) := by
  have overlap : overlapsAny s.flows (fun _ => true) e = true := by
    rw [overlapsAny_iff]
    simpa only [true_and] using meets
  simp only [State.flowPlace, entry, overlap, if_true]

theorem overlapsAny_eq_false (apart : ∀ (j : FlowIdx) (f : FlowEntry), s.flows[j] = some f → ¬EntriesMeet e f) :
    overlapsAny s.flows (fun _ => true) e = false := by
  rw [← Bool.not_eq_true, overlapsAny_iff]
  rintro ⟨j, f, -, here, meets⟩
  exact apart j f here meets

theorem State.flowPlace_full (entry : s.entryOf c = some e)
    (apart : ∀ (j : FlowIdx) (f : FlowEntry), s.flows[j] = some f → ¬EntriesMeet e f)
    (full : ∀ j : FlowIdx, s.flows[j] ≠ none) : s.flowPlace c = (Reply.bad .full, s) := by
  have nowhere : s.freeFlow = none := by
    simpa only [State.freeFlow, List.find?_eq_none, Option.isNone_iff_eq_none] using fun j _ => full j
  simp only [State.flowPlace, entry, overlapsAny_eq_false apart, Bool.false_eq_true, if_false, nowhere]

/-- The search from index 0 finds the lowest invalid one. -/
theorem State.freeFlow_eq (free : s.flows[k] = none) (lowest : ∀ j : FlowIdx, j < k → s.flows[j] ≠ none) :
    s.freeFlow = some k := by
  rw [State.freeFlow, allFlows, List.find?_eq_some_iff_getElem]
  refine ⟨Option.isNone_iff_eq_none.mpr free, k.val, by simp, by simp, fun j below => ?_⟩
  have valid := lowest ⟨j, by omega⟩ below
  simpa [← Option.ne_none_iff_isSome] using valid

theorem State.flowPlace_install (entry : s.entryOf c = some e)
    (apart : ∀ (j : FlowIdx) (f : FlowEntry), s.flows[j] = some f → ¬EntriesMeet e f) (free : s.flows[k] = none)
    (lowest : ∀ j : FlowIdx, j < k → s.flows[j] ≠ none) : s.flowPlace c =
      (Reply.ok [byte k.val, byte (s.install k e).2.1, byte (s.install k e).2.2], (s.install k e).1) := by
  simp only [State.flowPlace, entry, overlapsAny_eq_false apart, Bool.false_eq_true, if_false,
    State.freeFlow_eq free lowest]

theorem exec_flowPut {h : Header} {out : Reply × State} (t : Nat) (ready : Ready h.port s) (direct : Direct h)
    (main : h.port = .main) (codes : ContentCodes c) (own : (s.taken t h.port).flowPut k c = out) :
    exec (.flowPut t h (BitVec.ofNat 8 k.val) c) s = .next (out.2.answers h 0x20 out.1.status out.1.payload) :=
  exec_eq_answers (c := .flowPut t h (BitVec.ofNat 8 k.val) c) (r := .flowPut (BitVec.ofNat 8 k.val) c) rfl ready direct
    (permitted_main main _ _)
    (by simp only [fieldsOk, flowByte_toNat, k.isLt, (contentCodesOk_iff c).mpr codes, decide_true, Bool.and_self]) rfl
    ((onFlow_byte k _ _).trans own)

theorem exec_flowPlace {h : Header} {out : Reply × State} (t : Nat) (ready : Ready h.port s) (direct : Direct h)
    (main : h.port = .main) (codes : ContentCodes c) (own : (s.taken t h.port).flowPlace c = out) :
    exec (.flowPlace t h c) s = .next (out.2.answers h 0x21 out.1.status out.1.payload) :=
  exec_eq_answers (c := .flowPlace t h c) (r := .flowPlace c) rfl ready direct (permitted_main main _ _)
    ((contentCodesOk_iff c).mpr codes) rfl own

end

/-- Settles O26: by the content, the overlap with the table, and the free index. -/
theorem flowWrite : Obligations.FlowWrite := by
  rintro t ⟨port, group, tag⟩ c s ready direct main codes
  subst main
  have put {k : FlowIdx} {out : Reply × State} (own : (s.taken t .main).flowPut k c = out) :=
    exec_flowPut t ready direct rfl codes own
  have place {out : Reply × State} (own : (s.taken t .main).flowPlace c = out) :=
    exec_flowPlace t ready direct rfl codes own
  refine ⟨fun bad => ?_, fun fits o named => ?_⟩
  · have refused : (s.taken t .main).entryOf c = none := State.entryOf_refused codes bad
    exact ⟨fun k => put (State.flowPut_range refused), place (State.flowPlace_range refused)⟩
  · have entry : (s.taken t .main).entryOf c = some (FlowContent.written o c) := State.entryOf_fits named fits
    exact ⟨fun k => ⟨fun meets => put (State.flowPut_overlap entry meets),
        fun apart => put (State.flowPut_install entry apart)⟩,
      fun meets => place (State.flowPlace_overlap entry meets),
      fun apart => ⟨fun full => place (State.flowPlace_full entry apart full),
        fun k free lowest => place (State.flowPlace_install entry apart free lowest)⟩⟩

end Sys2Proof.Machine
end

section
/-! Frames and where they go: the records of the pool (R26 to R28), an upstream arrival (R29, R58 to R60), the takes
(R34, R37), the uplink's reports (R77, R78), and the ends of held frames (R61, R62). -/

namespace Sys2Proof.Machine

/-! ### The record of a handle (R26, R28) -/

theorem lookup_cons_if (j : Nat) (e : Nat × Frame) (fs : List (Nat × Frame)) :
    (e :: fs).lookup j = if j = e.1 then some e.2 else fs.lookup j := by
  rw [List.lookup_cons]
  by_cases here : j = e.1
  · rw [if_pos here, beq_iff_eq.mpr here]
  · rw [if_neg here, beq_eq_false_iff_ne.mpr here]

theorem lookup_filter_ne (j id : Nat) (fs : List (Nat × Frame)) :
    (fs.filter fun e => e.1 != id).lookup j = if j = id then none else fs.lookup j := by
  induction fs with
  | nil => simp
  | cons e fs ih =>
    rw [lookup_cons_if]
    by_cases gone : e.1 = id
    · rw [List.filter_cons_of_neg (by simpa using gone), ih, gone]
      split <;> rfl
    · rw [List.filter_cons_of_pos (by simpa using gone), lookup_cons_if, ih]
      by_cases here : j = e.1
      · rw [if_pos here, if_neg (here ▸ gone), if_pos here]
      · rw [if_neg here, if_neg here]

theorem lookup_map_at (j id : Nat) (g : Frame → Frame) (fs : List (Nat × Frame)) :
    (fs.map fun e => if e.1 = id then (e.1, g e.2) else e).lookup j =
      if j = id then (fs.lookup j).map g else fs.lookup j := by
  induction fs with
  | nil => simp
  | cons e fs ih =>
    have key : (if e.1 = id then (e.1, g e.2) else e).1 = e.1 := by split <;> rfl
    rw [List.map_cons, lookup_cons_if, lookup_cons_if, key, ih]
    by_cases here : j = e.1
    · rw [if_pos here, if_pos here, ← here]
      split <;> rfl
    · rw [if_neg here, if_neg here]

theorem Pool.giveUp_of_last {p : Pool} {id : Nat} {f : Frame} (found : p.find id = some f) (last : f.refs ≤ 1) :
    p.giveUp id = { p with free := p.free + f.cells, frames := p.frames.filter fun e => e.1 != id } := by
  simp only [Pool.giveUp, found, if_pos last]

theorem Pool.giveUp_of_more {p : Pool} {id : Nat} {f : Frame} (found : p.find id = some f) (more : 1 < f.refs) :
    p.giveUp id =
      { p with frames := p.frames.map fun e => if e.1 = id then (e.1, { e.2 with refs := e.2.refs - 1 }) else e } := by
  simp only [Pool.giveUp, found, if_neg (Nat.not_le.mpr more)]

theorem Pool.find_giveUp_other (p : Pool) {id j : Nat} (other : j ≠ id) : (p.giveUp id).find j = p.find j := by
  unfold Pool.giveUp
  split
  · rfl
  · split
    · exact (lookup_filter_ne j id p.frames).trans (if_neg other)
    · exact (lookup_map_at j id (fun f => { f with refs := f.refs - 1 }) p.frames).trans (if_neg other)

theorem Pool.find_retag_other (p : Pool) {id j : Nat} (tag : Nat) (other : j ≠ id) : (p.retag id tag).find j = p.find j :=
  (lookup_map_at j id (fun f => { f with tag := tag }) p.frames).trans (if_neg other)

/-! ### What an upstream arrival finds (R45, R58) -/

section
variable {s : State} {l : LineNo} {tag : Nat} {k : FlowIdx} {e : FlowEntry}

theorem State.findUp_of_match (ok : FlowsOk s) (entry : s.flows[k] = some e) (hit : e.matchesUp l tag = true) :
    s.findUp l tag = some (k, e) := (s.findUp_eq_firstEntry l tag).trans
  (State.firstEntry_of_unique entry hit fun j f here hits => ok.up l tag j k f e here entry hits hit)

theorem State.findUp_of_no_match
    (none_ : ∀ (k : FlowIdx) (e : FlowEntry), s.flows[k] = some e → ¬e.matchesUp l tag = true) : s.findUp l tag = none :=
  (s.findUp_eq_firstEntry l tag).trans ((s.firstEntry_eq_none_iff _).mpr none_)

theorem State.findDown_of_match (ok : FlowsOk s) (entry : s.flows[k] = some e) (hit : e.matchesDown tag = true) :
    s.findDown tag = some (k, e) := (s.findDown_eq_firstEntry tag).trans
  (State.firstEntry_of_unique entry hit fun j f here hits => ok.down tag j k f e here entry hits hit)

theorem State.findDown_of_no_match
    (none_ : ∀ (k : FlowIdx) (e : FlowEntry), s.flows[k] = some e → ¬e.matchesDown tag = true) : s.findDown tag = none :=
  (s.findDown_eq_firstEntry tag).trans ((s.firstEntry_eq_none_iff _).mpr none_)

theorem State.countMatchUp_of_entry (entry : s.flows[k] = some e) :
    s.countMatchUp k = { s with flows := s.flows.set k (some { e with matchUp := e.matchUp + 1 }) } := by
  rw [State.countMatchUp, entry]
  rfl

theorem State.countMatchDown_of_entry (entry : s.flows[k] = some e) :
    s.countMatchDown k = { s with flows := s.flows.set k (some { e with matchDown := e.matchDown + 1 }) } := by
  rw [State.countMatchDown, entry]
  rfl

theorem State.heldKey_iff (h : Held) : s.heldKey h = some (l, tag) ↔
    ∃ f, s.pool.find h.frame = some f ∧ f.origin = .line l ∧ f.tag = tag := by
  unfold State.heldKey
  cases s.pool.find h.frame with
  | none => simp
  | some f => cases origin : f.origin <;> simp [origin]

theorem State.findHeld_isSome_iff : (s.findHeld l tag).isSome = true ↔
    ∃ h ∈ s.hold, ∃ f, s.pool.find h.frame = some f ∧ f.origin = .line l ∧ f.tag = tag := by
  simp only [State.findHeld, List.find?_isSome, beq_iff_eq, State.heldKey_iff]

/-! ### An upstream arrival, case by case (R29, R59, R60) -/

variable {len : Nat}

theorem State.arriveUp_outOfService (out : (s.line l).state ≠ .inService) :
    s.arriveUp l tag len = s.dropUp l .notInService := if_pos out

theorem State.arriveUp_noCells (inService : (s.line l).state = .inService) (few : s.pool.free < cellsFor len) :
    s.arriveUp l tag len = s.dropUp l .pool := by
  rw [State.arriveUp, if_neg (not_not.mpr inService), if_pos few]

section
variable (inService : (s.line l).state = .inService) (cells : cellsFor len ≤ s.pool.free)
include inService cells

theorem State.arriveUp_matched (found : s.findUp l tag = some (k, e)) : s.arriveUp l tag len =
    if s.sched.ingress[l].length < (s.line l).profile.limit then
      ({ s.countMatchUp k with pool := s.pool.create (.line l) (e.toUplink tag) len 1 }).joinIngress l s.pool.nextId
    else (s.countMatchUp k).dropUp l .ingressFull := by
  rw [State.arriveUp, if_neg (not_not.mpr inService), if_neg (Nat.not_lt.mpr cells), found]
  rfl

theorem State.arriveUp_missed (missed : s.findUp l tag = none) : s.arriveUp l tag len = s.missDecide l tag len := by
  rw [State.arriveUp, if_neg (not_not.mpr inService), if_neg (Nat.not_lt.mpr cells), missed]

end

theorem State.missDecide_duplicate (same : (s.findHeld l tag).isSome = true) :
    s.missDecide l tag len = s.dropUp l .missDup := if_pos same

theorem State.missDecide_held (new : ¬(s.findHeld l tag).isSome = true) (room : s.hold.length < 8) :
    s.missDecide l tag len = ({ s with
      hold := s.hold ++ [Held.mk s.pool.nextId (s.now + ms s.params.holdTime)]
      pool := s.pool.create (.line l) tag len 1 }).notify (.miss l tag) := by
  rw [State.missDecide, if_neg new]
  exact if_pos room

theorem State.missDecide_full (new : ¬(s.findHeld l tag).isSome = true) (full : 8 ≤ s.hold.length) :
    s.missDecide l tag len = s.dropUp l .holdFull := by
  rw [State.missDecide, if_neg new]
  exact if_neg (Nat.not_lt.mpr full)

end

/-- Settles O30: by the line, the cells, the match and the miss hold list. -/
theorem upstreamArrival : Obligations.UpstreamArrival := by
  intro t l tag len s running low high ok a cells took inPool outOfService ingressFull missDup holdFull born hits done
  have run {v : State} (arrival : a.arriveUp l tag.val len = v) : done v := by
    have presented : frameLengthOk len = true := (frameLengthOk_iff len).mpr ⟨low, high⟩
    have taken : exec (.upstreamArrival t l tag len) s = .next (a.arriveUp l tag.val len) := by
      rw [exec_upstreamArrival, if_pos presented, State.event_running running]
    rw [arrival] at taken
    exact taken
  have hit_iff (e : FlowEntry) : e.matchesUp l tag.val = true ↔ hits e := FlowEntry.matchesUp_iff e l tag.val
  have okA : FlowsOk a := FlowsOk.congr (s := s) rfl ok
  refine ⟨fun out => run (State.arriveUp_outOfService (s := a) out),
    fun inService few => run (State.arriveUp_noCells (s := a) inService few),
    fun inService enough => ⟨fun k e entry hit => ?_, fun missed => ?_⟩⟩
  · have found := State.findUp_of_match (s := a) okA entry ((hit_iff e).mpr hit)
    have placed := State.arriveUp_matched (s := a) (len := len) inService enough found
    rw [State.countMatchUp_of_entry (s := a) entry] at placed
    refine ⟨fun room => ?_, fun full => ?_⟩
    · exact run (placed.trans (if_pos room))
    · exact run (placed.trans (if_neg (Nat.not_lt.mpr full)))
  · have none_ := State.findUp_of_no_match (s := a) (l := l) (tag := tag.val) fun k e entry hit =>
      missed k e entry ((hit_iff e).mp hit)
    have miss := State.arriveUp_missed (s := a) (len := len) inService enough none_
    intro same
    have same_iff : (a.findHeld l tag.val).isSome = true ↔ same := State.findHeld_isSome_iff
    refine ⟨fun dup => ?_, fun new room => ?_, fun new full => ?_⟩
    · exact run (miss.trans (State.missDecide_duplicate (same_iff.mpr dup)))
    · exact run (miss.trans (State.missDecide_held (mt same_iff.mp new) room))
    · exact run (miss.trans (State.missDecide_full (mt same_iff.mp new) full))

end Sys2Proof.Machine
end

section
/-! The uplink's reports and the takes (R28, R34, R37, R77, R78), and the ends of held frames: expiry and the release
pass (R61, R62, R64). -/

namespace Sys2Proof.Machine

/-! ### Reports of the uplink and takes (R34, R37, R77) -/

theorem exec_uplinkStatusReport (t : Nat) (r : Option RateClass) (s : State) :
    exec (.uplinkStatusReport t r) s = .next (s.event t (State.uplinkReport r)) := rfl

theorem exec_transceiverTake (t : Nat) (l : LineNo) (s : State) :
    exec (.transceiverTake t l) s = .next (s.event t (State.takeDown l)) := rfl

theorem exec_uplinkTake (t : Nat) (s : State) : exec (.uplinkTake t) s = .next (s.event t State.takeUp) := rfl

theorem exec_holdExpiry (t : Nat) (l : LineNo) (tag : Fin 4096) (s : State) :
    exec (.holdExpiry t l tag) s = .next (s.event t (State.expireHeld l tag.val)) := rfl

section
variable {s : State} {l : LineNo} {id : Nat} {rest : List Nat}

theorem State.takeDown_head (inService : (s.line l).state = .inService) (queue : s.egress[l] = id :: rest) :
    s.takeDown l = (({ s with egress := s.egress.set l rest }).countDown l (s.frameLength id)).giveUp id := by
  simp only [State.takeDown, inService, if_true, queue]

theorem State.takeDown_nothing (nothing : (s.line l).state ≠ .inService ∨ s.egress[l] = []) : s.takeDown l = s := by
  unfold State.takeDown
  split
  case isFalse => rfl
  case isTrue inService =>
    have empty := nothing.resolve_left (not_not.mpr inService)
    rw [empty]

theorem State.takeUp_head {f : Frame} (up : s.uplink.status ≠ none) (launch : s.sched.launch = id :: rest)
    (found : s.pool.find id = some f) (origin : f.origin = .line l) : s.takeUp =
      (({ s with sched := { s.sched with launch := rest } }).countUp l f.length).giveUp id := by
  simp only [State.takeUp, Option.isSome_iff_ne_none.mpr up, if_true, launch, State.countFrameUp, found, origin]

theorem State.takeUp_nothing (nothing : s.uplink.status = none ∨ s.sched.launch = []) : s.takeUp = s := by
  unfold State.takeUp
  split
  case isFalse => rfl
  case isTrue up =>
    have empty := nothing.resolve_left (Option.isSome_iff_ne_none.mp up)
    rw [empty]

end

/-- Settles O32: by the status recorded, the heads of the queues, and the positions that are left. -/
theorem uplinkAndTakes : Obligations.UplinkAndTakes := by
  refine ⟨fun t r s running => ⟨fun same => ?_, fun other => ?_⟩,
    fun t l s running => ⟨fun id rest inService queue => ?_, fun nothing => ?_⟩,
    fun t s running => ⟨fun id rest f l up launch found origin => ?_, fun nothing => ?_⟩, fun p id f distinct found => ?_⟩
  · rw [exec_uplinkStatusReport, State.event_running running]
    exact congrArg _ (if_pos same)
  · rw [exec_uplinkStatusReport, State.event_running running]
    exact congrArg _ (if_neg other)
  · rw [exec_transceiverTake, State.event_running running, State.takeDown_head (s := s.advance t) inService queue]
    rfl
  · rw [exec_transceiverTake, State.event_running running, State.takeDown_nothing (s := s.advance t) nothing]
  · rw [exec_uplinkTake, State.event_running running, State.takeUp_head (s := s.advance t) up launch found origin]
    rfl
  · rw [exec_uplinkTake, State.event_running running, State.takeUp_nothing (s := s.advance t) nothing]
  · intro q
    refine ⟨fun last => ?_, fun more => ?_, fun j other => p.find_giveUp_other other⟩
    · have left : q = { p with free := p.free + f.cells, frames := p.frames.filter fun e => e.1 != id } :=
        Pool.giveUp_of_last found (Nat.le_of_eq last)
      rw [left]
      exact ⟨rfl, (lookup_filter_ne id id p.frames).trans (if_pos rfl)⟩
    · have left := Pool.giveUp_of_more found more
      have free := congrArg Pool.free left
      refine ⟨free, ?_⟩
      have lowered := lookup_map_at id id (fun f => { f with refs := f.refs - 1 }) p.frames
      have here : p.frames.lookup id = some f := found
      rw [if_pos rfl, here] at lowered
      exact (congrArg (fun (p : Pool) => p.find id) left).trans lowered

/-! ### Expiry (R61) -/

section
variable {s : State} {l : LineNo} {tag : Nat}

theorem State.expireHeld_due {h : Held} (found : s.findHeld l tag = some h) (due : h.expiry ≤ s.now) :
    s.expireHeld l tag = ((s.unhold h).giveUp h.frame).dropUp l .holdExpired := by
  simp only [State.expireHeld, found, if_pos due]

theorem State.expireHeld_early (early : ∀ h, s.findHeld l tag = some h → s.now < h.expiry) : s.expireHeld l tag = s := by
  unfold State.expireHeld
  split
  case h_1 => rfl
  case h_2 h found => exact if_neg (Nat.not_le.mpr (early h found))

end

/-! ### The release pass (R62, R64) -/

/-- A held frame that the entry matches, where it stands. -/
def State.releases (s : State) (e : FlowEntry) (h : Held) : Bool :=
  match s.heldKey h with
  | some (l, tag) => e.matchesUp l tag
  | none => false

theorem State.releaseOne_passed {k : FlowIdx} {e : FlowEntry} {h : Held} {acc : State × Nat × Nat}
    (passed : acc.1.releases e h = false) : State.releaseOne k e h acc = acc := by
  obtain ⟨s, placed, dropped⟩ := acc
  unfold State.releases at passed
  unfold State.releaseOne
  dsimp only at passed ⊢
  cases key : s.heldKey h with
  | none => rfl
  | some m =>
    rw [key] at passed
    simp only [passed, Bool.false_eq_true, if_false]

theorem State.releaseOne_taken {k : FlowIdx} {e : FlowEntry} {h : Held} {l : LineNo} {tag : Nat}
    {acc : State × Nat × Nat} (key : acc.1.heldKey h = some (l, tag)) (hit : e.matchesUp l tag = true) :
    State.releaseOne k e h acc =
      (let s := (acc.1.countMatchUp k).unhold h
       if s.sched.ingress[l].length < (s.line l).profile.limit then
         (({ s with pool := s.pool.retag h.frame (e.toUplink tag) }).joinIngress l h.frame, acc.2.1 + 1, acc.2.2)
       else ((s.giveUp h.frame).dropUp l .holdReleaseFull, acc.2.1, acc.2.2 + 1)) := by
  obtain ⟨s, placed, dropped⟩ := acc
  simp only [State.releaseOne, key, hit, if_true]

theorem State.heldKey_congr {s u : State} {h : Held} (same : u.pool.find h.frame = s.pool.find h.frame) :
    u.heldKey h = s.heldKey h := by
  simp only [State.heldKey, same]

/-- What taking one held frame does to the list, the flow table, the counts, and the other frames' records. -/
theorem State.releaseOne_effect {k : FlowIdx} {e : FlowEntry} {h : Held} {acc : State × Nat × Nat}
    (taken : acc.1.releases e h = true) :
    (State.releaseOne k e h acc).1.hold = acc.1.hold.filter (fun g => g.frame != h.frame) ∧
    (State.releaseOne k e h acc).1.flows = (acc.1.countMatchUp k).flows ∧
    (State.releaseOne k e h acc).2.1 + (State.releaseOne k e h acc).2.2 = acc.2.1 + acc.2.2 + 1 ∧
    ∀ g : Held, g.frame ≠ h.frame → (State.releaseOne k e h acc).1.heldKey g = acc.1.heldKey g := by
  unfold State.releases at taken
  split at taken
  case h_2 => exact absurd taken Bool.false_ne_true
  case h_1 l tag key =>
    rw [State.releaseOne_taken key taken]
    dsimp only
    split
    · refine ⟨by simp, by simp, by dsimp only; omega, fun g other => State.heldKey_congr ?_⟩
      simp only [State.joinIngress_pool]
      exact Pool.find_retag_other _ _ other
    · refine ⟨by simp, by simp, by dsimp only; omega, fun g other => State.heldKey_congr ?_⟩
      have pool : (((((acc.1.countMatchUp k).unhold h).giveUp h.frame).dropUp l .holdReleaseFull)).pool =
          acc.1.pool.giveUp h.frame := by simp
      rw [pool]
      exact Pool.find_giveUp_other _ other

/-- An entry matched n times more. -/
def FlowEntry.matched (n : Nat) (e : FlowEntry) : FlowEntry := { e with matchUp := e.matchUp + BitVec.ofNat 32 n }

theorem FlowEntry.matched_zero (e : FlowEntry) : e.matched 0 = e := by simp [FlowEntry.matched]

theorem FlowEntry.matched_succ (n : Nat) (e : FlowEntry) : (e.matched 1).matched n = e.matched (n + 1) := by
  simp only [FlowEntry.matched, BitVec.add_assoc, ← BitVec.ofNat_add, Nat.add_comm]

/-- The course of the pass over frames that are each held once: those that match are taken, each once. -/
theorem State.releasePass_effect (k : FlowIdx) (e : FlowEntry) (hs : List Held) (acc : State × Nat × Nat)
    (once : (hs.map Held.frame).Nodup) {f : FlowEntry} (entry : acc.1.flows[k] = some f) :
    (hs.foldl (fun acc h => State.releaseOne k e h acc) acc).1.hold =
      acc.1.hold.filter (fun g => !((hs.filter (acc.1.releases e)).any fun h => h.frame == g.frame)) ∧
    (hs.foldl (fun acc h => State.releaseOne k e h acc) acc).1.flows =
      acc.1.flows.set k (some (f.matched (hs.filter (acc.1.releases e)).length)) ∧
    (hs.foldl (fun acc h => State.releaseOne k e h acc) acc).2.1 +
      (hs.foldl (fun acc h => State.releaseOne k e h acc) acc).2.2 =
        acc.2.1 + acc.2.2 + (hs.filter (acc.1.releases e)).length := by
  induction hs generalizing acc f with
  | nil =>
    have same : acc.1.flows.set k (some (f.matched 0)) = acc.1.flows := by
      rw [FlowEntry.matched_zero, ← entry, Fin.getElem_fin, Vector.set_getElem_self]
    exact ⟨by simp, same.symm, rfl⟩
  | cons h hs ih =>
    rw [List.map_cons, List.nodup_cons] at once
    obtain ⟨fresh, once⟩ := once
    rw [List.foldl_cons]
    cases taken : acc.1.releases e h with
    | false =>
      rw [State.releaseOne_passed taken, List.filter_cons_of_neg (by rw [taken]; exact Bool.false_ne_true)]
      exact ih acc once entry
    | true =>
      obtain ⟨hold, flows, counts, others⟩ := State.releaseOne_effect (k := k) taken
      have matched : (State.releaseOne k e h acc).1.flows = acc.1.flows.set k (some (f.matched 1)) := by
        rw [flows, State.countMatchUp_of_entry entry]
        rfl
      have entry' : (State.releaseOne k e h acc).1.flows[k] = some (f.matched 1) := by
        simp [matched]
      have same : hs.filter ((State.releaseOne k e h acc).1.releases e) = hs.filter (acc.1.releases e) := by
        refine List.filter_congr fun g mem => ?_
        have other : g.frame ≠ h.frame := fun is => fresh (is ▸ List.mem_map_of_mem mem)
        simp only [State.releases, others g other]
      obtain ⟨hold', flows', counts'⟩ := ih (State.releaseOne k e h acc) once entry'
      rw [hold', flows', counts', same, List.filter_cons_of_pos taken, hold, matched, counts]
      refine ⟨?_, ?_, ?_⟩
      · rw [List.filter_filter]
        refine List.filter_congr fun g _ => ?_
        rw [List.any_cons, Bool.not_or, Bool.and_comm, bne, BEq.comm (a := h.frame)]
      · rw [Vector.set_set, FlowEntry.matched_succ]
        rfl
      · rw [List.length_cons]
        omega

/-- With each frame held once, a place of the list is known by its frame. -/
theorem heldOnce_any {hs : List Held} (once : (hs.map Held.frame).Nodup) {g : Held} (mem : g ∈ hs) (p : Held → Bool) :
    ((hs.filter p).any fun h => h.frame == g.frame) = p g := by
  cases take : p g with
  | true =>
    rw [List.any_eq_true]
    exact ⟨g, List.mem_filter.mpr ⟨mem, take⟩, beq_self_eq_true _⟩
  | false =>
    rw [List.any_eq_false]
    intro h listed same
    obtain ⟨there, taken⟩ := List.mem_filter.mp listed
    have is : h = g := List.inj_on_of_nodup_map once there mem (beq_iff_eq.mp same)
    rw [is, take] at taken
    exact Bool.false_ne_true taken

/-- Settles O33: the expiry by its time; the pass over the held frames as they stand; and each of them in its turn. -/
theorem heldFramesEnd : Obligations.HeldFramesEnd := by
  refine ⟨fun t l tag s running => ⟨fun h found due => ?_, fun early => ?_⟩, fun k e s ok entry => ?_, fun k e s => ?_⟩
  · rw [exec_holdExpiry, State.event_running running, State.expireHeld_due (s := s.advance t) found due]
    rfl
  · rw [exec_holdExpiry, State.event_running running, State.expireHeld_early (s := s.advance t) early]
  · obtain ⟨hold, flows, counts⟩ := State.releasePass_effect k e s.hold (s, 0, 0) ok.heldOnce entry
    exact ⟨hold.trans (List.filter_congr fun g mem => congrArg _ (heldOnce_any ok.heldOnce mem (s.releases e))),
      counts.trans (Nat.zero_add _), flows⟩
  · intro visit
    have each (acc : State × Nat × Nat) (h : Held) : State.releaseOne k e h acc = visit acc h := by
      cases found : acc.1.pool.find h.frame with
      | none =>
        have passed : acc.1.releases e h = false := by simp only [State.releases, State.heldKey, found]
        rw [State.releaseOne_passed passed]
        simp only [visit, found]
      | some f =>
        cases origin : f.origin with
        | uplink =>
          have passed : acc.1.releases e h = false := by simp only [State.releases, State.heldKey, found, origin]
          rw [State.releaseOne_passed passed]
          simp only [visit, found, origin]
        | line l =>
          have key : acc.1.heldKey h = some (l, f.tag) := (State.heldKey_iff h).mpr ⟨f, found, origin, rfl⟩
          by_cases hit : e.matchesUp l f.tag = true
          · rw [State.releaseOne_taken key hit]
            simp only [visit, found, origin, if_pos ((FlowEntry.matchesUp_iff e l f.tag).mp hit)]
            rfl
          · have passed : acc.1.releases e h = false := by simpa only [State.releases, key, Bool.not_eq_true] using hit
            rw [State.releaseOne_passed passed]
            simp only [visit, found, origin, if_neg (mt (FlowEntry.matchesUp_iff e l f.tag).mpr hit)]
    exact congrArg (fun f => s.hold.foldl f (s, 0, 0)) (funext fun acc => funext fun h => each acc h)

end Sys2Proof.Machine
end

section
/-! A downstream arrival (R32, R33, R39, R46, R83, R84): the drops and the placements over its target lines. -/

namespace Sys2Proof.Machine

/-- A line record with one drop downstream counted (R39). -/
def LineRec.dropped (r : DropReason) (rec : LineRec) : LineRec :=
  { rec with counters := Counters.addReason r { rec.counters with dropsDown := rec.counters.dropsDown + 1 } }

/-- Drops over different lines, each for a reason that drops do not change: each line of the list counts one. -/
theorem State.foldl_dropDown {reason : State → LineNo → DropReason}
    (stable : ∀ (v : State) (l k : LineNo) (r : DropReason), reason (v.dropDown l r) k = reason v k) (ls : List LineNo)
    (once : ls.Nodup) (s : State) :
    (∀ k, (ls.foldl (fun s l => s.dropDown l (reason s l)) s).line k =
      if k ∈ ls then (s.line k).dropped (reason s k) else s.line k) ∧
    ls.foldl (fun s l => s.dropDown l (reason s l)) s =
      { s with lines := (ls.foldl (fun s l => s.dropDown l (reason s l)) s).lines } := by
  induction ls generalizing s with
  | nil => exact ⟨fun k => by simp, rfl⟩
  | cons l ls ih =>
    rw [List.nodup_cons] at once
    obtain ⟨fresh, once⟩ := once
    obtain ⟨lines, rest⟩ := ih once (s.dropDown l (reason s l))
    rw [List.foldl_cons]
    refine ⟨fun k => ?_, rest⟩
    have here : (s.dropDown l (reason s l)).line k = if k = l then (s.line l).dropped (reason s l) else s.line k :=
      State.line_setLine l k _ s
    rw [lines, stable, here]
    by_cases same : k = l
    · subst same
      rw [if_neg fresh, if_pos rfl, if_pos List.mem_cons_self]
    · simp only [same, if_false, List.mem_cons, false_or]

theorem State.ineligibleReason_dropDown (s : State) (l k : LineNo) (r : DropReason) :
    (s.dropDown l r).ineligibleReason k = s.ineligibleReason k := by
  simp only [State.ineligibleReason, (State.dropDown_kept l k r s).1]

/-- A frame joins the egress queues of different lines. -/
theorem State.foldl_joinEgress (id : Nat) (ls : List LineNo) (once : ls.Nodup) (s : State) :
    (∀ k : LineNo, (ls.foldl (State.joinEgress id) s).egress[k] = if k ∈ ls then s.egress[k] ++ [id] else s.egress[k]) ∧
    ls.foldl (State.joinEgress id) s = { s with egress := (ls.foldl (State.joinEgress id) s).egress } := by
  induction ls generalizing s with
  | nil => exact ⟨fun k => by simp, rfl⟩
  | cons l ls ih =>
    rw [List.nodup_cons] at once
    obtain ⟨fresh, once⟩ := once
    obtain ⟨queues, rest⟩ := ih once (State.joinEgress id s l)
    rw [List.foldl_cons]
    refine ⟨fun k => ?_, rest⟩
    rw [queues, State.joinEgress_egress, getElem_set_line]
    by_cases same : k = l
    · subst same
      rw [if_neg fresh, if_pos rfl, if_pos List.mem_cons_self]
    · simp only [same, if_false, List.mem_cons, false_or]

/-- The lines of an entry that take the frame, and those that do not. -/
def State.taking (s : State) (e : FlowEntry) : List LineNo := e.targets.filter s.eligible

def State.failing (s : State) (e : FlowEntry) : List LineNo := e.targets.filter fun l => !s.eligible l

section
variable {s : State} {tag len : Nat} {k : FlowIdx} {e : FlowEntry}

theorem State.arriveDown_missed (missed : s.findDown tag = none) :
    s.arriveDown tag len = { s with pool := { s.pool with uplinkDrops := s.pool.uplinkDrops + 1 } } := by
  simp only [State.arriveDown, missed]

/-- The machine once the match and the drops of the lines that are not eligible are counted. -/
def State.counted (s : State) (k : FlowIdx) (e : FlowEntry) : State :=
  (s.failing e).foldl (fun s l => s.dropDown l (s.ineligibleReason l)) (s.countMatchDown k)

theorem State.arriveDown_matched (found : s.findDown tag = some (k, e)) : s.arriveDown tag len =
    if s.taking e = [] then s.counted k e
    else if (s.counted k e).pool.free < cellsFor len then
      (s.taking e).foldl (fun s l => s.dropDown l .pool) (s.counted k e)
    else
      (s.taking e).foldl (State.joinEgress (s.counted k e).pool.nextId)
        { s.counted k e with
          pool := (s.counted k e).pool.create .uplink (e.toLine tag) len (s.taking e).length } := by
  simp only [State.arriveDown, found]
  rfl

/-- The lines that failed have each counted their drop, and only the match count has moved beside. -/
theorem State.counted_effect (entry : s.flows[k] = some e) :
    (∀ l, (s.counted k e).line l =
      if l ∈ s.failing e then (s.line l).dropped (s.ineligibleReason l) else s.line l) ∧
    s.counted k e = { s with flows := s.flows.set k (some { e with matchDown := e.matchDown + 1 }),
                             lines := (s.counted k e).lines } := by
  have once : (s.failing e).Nodup := e.targets_nodup.filter _
  obtain ⟨lines, rest⟩ := State.foldl_dropDown (reason := State.ineligibleReason)
    State.ineligibleReason_dropDown (s.failing e) once (s.countMatchDown k)
  refine ⟨fun l => lines l, ?_⟩
  rw [State.countMatchDown_of_entry entry] at rest
  have made : s.counted k e = (s.failing e).foldl (fun s l => s.dropDown l (s.ineligibleReason l))
      { s with flows := s.flows.set k (some { e with matchDown := e.matchDown + 1 }) } := by
    rw [State.counted, State.countMatchDown_of_entry entry]
  rw [made]
  exact rest

theorem State.mem_taking (l : LineNo) : l ∈ s.taking e ↔ l ∈ e.targets ∧ s.eligible l = true := List.mem_filter

theorem State.mem_failing (l : LineNo) : l ∈ s.failing e ↔ l ∈ e.targets ∧ s.eligible l = false := by
  rw [State.failing, List.mem_filter, Bool.not_eq_true']

/-- Lines, egress queues and pool aside, u is v. -/
def State.Moved (v u : State) : Prop := u = { v with lines := u.lines, egress := u.egress, pool := u.pool }

theorem State.moved_of_queues {u v : State} {p : Pool} (others : u = { v with pool := p, egress := u.egress }) :
    v.Moved u := by
  have lines := congrArg State.lines others
  have pool := congrArg State.pool others
  rw [State.Moved, lines, pool]
  exact others

theorem State.moved_of_lines {u v : State} (others : u = { v with lines := u.lines }) : v.Moved u := by
  have egress := congrArg State.egress others
  have pool := congrArg State.pool others
  rw [State.Moved, egress, pool]
  exact others

theorem State.carried_of {s u v : State} {flows : Vector (Option FlowEntry) 64}
    (base : v = { s with flows := flows, lines := v.lines }) (moved : v.Moved u) :
    u = { s with flows := flows, lines := u.lines, egress := u.egress, pool := u.pool } := by
  refine Eq.trans moved ?_
  rw [base]

/-- What stands on a target line after a matched arrival (R32, R83, R84). -/
def State.arrived (s : State) (e : FlowEntry) (len : Nat) (l : LineNo) : LineRec :=
  if l ∈ e.targets then
    if s.eligible l then (if cellsFor len ≤ s.pool.free then s.line l else (s.line l).dropped .pool)
    else (s.line l).dropped (s.ineligibleReason l)
  else s.line l

/-- A matched arrival: the lines, the egress queues, the pool, and that nothing else has moved but the match count. -/
theorem State.arriveDown_effect (found : s.findDown tag = some (k, e)) (entry : s.flows[k] = some e) :
    (∀ l, (s.arriveDown tag len).line l = s.arrived e len l) ∧
    (∀ l : LineNo, (s.arriveDown tag len).egress[l] =
      if l ∈ s.taking e ∧ cellsFor len ≤ s.pool.free then s.egress[l] ++ [s.pool.nextId] else s.egress[l]) ∧
    (s.arriveDown tag len).pool = (if 0 < (s.taking e).length ∧ cellsFor len ≤ s.pool.free then
      s.pool.create .uplink (e.toLine tag) len (s.taking e).length else s.pool) ∧
    s.arriveDown tag len = { s with
      flows := s.flows.set k (some { e with matchDown := e.matchDown + 1 })
      lines := (s.arriveDown tag len).lines
      egress := (s.arriveDown tag len).egress
      pool := (s.arriveDown tag len).pool } := by
  obtain ⟨lines, rest⟩ := State.counted_effect entry
  have pool : (s.counted k e).pool = s.pool := by rw [rest]
  have egress : (s.counted k e).egress = s.egress := by rw [rest]
  have once : (s.taking e).Nodup := e.targets_nodup.filter _
  have line (l : LineNo) : (s.counted k e).line l =
      if l ∈ e.targets then
        if s.eligible l then s.line l else (s.line l).dropped (s.ineligibleReason l)
      else s.line l := by
    rw [lines]
    by_cases target : l ∈ e.targets
    · cases eligible : s.eligible l <;> simp [State.mem_failing, target, eligible]
    · simp [State.mem_failing, target]
  rw [State.arriveDown_matched found, pool]
  by_cases nobody : s.taking e = []
  · have out (l : LineNo) (target : l ∈ e.targets) : s.eligible l = false := by
      have := (List.filter_eq_nil_iff.mp nobody) l target
      simpa using this
    rw [if_pos nobody, nobody]
    refine ⟨fun l => ?_, fun l => by rw [egress]; simp, by rw [pool]; simp, ?_⟩
    · rw [line, State.arrived]
      by_cases target : l ∈ e.targets
      · simp [target, out l target]
      · simp [target]
    · rw [egress, pool]
      exact rest
  · have some_ : 0 < (s.taking e).length := List.length_pos_iff.mpr nobody
    rw [if_neg nobody]
    by_cases cells : cellsFor len ≤ s.pool.free
    · rw [if_neg (Nat.not_lt.mpr cells)]
      obtain ⟨queues, others⟩ := State.foldl_joinEgress s.pool.nextId (s.taking e) once
        { s.counted k e with pool := s.pool.create .uplink (e.toLine tag) len (s.taking e).length }
      refine ⟨fun l => ?_, fun l => ?_, ?_, ?_⟩
      · rw [others, State.arrived]
        simp only [cells, if_true]
        exact line l
      · rw [queues]
        simp only [egress, cells, and_true]
      · rw [others, if_pos ⟨some_, cells⟩]
      · exact State.carried_of rest (State.moved_of_queues others)
    · rw [if_pos (Nat.not_le.mp cells)]
      obtain ⟨counts, others⟩ := State.foldl_dropDown (reason := fun _ _ => .pool) (fun _ _ _ _ => rfl) (s.taking e) once
        (s.counted k e)
      refine ⟨fun l => ?_, fun l => ?_, ?_, ?_⟩
      · rw [counts, line, State.arrived]
        by_cases target : l ∈ e.targets
        · cases eligible : s.eligible l <;> simp [State.mem_taking, target, eligible, cells]
        · simp [State.mem_taking, target]
      · rw [others]
        simp only [egress, cells, and_false, if_false]
      · rw [others, if_neg (fun both => cells both.2)]
        exact pool
      · exact State.carried_of rest (State.moved_of_lines others)

end

/-- Settles O31: by the match; then each target line, the queues and the pool. -/
theorem downstreamArrival : Obligations.DownstreamArrival := by
  intro t tag len s running low high ok a cells hits drop inPool outOfService egressFull
  have taken : exec (.downstreamArrival t tag len) s = .next (a.arriveDown tag.val len) := by
    rw [exec_downstreamArrival, if_pos ((frameLengthOk_iff len).mpr ⟨low, high⟩), State.event_running running]
  have hit_iff (e : FlowEntry) : e.matchesDown tag.val = true ↔ hits e := FlowEntry.matchesDown_iff e tag.val
  have okA : FlowsOk a := FlowsOk.congr (s := s) rfl ok
  refine ⟨fun missed => ?_, fun k e entry hit => ?_⟩
  · have none_ := State.findDown_of_no_match (s := a) (tag := tag.val) fun k e entry hit =>
      missed k e entry ((hit_iff e).mp hit)
    rw [taken, State.arriveDown_missed none_]
    rfl
  · intro targets takes n fits born
    have found := State.findDown_of_match (s := a) okA entry ((hit_iff e).mpr hit)
    obtain ⟨lines, egress, pool, rest⟩ := State.arriveDown_effect (len := len) found entry
    have fits_iff : fits = true ↔ cellsFor len ≤ a.pool.free := decide_eq_true_iff
    refine ⟨_, taken, fun l => ?_, fun l => ?_, ?_, rest⟩
    · rw [lines, State.arrived]
      refine if_congr Iff.rfl (if_congr Iff.rfl (if_congr fits_iff.symm rfl rfl) ?_) rfl
      have reason : a.ineligibleReason l = if (s.line l).state = .inService then .egressFull else .notInService := rfl
      rw [reason]
      split <;> rfl
    · rw [egress]
      have placed : (l ∈ a.taking e ∧ cellsFor len ≤ a.pool.free) ↔ (l ∈ targets ∧ takes l = true ∧ fits = true) := by
        rw [State.mem_taking, fits_iff, and_assoc]
        exact Iff.rfl
      exact if_congr placed rfl rfl
    · rw [pool]
      exact if_congr (and_congr Iff.rfl fits_iff.symm) rfl rfl

end Sys2Proof.Machine
end

section
/-! TEST ORDER (R102 to R105): the steps of an order, the id that it is given, and the engine's answers. -/

namespace Sys2Proof.Machine

/-! ### Steps (R102, R103) -/

theorem flagByte_eq_one (b : Bool) : (flagByte b == 1) = b := by cases b <;> rfl

theorem flagOk_flagByte (b : Bool) : flagOk (flagByte b) = true := by cases b <;> rfl

theorem levelOk_iff (v : Int) : levelOk v = true ↔ -2048 ≤ v ∧ v ≤ 2047 := by
  simp only [levelOk, Bool.and_eq_true, decide_eq_true_eq]

theorem limitsOk_iff (lp up : Byte) (lo hi : Half) : limitsOk (limitOf lp lo) (limitOf up hi) = true ↔
    (lp = 1 → up = 1 → lo.toNat ≤ hi.toNat) := by
  unfold limitOf
  by_cases lower : lp = 1
  · by_cases upper : up = 1
    · rw [if_pos lower, if_pos upper]
      simp [limitsOk, lower, upper]
    · rw [if_pos lower, if_neg upper]
      exact iff_of_true rfl fun _ is => absurd is upper
  · rw [if_neg lower]
    exact iff_of_true rfl fun is => absurd is lower

theorem RawStep.commonOk_iff (r : RawStep) : RawStep.commonOk r = true ↔
    r.exp.toNat ≤ 7 ∧ 1 ≤ r.period.toNat ∧ 10 ≤ r.window.toNat ∧ r.window.toNat ≤ 2000 ∧
      (r.lowerPresent = 1 → r.upperPresent = 1 → r.lower.toNat ≤ r.upper.toNat) := by
  simp only [RawStep.commonOk, Bool.and_eq_true, decide_eq_true_eq, limitsOk_iff, and_assoc]

theorem RawStep.host_of_stimulus {r : RawStep} {stim : Stimulus} (made : RawStep.stimulus r = some stim)
    (fits : RawStep.commonOk r = true) : RawStep.host r = some
      { stim, exp := r.exp.toNat, period := r.period.toNat, window := r.window.toNat,
        lower := limitOf r.lowerPresent r.lower, upper := limitOf r.upperPresent r.upper } := by
  simp only [RawStep.host, made, if_pos fits]

theorem RawStep.host_refused {r : RawStep} (refused : RawStep.stimulus r = none) : RawStep.host r = none := by
  simp only [RawStep.host, refused]

theorem RawStep.host_unfit {r : RawStep} (unfit : ¬RawStep.commonOk r = true) : RawStep.host r = none := by
  unfold RawStep.host
  split
  · rfl
  · exact if_neg unfit

/-- An amplitude of 0 to 2047, as a number with or without sign. -/
theorem amplitude_iff (v : Half) : (decide (0 ≤ v.toInt) && decide (v.toInt ≤ 2047)) = true ↔ v.toNat ≤ 2047 := by
  rw [Bool.and_eq_true, decide_eq_true_iff, decide_eq_true_iff, BitVec.toInt_eq_toNat_cond]
  have := v.isLt
  split <;> omega

section
variable {r : RawStep}

theorem RawStep.stimulus_loop (kind : r.kind = 0) : RawStep.stimulus r =
    if levelOk r.first.toInt then some (.loop r.first.toInt) else none := by
  simp only [RawStep.stimulus, kind]
  rfl

theorem RawStep.stimulus_leak (kind : r.kind = 1) : RawStep.stimulus r =
    if levelOk r.first.toInt then some (.leak r.first.toInt) else none := by
  simp only [RawStep.stimulus, kind]
  rfl

theorem RawStep.stimulus_cap (kind : r.kind = 2) : RawStep.stimulus r =
    if levelOk r.first.toInt && levelOk r.high.toInt && decide (r.first.toInt < r.high.toInt) then
      some (.cap r.first.toInt r.high.toInt) else none := by
  simp only [RawStep.stimulus, kind]
  rfl

theorem RawStep.stimulus_term (kind : r.kind = 3) : RawStep.stimulus r =
    if decide (0 ≤ r.first.toInt) && decide (r.first.toInt ≤ 2047) then some (.term r.first.toNat) else none := by
  simp only [RawStep.stimulus, kind]
  rfl

/-- The host step of a stimulus that stands on a condition. -/
theorem RawStep.host_of_condition {stim : Stimulus} {b : Bool} {p : Prop} (made : RawStep.stimulus r = if b then some stim else none)
    (holds : b = true ↔ p) :
    (p → (r.exp.toNat ≤ 7 ∧ 1 ≤ r.period.toNat ∧ 10 ≤ r.window.toNat ∧ r.window.toNat ≤ 2000 ∧
      (r.lowerPresent = 1 → r.upperPresent = 1 → r.lower.toNat ≤ r.upper.toNat)) → RawStep.host r = some
        { stim, exp := r.exp.toNat, period := r.period.toNat, window := r.window.toNat,
          lower := limitOf r.lowerPresent r.lower, upper := limitOf r.upperPresent r.upper }) ∧
    (¬p → RawStep.host r = none) := by
  refine ⟨fun here fits => ?_, fun out => ?_⟩
  · exact RawStep.host_of_stimulus (made.trans (if_pos (holds.mpr here))) ((RawStep.commonOk_iff r).mpr fits)
  · exact RawStep.host_refused (made.trans (if_neg (mt holds.mp out)))

end

theorem hostSteps_iff (rs : List RawStep) (hs : List HostStep) :
    hostSteps rs = some hs ↔ rs.map RawStep.host = hs.map some := by
  induction rs generalizing hs with
  | nil => cases hs <;> simp [hostSteps]
  | cons r rs ih =>
    cases first : RawStep.host r with
    | none => cases hs <;> simp [hostSteps, first]
    | some st =>
      cases more : hostSteps rs with
      | none =>
        cases hs with
        | nil => simp [hostSteps, first, more]
        | cons x xs =>
          have none_ := (ih xs).not.mp (by simp [more])
          simp [hostSteps, first, more, none_]
      | some ms =>
        cases hs with
        | nil => simp [hostSteps, first, more]
        | cons x xs =>
          have same := ih xs
          rw [more, Option.some.injEq] at same
          simp [hostSteps, first, more, same]

/-! ### The next id (R104) -/

/-- The search passes only ids in use. -/
theorem Engine.freeId_least (e : Engine) (k : Nat) {n : Nat} (range : 1 ≤ n ∧ n ≤ 255) :
    ∃ j, e.freeId k n = idAt n j ∧ ∀ i < j, e.uses (idAt n i) = true := by
  induction k generalizing n with
  | zero => exact ⟨0, (idAt_zero range).symm, nofun⟩
  | succ k ih =>
    rw [Engine.freeId]
    split
    case isFalse => exact ⟨0, (idAt_zero range).symm, nofun⟩
    case isTrue used =>
      obtain ⟨j, found, passed⟩ := ih (idAfter_range range.2)
      refine ⟨j + 1, by rw [found, idAt_succ range], fun i below => ?_⟩
      cases i with
      | zero => rwa [idAt_zero range]
      | succ i => rw [← idAt_succ range]; exact passed i (by omega)

/-- No id that is free stands nearer after the last assigned than the one given. -/
theorem Engine.nextId_least {e : Engine} (last : e.lastId ≤ 255) {a : Nat} (range : 1 ≤ a ∧ a ≤ 255) (free : a ∉ e.ids) :
    (e.nextId + 254 - e.lastId) % 255 ≤ (a + 254 - e.lastId) % 255 := by
  obtain ⟨j, found, passed⟩ := e.freeId_least 26 (idAfter_range last)
  have next : e.nextId = idAt (idAfter e.lastId) j := found
  have reach : idAt (idAfter e.lastId) ((a + 254 - e.lastId) % 255) = a := by
    unfold idAt idAfter
    split <;> omega
  have far : j ≤ (a + 254 - e.lastId) % 255 := by
    by_contra near
    have used := passed _ (Nat.lt_of_not_le near)
    rw [reach, Engine.uses_iff] at used
    exact free used
  refine Nat.le_trans ?_ far
  rw [next]
  unfold idAt idAfter
  split <;> omega

/-! ### TEST ORDER at the engine (R103) -/

section
variable {s : State} {p : PortId} {l : LineNo} {intr quar clr : Bool} {steps : List RawStep}

theorem State.testOrder_range (entitled : Entitled p s)
    (bad : s.equipped l = false ∨ steps.length = 0 ∨ 5 < steps.length ∨ hostSteps steps = none) :
    s.testOrder p l intr quar clr steps = (Reply.bad .range, s) := by
  have allowed : ¬(p = .craft ∧ s.doorOpen = false) := by
    rintro ⟨rfl, shut⟩
    rcases entitled with main | opened
    · cases main
    · exact Bool.false_ne_true (shut.symm.trans opened)
  rw [State.testOrder, if_neg allowed]
  by_cases equipped : s.equipped l = true
  · rw [if_neg (by simp [equipped])]
    by_cases count : steps.length = 0 ∨ 5 < steps.length
    · rw [if_pos count]
    · have none_ : hostSteps steps = none := by
        rcases bad with out | zero | many | none_
        · exact absurd (out.symm.trans equipped) Bool.false_ne_true
        · exact absurd (.inl zero) count
        · exact absurd (.inr many) count
        · exact none_
      rw [if_neg count, none_]
  · rw [if_pos (by simpa using equipped)]

theorem State.testOrder_read (entitled : Entitled p s) {hs : List HostStep} (equipped : s.equipped l = true)
    (one : 1 ≤ steps.length) (five : steps.length ≤ 5) (read : hostSteps steps = some hs) :
    s.testOrder p l intr quar clr steps =
      if 8 ≤ s.engine.queue.length then (Reply.bad .full, s)
      else (Reply.ok [byte s.engine.nextId], (s.enqueue
        { id := s.engine.nextId, origin := p, line := l, interrupt := intr, quarantineOnFail := quar,
          clearOnPass := clr, steps := hs }).attempt) := by
  have allowed : ¬(p = .craft ∧ s.doorOpen = false) := by
    rintro ⟨rfl, shut⟩
    rcases entitled with main | opened
    · cases main
    · exact Bool.false_ne_true (shut.symm.trans opened)
  have count : ¬(steps.length = 0 ∨ 5 < steps.length) := by omega
  rw [State.testOrder, if_neg allowed, if_neg (by simp [equipped]), if_neg count, read]
  rfl

theorem exec_testOrder {h : Header} {out : Reply × State} (t : Nat) (ready : Ready h.port s) (direct : Direct h)
    (entitled : Entitled h.port s) (codes : ∀ x ∈ steps, StepCodes x)
    (own : (s.taken t h.port).testOrder h.port l intr quar clr steps = out) :
    exec (.testOrder t h (lineByte l) (flagByte intr) (flagByte quar) (flagByte clr) steps) s =
      .next (out.2.answers h 0x30 out.1.status out.1.payload) := by
  have listed : steps.all stepCodesOk = true := List.all_eq_true.mpr fun x mem => (stepCodesOk_iff x).mpr (codes x mem)
  refine exec_eq_answers (r := .testOrder (lineByte l) (flagByte intr) (flagByte quar) (flagByte clr) steps) rfl ready direct
    (permitted_entitled entitled rfl)
    (by simp only [fieldsOk, lineOk_lineByte, flagOk_flagByte, listed, Bool.and_self]) rfl ((onLine_lineByte l _ _).trans ?_)
  simp only [flagByte_eq_one]
  exact own

end

/-- Settles O35: the engine's checks, the host step by the kind, the steps of a list, the programs, and the next id. -/
theorem testOrderPlaced : Obligations.TestOrderPlaced := by
  refine ⟨fun t h l intr quar clr steps s ready direct entitled codes => ?_, fun r codes => ?_, hostSteps_iff,
    fun v high n => ⟨rfl, rfl, rfl, rfl, rfl⟩, fun s ranges last => ?_⟩
  · intro u done
    have engine : u.engine = s.engine := State.taken_engine t h.port s
    have equipped : u.equipped l = s.equipped l := by rw [State.equipped, State.taken_line]; rfl
    have entitled' : Entitled h.port u := by rw [Entitled, State.taken_doorOpen]; exact entitled
    have answered {out : Reply × State} (own : u.testOrder h.port l intr quar clr steps = out) :=
      exec_testOrder t ready direct entitled codes own
    refine ⟨fun bad => answered (State.testOrder_range entitled' (by rw [equipped]; exact bad)),
      fun hs here one five read => ?_⟩
    have placed := State.testOrder_read (intr := intr) (quar := quar) (clr := clr) entitled' (equipped.trans here) one five read
    rw [State.enqueue, engine] at placed
    exact ⟨fun full => answered (placed.trans (if_pos full)),
      fun room => answered (placed.trans (if_neg (Nat.not_le.mpr room)))⟩
  · intro level fits made
    refine ⟨fun unfit => RawStep.host_unfit (mt (RawStep.commonOk_iff r).mp unfit), fun kind => ?_, fun kind => ?_, fun kind => ?_,
      fun kind => ?_⟩
    · exact RawStep.host_of_condition (RawStep.stimulus_loop kind) (levelOk_iff _)
    · exact RawStep.host_of_condition (RawStep.stimulus_leak kind) (levelOk_iff _)
    · exact RawStep.host_of_condition (RawStep.stimulus_cap kind)
        (by rw [Bool.and_eq_true, Bool.and_eq_true, levelOk_iff, levelOk_iff, decide_eq_true_eq]; exact and_assoc)
    · have term := RawStep.host_of_condition (RawStep.stimulus_term kind) (amplitude_iff r.first)
      exact ⟨term.1, fun high => term.2 (Nat.not_le.mpr high)⟩
  · have room : s.engine.ids.length ≤ 25 := by
      have := s.engine.ids_length
      have := ranges.orders
      have := ranges.results
      omega
    obtain ⟨⟨low, high⟩, free⟩ := Engine.nextId_spec last room
    exact ⟨low, high, free, fun j one top unused => Engine.nextId_least last ⟨one, top⟩ unused⟩

end Sys2Proof.Machine
end

section
/-! TEST RESULT and TEST HALT (R122, R124, R126, R139). -/

namespace Sys2Proof.Machine

section
variable {s : State}

theorem State.testResult_none {p : PortId} {oldest : Bool} {id : Nat} (none_ : s.askedResult p oldest id = none) :
    s.testResult p oldest id = (Reply.bad .notFound, s) := by
  simp only [State.testResult, none_]

theorem State.testResult_found {p : PortId} {oldest : Bool} {id : Nat} {r : Result}
    (found : s.askedResult p oldest id = some r) : s.testResult p oldest id =
      (Reply.ok r.bytes, { s with engine := { s.engine with
        results := s.engine.results.map fun q => if q.id = r.id then q.markRead p else q } }) := by
  simp only [State.testResult, found]

theorem exec_testResult {h : Header} {oldest : Bool} {id : Byte} {out : Reply × State} (t : Nat) (ready : Ready h.port s)
    (direct : Direct h) (entitled : Entitled h.port s) (asks : oldest = true ∨ id ≠ 0)
    (own : (s.taken t h.port).testResult h.port oldest id.toNat = out) :
    exec (.testResult t h (flagByte oldest) id) s = .next (out.2.answers h 0x32 out.1.status out.1.payload) := by
  refine exec_eq_answers (r := .testResult (flagByte oldest) id) rfl ready direct (permitted_entitled entitled rfl) ?_ rfl ?_
  · have asks' : (oldest || id != 0) = true := by simpa using asks
    simp only [fieldsOk, flagOk_flagByte, flagByte_eq_one, asks', Bool.and_self]
  · rw [← own]
    exact congrArg (fun o => State.testResult h.port o id.toNat (s.taken t h.port)) (flagByte_eq_one oldest)

/-! ### The queue emptied (R105, R126) -/

theorem State.removeOrder_queue (cause : Cause) (o : TestOrder) (s : State) :
    (State.removeOrder cause s o).engine.queue = s.engine.queue.filter fun q => q.id != o.id := by
  simp [State.removeOrder, State.storeResult, (Engine.store_queue _ _).1]

theorem State.removeOrders_queue (cause : Cause) (os : List TestOrder) (s : State) :
    (os.foldl (State.removeOrder cause) s).engine.queue = s.engine.queue.filter fun q => os.all fun o => q.id != o.id := by
  induction os generalizing s with
  | nil => simp
  | cons o os ih =>
    rw [List.foldl_cons, ih, State.removeOrder_queue, List.filter_filter]
    refine List.filter_congr fun q _ => ?_
    rw [List.all_cons, Bool.and_comm]

theorem State.removeOrders_all (cause : Cause) (s : State) :
    (s.engine.queue.foldl (State.removeOrder cause) s).engine.queue = [] := by
  rw [State.removeOrders_queue, List.filter_eq_nil_iff]
  intro q queued spared
  have apart := List.all_eq_true.mp spared q queued
  simp at apart

theorem State.testHalt_eq (s : State) : s.testHalt =
    (match s.engine.current with
     | none => (Reply.ok [byte s.engine.queue.length], s.engine.queue.foldl (State.removeOrder .halt) s)
     | some c =>
       if c.phase.early then
         (Reply.ok [byte s.engine.queue.length], (s.engine.queue.foldl (State.removeOrder .halt) s).beginExit .halt)
       else ({ status := .state, payload := [byte s.engine.queue.length] },
         s.engine.queue.foldl (State.removeOrder .halt) s)) := rfl

theorem exec_testHalt {h : Header} {out : Reply × State} (t : Nat) (ready : Ready h.port s) (direct : Direct h)
    (main : h.port = .main) (own : (s.taken t h.port).testHalt = out) :
    exec (.testHalt t h) s = .next (out.2.answers h 0x34 out.1.status out.1.payload) :=
  exec_eq_answers (c := .testHalt t h) (r := .testHalt) rfl ready direct (permitted_main main _ _) rfl rfl own

end

/-- Settles O37: by the record asked for, and by the current order. -/
theorem testResultAndHalt : Obligations.TestResultAndHalt := by
  rintro t ⟨port, group, tag⟩ s ready direct u
  have engine : u.engine = s.engine := State.taken_engine t port s
  refine ⟨fun entitled oldest id asks => ?_, fun main => ?_⟩
  · intro mine mark asked
    have answered {out : Reply × State} (own : u.testResult port oldest id.toNat = out) :=
      exec_testResult t ready direct entitled asks own
    have same : u.askedResult port oldest id.toNat = asked := by
      rw [State.askedResult, engine]
      cases port <;> rfl
    refine ⟨fun none_ => answered (State.testResult_none (same.trans none_)), fun r found => ?_⟩
    have own := State.testResult_found (same.trans found)
    rw [engine] at own
    cases port <;> exact answered own
  · subst main
    intro gone emptied n
    have answered {out : Reply × State} (own : u.testHalt = out) := exec_testHalt t ready direct rfl own
    have halted := u.testHalt_eq
    refine ⟨State.removeOrders_all .halt u, fun idle => ?_, fun c current early => ?_, fun c current late => ?_⟩
    · rw [engine, idle] at halted
      exact answered halted
    · rw [engine, current] at halted
      exact answered (halted.trans (if_pos early))
    · rw [engine, current] at halted
      exact answered (halted.trans (if_neg (by rw [late]; exact Bool.false_ne_true)))

end Sys2Proof.Machine
end

section
/-! An attempt of the engine (R107 to R110, R12, R154): the candidate, the conditions, and what its line decides. -/

namespace Sys2Proof.Machine

theorem Engine.candidate_eq (e : Engine) :
    e.candidate = (e.queue.find? fun q => q.origin == .craft).or e.queue.head? := by
  unfold Engine.candidate
  cases e.queue.find? fun q => q.origin == .craft <;> rfl

section
variable {s : State} {o : TestOrder}

/-! ### The loop of refusals (R108, R109) -/

theorem State.attemptLoop_busy (n : Nat) (busy : s.engine.current ≠ none) : s.attemptLoop n = s := by
  cases n with
  | zero => rfl
  | succ n => exact if_pos (Option.isSome_iff_ne_none.mpr busy)

theorem State.attemptLoop_empty (n : Nat) (empty : s.engine.queue = []) : s.attemptLoop n = s := by
  have none_ : s.engine.candidate = none := by simp [Engine.candidate_eq, empty]
  cases n with
  | zero => rfl
  | succ n =>
    rw [State.attemptLoop, none_]
    exact ite_self s

/-- What the line of a taken candidate decides; `again` is the attempt after a refusal. -/
def State.decided (s : State) (o : TestOrder) (again : State → State) : State :=
  match (s.line o.line).state with
  | .idle => s.acquire o .idle
  | .shed => s.acquire o .training
  | .training _ => if o.interrupt then s.acquire o .training else again (s.refuseOrder o)
  | .inService => if o.interrupt then s.acquire o .training else again (s.refuseOrder o)
  | .quarantined c => s.acquire o (.quarantined c)
  | .withdrawn _ _ => s
  | .unequipped => s

theorem State.attemptLoop_candidate (n : Nat) (idle : s.engine.current = none) (first : s.engine.candidate = some o) :
    s.attemptLoop (n + 1) = if s.canTake o then s.decided o fun v => v.attemptLoop n else s := by
  rw [State.attemptLoop, idle, first]
  rfl

theorem State.refuseOrder_queue (o : TestOrder) (s : State) :
    (s.refuseOrder o).engine.queue = s.engine.queue.filter fun q => q.id != o.id := by
  simp [State.refuseOrder, State.storeResult, (Engine.store_queue _ _).1]

theorem State.refuseOrder_shorter (mem : o ∈ s.engine.queue) :
    (s.refuseOrder o).engine.queue.length < s.engine.queue.length := by
  rw [State.refuseOrder_queue]
  exact List.length_filter_lt_length_iff_exists.mpr ⟨o, mem, by simp⟩

/-- The decision depends on the further attempt at the refused machine alone. -/
theorem State.decided_congr {again again' : State → State} (same : again (s.refuseOrder o) = again' (s.refuseOrder o)) :
    s.decided o again = s.decided o again' := by
  unfold State.decided
  rw [same]

/-- A bound that the queue does not exceed is as good as another. -/
theorem State.attemptLoop_enough (n m : Nat) (s : State) (short : s.engine.queue.length ≤ n)
    (short' : s.engine.queue.length ≤ m) : s.attemptLoop n = s.attemptLoop m := by
  induction n generalizing m s with
  | zero =>
    have empty := List.length_eq_zero_iff.mp (Nat.le_zero.mp short)
    rw [State.attemptLoop_empty _ empty, State.attemptLoop_empty _ empty]
  | succ n ih =>
    cases m with
    | zero =>
      have empty := List.length_eq_zero_iff.mp (Nat.le_zero.mp short')
      rw [State.attemptLoop_empty _ empty, State.attemptLoop_empty _ empty]
    | succ m =>
      by_cases busy : s.engine.current = none
      case neg => rw [State.attemptLoop_busy _ busy, State.attemptLoop_busy _ busy]
      case pos =>
        cases first : s.engine.candidate with
        | none => rw [State.attemptLoop, State.attemptLoop, first]
        | some o =>
          have fewer := State.refuseOrder_shorter (Engine.candidate_mem first)
          rw [State.attemptLoop_candidate n busy first, State.attemptLoop_candidate m busy first,
            State.decided_congr (ih m (s.refuseOrder o) (by omega) (by omega))]

theorem State.attempt_candidate (idle : s.engine.current = none) (first : s.engine.candidate = some o) :
    s.attempt = if s.canTake o then s.decided o State.attempt else s := by
  have fewer := State.refuseOrder_shorter (Engine.candidate_mem first)
  obtain ⟨n, length⟩ : ∃ n, s.engine.queue.length = n + 1 := ⟨s.engine.queue.length - 1, by omega⟩
  rw [State.attempt, length, State.attemptLoop_candidate n idle first,
    State.decided_congr (State.attemptLoop_enough n _ (s.refuseOrder o) (by omega) (Nat.le_refl _))]
  rfl

/-! ### The conditions (R108) -/

theorem State.canTake_iff : s.canTake o = true ↔
    s.points.surge = .calm ∧ s.energy.supply ≠ .battCrit ∧
      ((o.interrupt = true ∧ (s.line o.line).state.counted = true ∧
          s.committed + 6 ≤ s.budget + (s.line o.line).profile.cost) ∨ s.committed + 6 ≤ s.budget) := by
  have room : s.committed + Config.engineCost ≤ s.budget + s.releasedBy o ↔
      ((o.interrupt = true ∧ (s.line o.line).state.counted = true ∧
        s.committed + 6 ≤ s.budget + (s.line o.line).profile.cost) ∨ s.committed + 6 ≤ s.budget) := by
    have six : Config.engineCost = 6 := rfl
    rw [six, State.releasedBy, State.costOf]
    by_cases interrupts : o.interrupt = true
    · by_cases counted : (s.line o.line).state.counted = true
      · simp only [interrupts, counted, Bool.and_self, if_true, true_and]
        omega
      · simp only [interrupts, counted, Bool.true_and, true_and, Bool.false_eq_true, false_and, if_false, false_or, Nat.add_zero]
    · simp only [interrupts, Bool.false_and, Bool.false_eq_true, false_and, if_false, false_or, Nat.add_zero]
  simp only [State.canTake, Bool.and_eq_true, beq_iff_eq, bne_iff_ne, ne_eq, decide_eq_true_eq, room, and_assoc]

/-- An order taken: its line is withdrawn, it is current in WARMUP, and the pass of the net change runs (R109, R110). -/
theorem State.acquire_eq (o : TestOrder) (target : Target) (s : State) : s.acquire o target =
    (let out := (s.dequeue o).withdraw o.line target
     let on : State := { out with
      engine := { out.engine with current := some (Current.mk o (.warmup (s.now + 20000)) none [] .pass) }
      points := { out.points with testPower := true } }
     if s.committed < on.committed then on.sheddingPass
     else if on.committed < s.committed then on.restoringPass else on) := by
  have now : ((s.dequeue o).withdraw o.line target).now = s.now := by simp
  have made : ((s.dequeue o).withdraw o.line target).makeCurrent o =
      { (s.dequeue o).withdraw o.line target with
        engine := { ((s.dequeue o).withdraw o.line target).engine with
          current := some (Current.mk o (.warmup (s.now + 20000)) none [] .pass) }
        points := { ((s.dequeue o).withdraw o.line target).points with testPower := true } } := by
    have warm : Phase.warmup (((s.dequeue o).withdraw o.line target).now + Config.warmupTime) = .warmup (s.now + 20000) := by
      rw [now]
      rfl
    rw [State.makeCurrent, warm]
  rw [State.acquire, made]
  rfl

end

/-- Settles O38: no candidate; the conditions; and the state of its line. -/
theorem attempt : Obligations.Attempt := by
  intro s
  refine ⟨fun nothing => ?_, fun o idle first => ?_⟩
  · rcases nothing with busy | empty
    · exact State.attemptLoop_busy _ busy
    · exact State.attemptLoop_empty _ empty
  · rw [← Engine.candidate_eq] at first
    intro counted spare left unshed warmup took refused
    have attempted := State.attempt_candidate idle first
    have counted_iff : (s.line o.line).state.counted = true ↔ counted := LineState.counted_iff _
    have spare_iff : s.canTake o = true ↔ spare := by rw [State.canTake_iff, counted_iff]
    have acquired (target : Target) : s.acquire o target = took target := State.acquire_eq o target s
    refine ⟨fun short => attempted.trans (if_neg (mt spare_iff.mp short)), fun enough => ?_⟩
    rw [if_pos (spare_iff.mpr enough), State.decided] at attempted
    refine ⟨fun is => ?_, fun is => ?_, fun q is => ?_, fun is interrupts => ?_, fun is waits => ?_⟩
    · rw [attempted, is]
      exact acquired .idle
    · rw [attempted, is]
      exact acquired .training
    · rw [attempted, is]
      exact acquired (.quarantined q)
    · rw [attempted]
      rcases is with ⟨d, is⟩ | is
      · rw [is]
        exact (if_pos interrupts).trans (acquired .training)
      · rw [is]
        exact (if_pos interrupts).trans (acquired .training)
    · have stays : ¬o.interrupt = true := by rw [waits]; exact Bool.false_ne_true
      rw [attempted]
      rcases is with ⟨d, is⟩ | is
      · rw [is]
        exact if_neg stays
      · rw [is]
        exact if_neg stays

end Sys2Proof.Machine
end

section
/-! The step event and the loads of the generator (R89 to R95). -/

namespace Sys2Proof.Machine

/-! ### The generator's record (R89, R90, R93, R94) -/

/-- One step toward a code, by the distance (R89). -/
theorem toward_eq (size code goal : Nat) : toward size code goal =
    if max code goal - min code goal ≤ size then goal else if code < goal then code + size else code - size := by
  unfold toward
  split <;> split <;> split <;> (try split) <;> omega

theorem Generator.stepTime_eq (g : Generator) : g.stepTime = 20 * g.period := Nat.mul_comm _ _

theorem Program.landing_next (prog : Program) (at_ : Option Nat) : (if prog.moves then at_ else none) =
    match prog with
    | .triangle _ _ | .sine _ _ => at_
    | _ => none := by
  cases prog <;> rfl

section
variable {g : Generator} {now : Nat}

theorem Generator.step_ramping (ramping : g.motion = .ramping) : g.step now = g.rampStep now := by
  simp only [Generator.step, ramping]

theorem Generator.rampStep_on (on : toward (2 ^ g.exp) g.code g.program.settling ≠ g.program.settling) :
    g.rampStep now =
      ({ g with code := toward (2 ^ g.exp) g.code g.program.settling, next := some (now + g.stepTime) }, false) := if_neg on

theorem Generator.rampStep_lands (lands : toward (2 ^ g.exp) g.code g.program.settling = g.program.settling) :
    g.rampStep now = ({ g with
      code := g.program.settling, motion := .settled, dir := g.program.landingDir,
      next := if g.program.moves then some (now + g.stepTime) else none }, true) := by
  rw [Generator.rampStep, lands]
  exact if_pos rfl

theorem Generator.step_triangle {low high : Nat} (settled : g.motion = .settled) (program : g.program = .triangle low high) :
    g.step now = (g.triangleStep low high now, false) := by
  simp only [Generator.step, settled, program]

theorem Generator.triangleStep_up {low high : Nat} (up : g.dir = some .up) : g.triangleStep low high now =
    { g with
      code := toward (2 ^ g.exp) g.code high
      dir := some (if toward (2 ^ g.exp) g.code high = high then .down else .up)
      next := some (now + g.stepTime) } := by
  rw [Generator.triangleStep, up]

theorem Generator.triangleStep_down {low high : Nat} (down : g.dir = some .down) : g.triangleStep low high now =
    { g with
      code := toward (2 ^ g.exp) g.code low
      dir := some (if toward (2 ^ g.exp) g.code low = low then .up else .down)
      next := some (now + g.stepTime) } := by
  rw [Generator.triangleStep, down]

theorem Generator.step_sine {amplitude start k : Nat} (settled : g.motion = .settled)
    (program : g.program = .sine amplitude start) (index : g.sine = some k) : g.step now =
      ({ g with code := sineCode amplitude k, sine := some ((k + 1) % 32), next := some (now + g.stepTime) }, false) := by
  simp only [Generator.step, settled, program, Generator.sineStep, index, Option.getD_some]

end

/-! ### On the machine, with the level reached that may follow (R91) -/

section
variable {s : State}

theorem State.due_iff {at_ : Nat} : s.due (some at_) = true ↔ at_ ≤ s.now := decide_eq_true_iff

theorem State.stepGen_early (early : ∀ e, s.gen.next = some e → s.now < e) : s.stepGen = s := by
  unfold State.stepGen
  cases next : s.gen.next with
  | none => rfl
  | some e => exact if_neg (mt State.due_iff.mp (Nat.not_le.mpr (early e next)))

theorem State.stepGen_due {e : Nat} (next : s.gen.next = some e) (due : e ≤ s.now) {g : Generator} {reached : Bool}
    (stepped : s.gen.step s.now = (g, reached)) :
    s.stepGen = if reached then ({ s with gen := g }).levelReached else { s with gen := g } := by
  rw [State.stepGen, next, if_pos (State.due_iff.mpr due), stepped]

theorem exec_stepEvent (t : Nat) (s : State) : exec (.stepEvent t) s = .next (s.event t State.stepGen) := rfl

theorem State.load_ramps {prog : Program} {e p : Nat} (away : s.gen.code ≠ prog.settling) : s.load prog e p =
    { s with gen := { s.gen with
        program := prog, exp := e, period := p, sine := prog.startIndex, dir := none, motion := .ramping,
        next := some (s.now + p * Config.stepUnit) } } := by
  simp only [State.load, Generator.load, if_neg away, Bool.false_eq_true, if_false]

theorem State.load_settles {prog : Program} {e p : Nat} (there : s.gen.code = prog.settling) : s.load prog e p =
    ({ s with gen := { s.gen with
        program := prog, exp := e, period := p, sine := prog.startIndex, dir := prog.landingDir, motion := .settled,
        next := if prog.moves then some (s.now + p * Config.stepUnit) else none } }).levelReached := by
  simp only [State.load, Generator.load, if_pos there, if_true]

end

/-- Settles O39: by the time, the motion and the program; and the loads by the code. -/
theorem stepEvent : Obligations.StepEvent := by
  refine ⟨fun t s running => ?_, fun prog e p s => ?_⟩
  · intro a g near later done
    have run {v : State} (stepped : a.stepGen = v) : done v := by
      have taken : exec (.stepEvent t) s = .next a.stepGen := by rw [exec_stepEvent, State.event_running running]
      rw [stepped] at taken
      exact taken
    have near_eq (goal : Nat) : toward (2 ^ g.exp) g.code goal = near goal := toward_eq _ _ _
    have time : some (a.now + g.stepTime) = later := congrArg (fun n => some (a.now + n)) g.stepTime_eq
    refine ⟨fun early => run (State.stepGen_early early), fun e next due => ?_⟩
    have stepped {g' : Generator} {reached : Bool} (is : g.step a.now = (g', reached)) :=
      State.stepGen_due (s := a) next due is
    refine ⟨fun ramping on => ?_, fun ramping lands => ?_, fun low high settled program => ⟨fun up => ?_, fun down => ?_⟩,
      fun amp start k settled program index _ => ?_⟩
    · have is := (Generator.step_ramping (now := a.now) ramping).trans (Generator.rampStep_on (by rw [near_eq]; exact on))
      rw [near_eq, time] at is
      exact run (stepped is)
    · have is := (Generator.step_ramping (now := a.now) ramping).trans (Generator.rampStep_lands (by rw [near_eq]; exact lands))
      rw [time, Program.landing_next] at is
      exact run (stepped is)
    · have is := Generator.step_triangle (now := a.now) settled program
      rw [Generator.triangleStep_up up, near_eq, time] at is
      exact run (stepped is)
    · have is := Generator.step_triangle (now := a.now) settled program
      rw [Generator.triangleStep_down down, near_eq, time] at is
      exact run (stepped is)
    · have is := Generator.step_sine (now := a.now) settled program index
      rw [time] at is
      exact run (stepped is)
  · intro base later
    have time : some (s.now + p * Config.stepUnit) = later := congrArg (fun n => some (s.now + n)) (Nat.mul_comm _ _)
    refine ⟨fun away => ?_, fun there => ?_⟩
    · have is := State.load_ramps (e := e) (p := p) away
      rw [time] at is
      exact is
    · have is := State.load_settles (e := e) (p := p) there
      rw [time, Program.landing_next] at is
      exact is

end Sys2Proof.Machine
end

section
/-! A level reached by the phase of the current order, and the timers of WARMUP and ISOLATE (R91, R112, R113, R115, R116,
R118, R127, R134). -/

namespace Sys2Proof.Machine

/-- The current order record put in place of the one that stands. -/
def State.putCurrent (c : Current) (s : State) : State := { s with engine := { s.engine with current := some c } }

section
variable {s : State} {c : Current} {tgt : Target} {conn : Conn}

/-! ### The current order and its line (R13, R111) -/

theorem State.withCurrent_eq (current : s.engine.current = some c) (f : Current → Current) :
    s.withCurrent f = s.putCurrent (f c) := by
  rw [State.withCurrent, current]
  rfl

theorem State.setPhase_eq (current : s.engine.current = some c) (ph : Phase) :
    s.setPhase ph = s.putCurrent { c with phase := ph } := State.withCurrent_eq current _

theorem State.setConn_eq (current : s.engine.current = some c) (withdrawn : (s.line c.order.line).state = .withdrawn tgt conn)
    (k : Conn) : s.setConn k = s.setLineState c.order.line (.withdrawn tgt k) := by
  simp only [State.setConn, current, withdrawn]

theorem State.leaveBus_eq (current : s.engine.current = some c)
    (withdrawn : (s.line c.order.line).state = .withdrawn tgt conn) (settled : Nat → Phase) : s.leaveBus settled =
      ((s.setDrive false).setLineState c.order.line (.withdrawn tgt .offBus)).putCurrent
        { c with phase := settled (s.now + 8000) } := by
  have opened := State.setConn_eq (s := s.setDrive false) current withdrawn .offBus
  rw [State.leaveBus, opened]
  exact State.setPhase_eq (by simpa using current) _

/-! ### A level reached (R91) -/

theorem State.levelReached_idle (idle : s.engine.current = none) : s.levelReached = s := by
  simp only [State.levelReached, idle]

theorem State.levelReached_foreign (current : s.engine.current = some c) (phase : c.phase = .foreign none) :
    s.levelReached = s.putCurrent { c with phase := .foreign (some (s.now + 100000)) } := by
  simp only [State.levelReached, current, phase]
  exact State.setPhase_eq current _

theorem State.levelReached_step (current : s.engine.current = some c) {k : Nat} {st : HostStep}
    (phase : c.phase = .step k none) (step : c.order.steps[k - 1]? = some st) :
    s.levelReached = s.putCurrent { c with phase := .step k (some (s.now + 1000 * st.window)) } := by
  simp only [State.levelReached, current, phase, TestOrder.windowOf, step]
  exact State.setPhase_eq current _

theorem State.levelReached_exitRamp (current : s.engine.current = some c) {x : ExitRec} (phase : c.phase = .exit x)
    (ramp : x.stage = .ramp) : s.levelReached = s.leaveBus fun e => .exit { x with stage := .settle e } := by
  simp only [State.levelReached, current, phase, ramp]

theorem State.levelReached_other (current : s.engine.current = some c) (foreign : c.phase ≠ .foreign none)
    (step : ∀ k, c.phase ≠ .step k none) (release : c.phase ≠ .releaseRamp)
    (exit : ∀ x, c.phase = .exit x → x.stage ≠ .ramp) : s.levelReached = s := by
  simp only [State.levelReached, current]
  split
  case h_1 is => exact absurd is foreign
  case h_2 k is => exact absurd is (step k)
  case h_3 is => exact absurd is release
  case h_4 x is =>
    split
    case h_1 ramp => exact absurd ramp (exit x is)
    case h_2 => rfl
  case h_5 => rfl

/-! ### The timers of WARMUP and ISOLATE (R112, R113) -/

theorem State.endWarmup_eq (current : s.engine.current = some c) : s.endWarmup =
    match c.phase with
    | .warmup e => if e ≤ s.now then s.setPhase (.firstSettle (s.now + Config.settleTime)) else s
    | _ => s := by
  rw [State.endWarmup, current]
  obtain ⟨order, phase, value, results, soFar⟩ := c
  cases phase <;> rfl

theorem State.endFirstSettle_eq (current : s.engine.current = some c) : s.endFirstSettle =
    match c.phase with
    | .firstSettle e =>
      if e ≤ s.now then (s.setConn .onBus).setPhase (.secondSettle (s.now + Config.settleTime)) else s
    | _ => s := by
  rw [State.endFirstSettle, current]
  obtain ⟨order, phase, value, results, soFar⟩ := c
  cases phase <;> rfl

theorem State.endSecondSettle_eq (current : s.engine.current = some c) : s.endSecondSettle =
    match c.phase with
    | .secondSettle e =>
      if e ≤ s.now then ((s.setDrive true).setPhase (.foreign none)).load .rest Config.exitExp Config.exitPeriod else s
    | _ => s := by
  rw [State.endSecondSettle, current]
  obtain ⟨order, phase, value, results, soFar⟩ := c
  cases phase <;> rfl

theorem exec_warmupTimerExpiry (t : Nat) (s : State) :
    exec (.warmupTimerExpiry t) s = .next (s.event t State.endWarmup) := rfl

theorem exec_firstSettleExpiry (t : Nat) (s : State) :
    exec (.firstSettleExpiry t) s = .next (s.event t State.endFirstSettle) := rfl

theorem exec_secondSettleExpiry (t : Nat) (s : State) :
    exec (.secondSettleExpiry t) s = .next (s.event t State.endSecondSettle) := rfl

/-- FOREIGN begins: the generator, at rest already, settles within the load, which opens the window (R91, R115). -/
theorem State.beginForeign_eq (current : s.engine.current = some c) (rest : s.gen.code = 2048) :
    ((s.setDrive true).setPhase (.foreign none)).load .rest Config.exitExp Config.exitPeriod =
      ({ s with gen := { code := 2048, drive := true, program := .rest, exp := 5, period := 1, motion := .settled,
                         sine := none, dir := none, next := none } } : State).putCurrent
        { c with phase := .foreign (some (s.now + 100000)) } := by
  have on : (s.setDrive true).engine.current = some c := current
  rw [State.setPhase_eq on, State.load_settles rest]
  refine (State.levelReached_foreign rfl rfl).trans ?_
  have code : s.gen.code = 2048 := rest
  simp only [State.putCurrent, State.setDrive, Program.startIndex, Program.landingDir, Program.moves, code]
  rfl

end

/-- Settles O40: by the phase. -/
theorem engineTimers : Obligations.EngineTimers := by
  refine ⟨fun s idle => ⟨State.levelReached_idle idle, fun t running => ?_⟩, fun s c tgt conn current withdrawn => ?_⟩
  · have idle' : (s.advance t).engine.current = none := idle
    rw [exec_warmupTimerExpiry, exec_firstSettleExpiry, exec_secondSettleExpiry, State.event_running running,
      State.event_running running, State.event_running running]
    simp only [State.endWarmup, State.endFirstSettle, State.endSecondSettle, idle', and_self]
  · intro at_ bus off
    refine ⟨State.levelReached_foreign current, fun k st => State.levelReached_step current, fun release => ?_,
      fun x exit ramp => ?_, State.levelReached_other current, fun t running => ?_⟩
    · exact (State.levelReached_of_releaseRamp current release).trans (State.leaveBus_eq current withdrawn _)
    · exact (State.levelReached_exitRamp current exit ramp).trans (State.leaveBus_eq current withdrawn _)
    · intro a now
      have current' : a.engine.current = some c := current
      have withdrawn' : (a.line c.order.line).state = .withdrawn tgt conn := withdrawn
      rw [exec_warmupTimerExpiry, exec_firstSettleExpiry, exec_secondSettleExpiry, State.event_running running,
        State.event_running running, State.event_running running, State.endWarmup_eq current',
        State.endFirstSettle_eq current', State.endSecondSettle_eq current']
      refine ⟨fun other => ?_, fun other => ?_, fun other => ?_, fun e phase => ?_, fun e phase => ?_,
        fun e phase due rest => ?_, fun e phase early => ?_⟩
      · split
        case h_1 e is => exact absurd is (other e)
        case h_2 => rfl
      · split
        case h_1 e is => exact absurd is (other e)
        case h_2 => rfl
      · split
        case h_1 e is => exact absurd is (other e)
        case h_2 => rfl
      · rw [phase]
        exact congrArg (fun v => Host.Outcome.next (if e ≤ now then v else a)) (State.setPhase_eq current' _)
      · have closed := State.setConn_eq current' withdrawn' .onBus
        have begun : (a.setLineState c.order.line (.withdrawn tgt .onBus)).engine.current = some c := by
          simpa using current'
        rw [phase]
        dsimp only
        rw [closed, State.setPhase_eq begun]
        rfl
      · rw [phase]
        dsimp only
        have rest' : a.gen.code = 2048 := rest
        have begun := State.beginForeign_eq current' rest'
        exact congrArg _ ((if_pos due).trans begun)
      · rw [phase]
        exact congrArg _ (if_neg (Nat.not_le.mpr early))

end Sys2Proof.Machine
end

section
/-! The readings of the front end (R114 to R116, R118). -/

namespace Sys2Proof.Machine

theorem SoFar.after_eq (o : SoFar) (v : Verdict) : o.after v = if v = .fail ∧ o = .pass then .fail else o := by
  cases v <;> cases o <;> rfl

section
variable {s : State} {c : Current}

theorem State.setPhase_putCurrent (ph : Phase) (c : Current) (s : State) :
    (s.putCurrent c).setPhase ph = s.putCurrent { c with phase := ph } := State.setPhase_eq rfl ph

theorem State.beginStep_eq {o : TestOrder} {k : Nat} {st : HostStep} (step : o.steps[k - 1]? = some st) :
    s.beginStep o k = (s.setPhase (.step k none)).load st.stim.program st.exp st.period := by
  simp only [State.beginStep, step]

/-- The reading of FOREIGN at the hazard limit (R115). -/
theorem State.foreignReading_hazard (current : s.engine.current = some c) {v : Nat} (hazard : 10 * s.params.hazardLimit ≤ v) :
    s.foreignReading c v =
      (s.putCurrent { c with foreignValue := some v, soFar := .hazard, phase := .releaseRamp }).load .rest 5 1 := by
  rw [State.foreignReading, if_pos (by omega), State.withCurrent_eq current, State.beginRelease, State.setPhase_putCurrent]
  rfl

/-- The reading of FOREIGN below the limit: STEP 1 begins (R115). -/
theorem State.foreignReading_below (current : s.engine.current = some c) {v : Nat} (below : v < 10 * s.params.hazardLimit)
    {st : HostStep} (step : c.order.steps[0]? = some st) : s.foreignReading c v =
      (s.putCurrent { c with foreignValue := some v, phase := .step 1 none }).load st.stim.program st.exp st.period := by
  rw [State.foreignReading, if_neg (by omega), State.withCurrent_eq current,
    State.beginStep_eq (show c.order.steps[1 - 1]? = some st from step), State.setPhase_putCurrent]

theorem Current.judged_eq (c : Current) (st : HostStep) (v : Nat) : c.judged st v = { c with
    results := c.results ++ [{ kind := st.stim.kind, value := v, verdict := st.verdict v }]
    soFar := if st.verdict v = .fail ∧ c.soFar = .pass then .fail else c.soFar } := by
  rw [Current.judged, SoFar.after_eq]

theorem State.stepReading_eq (current : s.engine.current = some c) {k : Nat} {st : HostStep}
    (step : c.order.steps[k - 1]? = some st) (v : Nat) : s.stepReading c k v =
      if k < c.order.steps.length then (s.putCurrent (c.judged st v)).beginStep c.order (k + 1)
      else (s.putCurrent (c.judged st v)).beginRelease st.exp st.period := by
  simp only [State.stepReading, step, State.withCurrent_eq current]
  rfl

theorem State.stepReading_next (current : s.engine.current = some c) {k : Nat} {st next : HostStep}
    (step : c.order.steps[k - 1]? = some st) (more : k < c.order.steps.length) (then_ : c.order.steps[k]? = some next)
    (v : Nat) : s.stepReading c k v =
      (s.putCurrent { c.judged st v with phase := .step (k + 1) none }).load next.stim.program next.exp next.period := by
  rw [State.stepReading_eq current step, if_pos more,
    State.beginStep_eq (show c.order.steps[k + 1 - 1]? = some next from then_), State.setPhase_putCurrent]

theorem State.stepReading_last (current : s.engine.current = some c) {k : Nat} {st : HostStep}
    (step : c.order.steps[k - 1]? = some st) (last : c.order.steps.length ≤ k) (v : Nat) : s.stepReading c k v =
      (s.putCurrent { c.judged st v with phase := .releaseRamp }).load .rest st.exp st.period := by
  rw [State.stepReading_eq current step, if_neg (Nat.not_lt.mpr last), State.beginRelease, State.setPhase_putCurrent]

/-! ### By the phase and the kind of reading (R114) -/

theorem State.takeReading_idle (idle : s.engine.current = none) (r : Reading) : s.takeReading r = s := by
  simp only [State.takeReading, idle]

theorem State.takeReading_foreign (current : s.engine.current = some c) {w : Nat} (phase : c.phase = .foreign (some w))
    (x y z : Half) : s.takeReading (.foreign x y z) = s.foreignReading c (max x.toNat (max y.toNat z.toNat)) := by
  simp only [State.takeReading, current, phase]

theorem State.takeReading_step (current : s.engine.current = some c) {k w : Nat} (phase : c.phase = .step k (some w))
    (v : Half) : s.takeReading (.value v) = s.stepReading c k v.toNat := by
  simp only [State.takeReading, current, phase]

theorem State.takeReading_closed (current : s.engine.current = some c) (foreign : ∀ w, c.phase ≠ .foreign (some w))
    (step : ∀ k w, c.phase ≠ .step k (some w)) (r : Reading) : s.takeReading r = s := by
  simp only [State.takeReading, current]
  split
  case h_1 is => exact absurd is (foreign _)
  case h_2 is => exact absurd is (step _ _)
  case h_3 => rfl

theorem State.takeReading_foreign_value (current : s.engine.current = some c) {w : Nat}
    (phase : c.phase = .foreign (some w)) (v : Half) : s.takeReading (.value v) = s := by
  simp only [State.takeReading, current, phase]

theorem State.takeReading_step_foreign (current : s.engine.current = some c) {k w : Nat}
    (phase : c.phase = .step k (some w)) (x y z : Half) : s.takeReading (.foreign x y z) = s := by
  simp only [State.takeReading, current, phase]

end

/-- A reading of a running part, by what the engine makes of it. -/
theorem exec_reading {s v : State} {t : Nat} {r : Reading} (running : s.running = true)
    (taken : (s.advance t).takeReading r = v) : exec (.measurementReading t r) s = .next v := by
  have row : exec (.measurementReading t r) s = .next (s.event t (State.takeReading r)) := rfl
  rw [row, State.event_running running, taken]

/-- Settles O41: by the phase, the kind of the reading, and its value. -/
theorem readings : Obligations.Readings := by
  refine ⟨fun t s r running idle => exec_reading running (State.takeReading_idle (s := s.advance t) idle r),
    fun t s c running current => ?_⟩
  intro a at_ begin_
  have current' : a.engine.current = some c := current
  refine ⟨fun w x y z phase => ?_, fun w k v st phase step => ?_,
    fun r foreign step => exec_reading running (State.takeReading_closed current' foreign step r),
    fun w v phase => exec_reading running (State.takeReading_foreign_value current' phase v),
    fun k w x y z phase => exec_reading running (State.takeReading_step_foreign current' phase x y z)⟩
  · have taken := State.takeReading_foreign current' phase x y z
    intro v
    exact ⟨fun hazard => exec_reading running (taken.trans (State.foreignReading_hazard current' hazard)),
      fun below st first => exec_reading running (taken.trans (State.foreignReading_below current' below first))⟩
  · have taken := State.takeReading_step current' phase v
    intro judged
    refine ⟨fun next more then_ => ?_, fun last => ?_⟩
    · have read := State.stepReading_next current' step more then_ v.toNat
      rw [Current.judged_eq] at read
      exact exec_reading running (taken.trans read)
    · have read := State.stepReading_last current' step last v.toNat
      rw [Current.judged_eq] at read
      exact exec_reading running (taken.trans read)

end Sys2Proof.Machine
end

section
/-! The hazard crossing and the beginning of a protective exit (R114, R130, R131, R133 to R135, R137, R138). -/

namespace Sys2Proof.Machine

theorem ExitRec.note_eq (cause : Cause) (x : ExitRec) : x.note cause =
    { x with second := if x.second = none ∧ x.cause ≠ cause then some cause else x.second } := by
  have test : (x.second.isNone && x.cause != cause) = true ↔ x.second = none ∧ x.cause ≠ cause := by
    rw [Bool.and_eq_true, Option.isNone_iff_eq_none, bne_iff_ne]
  unfold ExitRec.note
  by_cases noted : x.second = none ∧ x.cause ≠ cause
  · rw [if_pos (test.mpr noted), if_pos noted]
  · rw [if_neg (mt test.mp noted), if_neg noted]

theorem State.exitModeFor_cut {s : State} {cause : Cause} (cuts : cause = .hazard ∨ cause = .surge ∨ s.params.exitMode = .cut) :
    s.exitModeFor cause = .cut := by
  unfold State.exitModeFor
  split
  · rfl
  · rfl
  · rcases cuts with hazard | surge | mode
    · contradiction
    · contradiction
    · exact mode

theorem State.exitModeFor_param {s : State} {cause : Cause} (hazard : cause ≠ .hazard) (surge : cause ≠ .surge) :
    s.exitModeFor cause = s.params.exitMode := by
  cases cause with
  | hazard => exact absurd rfl hazard
  | surge => exact absurd rfl surge
  | _ => rfl

section
variable {s : State} {c : Current} {tgt : Target} {conn : Conn}

/-- A cut with the open request (R133). -/
theorem State.cutOff_eq (current : s.engine.current = some c)
    (withdrawn : (s.line c.order.line).state = .withdrawn tgt conn) :
    s.cutOff = s.cutGen.setLineState c.order.line (.withdrawn tgt .offBus) :=
  State.setConn_eq (s := s.cutGen) current withdrawn .offBus

theorem State.cutOff_setPhase (current : s.engine.current = some c)
    (withdrawn : (s.line c.order.line).state = .withdrawn tgt conn) (ph : Phase) : s.cutOff.setPhase ph =
      (s.cutGen.setLineState c.order.line (.withdrawn tgt .offBus)).putCurrent { c with phase := ph } := by
  rw [State.cutOff_eq current withdrawn]
  exact State.setPhase_eq (by simpa using current) ph

theorem State.onBus_eq (current : s.engine.current = some c)
    (withdrawn : (s.line c.order.line).state = .withdrawn tgt conn) : s.onBus = (conn == .onBus) := by
  simp only [State.onBus, current, withdrawn]
  cases conn <;> rfl

/-! ### The beginning of an exit, by its mode (R130, R133 to R135) -/

theorem State.beginExit_cut {cause : Cause} (mode : s.exitModeFor cause = .cut) : s.beginExit cause =
    s.cutOff.setPhase (.exit (exitRecord cause .cut (.settle (s.now + 8000)))) := by
  simp only [State.beginExit, mode]
  rfl

theorem State.beginExit_ramp {cause : Cause} (mode : s.exitModeFor cause = .ramp) : s.beginExit cause =
    (s.setPhase (.exit (exitRecord cause .ramp .ramp))).load .rest 5 1 := by
  simp only [State.beginExit, mode]
  rfl

theorem State.beginExit_dwell {cause : Cause} (mode : s.exitModeFor cause = .dwell) : s.beginExit cause =
    if s.onBus then s.cutGen.setPhase (.exit (exitRecord cause .dwell (.dwell (s.now + 500000))))
    else s.cutOff.setPhase (.exit (exitRecord cause .dwell (.settle (s.now + 8000)))) := by
  simp only [State.beginExit, mode]
  rfl

/-! ### An exit escalated, by its stage (R137) -/

theorem State.escalate_ramp {cause : Cause} {x : ExitRec} (ramp : x.stage = .ramp) : s.escalate cause x =
    s.cutOff.setPhase (.exit { x.note cause with mode := .cut, stage := .settle (s.now + 8000) }) := by
  simp only [State.escalate, ramp]
  rfl

theorem State.escalate_dwell {cause : Cause} {x : ExitRec} {e : Nat} (dwell : x.stage = .dwell e) : s.escalate cause x =
    (s.setConn .offBus).setPhase (.exit { x.note cause with mode := .cut, stage := .settle (s.now + 8000) }) := by
  simp only [State.escalate, dwell]
  rfl

theorem State.escalate_settle {cause : Cause} {x : ExitRec} {e : Nat} (settle : x.stage = .settle e) :
    s.escalate cause x = s.setPhase (.exit (x.note cause)) := by
  simp only [State.escalate, settle]

/-! ### The hazard crossing by the phase (R131) -/

theorem State.takeHazard_running (current : s.engine.current = some c)
    (phase : (∃ w, c.phase = .foreign w) ∨ ∃ k w, c.phase = .step k w) : s.takeHazard = s.beginExit .hazard := by
  rcases phase with ⟨w, phase⟩ | ⟨k, w, phase⟩ <;> simp only [State.takeHazard, current, phase]

theorem State.takeHazard_exit (current : s.engine.current = some c) {x : ExitRec} (phase : c.phase = .exit x) :
    s.takeHazard = s.escalate .hazard x := by
  simp only [State.takeHazard, current, phase]

theorem State.takeHazard_other (current : s.engine.current = some c) (foreign : ∀ w, c.phase ≠ .foreign w)
    (step : ∀ k w, c.phase ≠ .step k w) (exit : ∀ x, c.phase ≠ .exit x) : s.takeHazard = s := by
  simp only [State.takeHazard, current]

end

theorem exec_hazardCrossing_eq {s v : State} {t : Nat} (running : s.running = true) (taken : (s.advance t).takeHazard = v) :
    exec (.hazardCrossing t) s = .next v := by
  have row : exec (.hazardCrossing t) s = .next (s.event t State.takeHazard) := rfl
  rw [row, State.event_running running, taken]

/-- Settles O43: the crossing by the phase and the stage; the beginning of an exit by its mode and the test relay. -/
theorem hazardAndExits : Obligations.HazardAndExits := by
  refine ⟨fun t s running idle => exec_hazardCrossing_eq running ?_, fun s => rfl, fun s c tgt conn current withdrawn => ?_⟩
  · have idle' : (s.advance t).engine.current = none := idle
    simp only [State.takeHazard, idle']
  · intro at_ open_ cut rec_
    refine ⟨fun t running => ?_, fun cause => ?_⟩
    · intro a settle
      have current' : a.engine.current = some c := current
      have withdrawn' : (a.line c.order.line).state = .withdrawn tgt conn := withdrawn
      refine ⟨fun phase => ?_, fun x phase => ?_,
        fun foreign step exit => exec_hazardCrossing_eq running (State.takeHazard_other current' foreign step exit)⟩
      · have begun := State.beginExit_cut (s := a) (State.exitModeFor_cut (.inl rfl))
        rw [State.cutOff_setPhase current' withdrawn'] at begun
        exact exec_hazardCrossing_eq running ((State.takeHazard_running current' phase).trans begun)
      · intro y
        have taken := State.takeHazard_exit current' phase
        refine ⟨fun ramp => ?_, fun e dwell => ?_, fun e still => ?_⟩
        · rw [State.escalate_ramp ramp, State.cutOff_setPhase current' withdrawn', ExitRec.note_eq] at taken
          exact exec_hazardCrossing_eq running taken
        · have opened : (a.setLineState c.order.line (.withdrawn tgt .offBus)).engine.current = some c := by
            simpa using current'
          rw [State.escalate_dwell dwell, State.setConn_eq current' withdrawn', State.setPhase_eq opened,
            ExitRec.note_eq] at taken
          exact exec_hazardCrossing_eq running taken
        · rw [State.escalate_settle still, State.setPhase_eq current', ExitRec.note_eq] at taken
          exact exec_hazardCrossing_eq running taken
    · intro settle
      have bus := State.onBus_eq current withdrawn
      refine ⟨fun cuts => ?_, fun hazard surge mode => ?_, fun hazard surge mode on => ?_, fun hazard surge mode off => ?_⟩
      · rw [State.beginExit_cut (State.exitModeFor_cut cuts), State.cutOff_setPhase current withdrawn]
        rfl
      · rw [State.beginExit_ramp ((State.exitModeFor_param hazard surge).trans mode), State.setPhase_eq current]
        rfl
      · have cutCurrent : s.cutGen.engine.current = some c := current
        have closed : s.onBus = true := by rw [bus, on]; rfl
        rw [State.beginExit_dwell ((State.exitModeFor_param hazard surge).trans mode), if_pos closed,
          State.setPhase_eq cutCurrent]
        rfl
      · have opened : ¬s.onBus = true := by rw [bus, off]; exact Bool.false_ne_true
        rw [State.beginExit_dwell ((State.exitModeFor_param hazard surge).trans mode), if_neg opened,
          State.cutOff_setPhase current withdrawn]
        rfl

end Sys2Proof.Machine
end

section
/-! The end of an order (R118 to R123, R135, R136, R15): the return of its line, its result, and the settle and dwell
timers. -/

namespace Sys2Proof.Machine

/-! ### The return of the line (R15, R119) -/

/-- The return that an order's end makes, with the machine after it. -/
def State.returned (l : LineNo) (tgt back : Target) (v : State) : ReturnState × State :=
  match back with
  | .idle => (.idle, (if clearsFail tgt then v.setFail l 0 else v).moveLine l .idle .test)
  | .quarantined q => (.quarantined q, v.moveLine l (.quarantined q) .test)
  | .training =>
    if v.admits (v.costOf l) then (.training, v.moveLine l (.training v.newDeadline) .test)
    else (.shed, (v.setShed (l :: v.energy.shed)).moveLine l .shed .test)

section
variable {v : State} {o : TestOrder} {tgt : Target} {conn : Conn}

theorem State.resolveReturn_eq (outcome : TestOutcome) (tgt : Target) :
    v.resolveReturn o outcome tgt = (v.returned o.line tgt (o.flagged outcome tgt)).1 := by
  unfold State.resolveReturn State.returned
  cases o.flagged outcome tgt with
  | idle => rfl
  | quarantined q => rfl
  | training =>
    dsimp only
    split <;> rfl

/-- A line that goes back to TRAINING has been admitted, so that the shedding pass finds nothing to do (R119, R148). -/
theorem State.returnLine_eq (withdrawn : (v.line o.line).state = .withdrawn tgt conn) (outcome : TestOutcome) :
    v.returnLine o.line tgt (v.resolveReturn o outcome tgt) = (v.returned o.line tgt (o.flagged outcome tgt)).2 := by
  rw [State.resolveReturn_eq]
  cases back : o.flagged outcome tgt with
  | idle => rfl
  | quarantined q => rfl
  | training =>
    simp only [State.returned]
    split
    case isTrue admitted => exact State.returnLine_training withdrawn admitted
    case isFalse => rfl

/-- The return written out, with the costs and the budget of a machine whose lines and supply are the same. -/
theorem State.returned_written {s : State} {l : LineNo} (lines : v.lines = s.lines) (energy : v.energy = s.energy)
    (committed : v.committed = s.committed) (params : v.params = s.params) (back : Target) :
    v.returned l tgt back = match back with
      | .idle => (.idle, (match tgt with
          | .quarantined _ => v.setLine l fun r => { r with failCount := 0 }
          | _ => v).moveLine l .idle .test)
      | .quarantined q => (.quarantined q, v.moveLine l (.quarantined q) .test)
      | .training =>
        if Decidable.decide (s.committed + (s.line l).profile.cost ≤ s.budget) = true then
          (.training, v.moveLine l (.training (v.now + 1000000 * s.params.trainTimeout)) .test)
        else (.shed, ({ v with energy := { s.energy with shed := l :: s.energy.shed } }).moveLine l .shed .test) := by
  have line : v.line l = s.line l := by rw [State.line, State.line, lines]
  have budget : v.budget = s.budget := State.budget_congr (by rw [energy]) (by rw [energy])
  cases back with
  | idle => cases tgt <;> rfl
  | quarantined q => rfl
  | training => simp only [State.returned, State.admits, State.costOf, State.setShed, State.newDeadline, secs, committed,
      line, budget, energy, params]

/-! ### The result and the idle engine (R121 to R123) -/

theorem Engine.store_eq (r : Result) (e : Engine) : e.store r = { e with
    results := if e.results.length < 16 then e.results ++ [r] else e.results.drop 1 ++ [r] } := by
  have capacity : Config.resultCapacity = 16 := rfl
  unfold Engine.store
  rw [capacity]
  split <;> rfl

theorem State.idleEngine_notify (n : Notice) (s : State) : (s.notify n).idleEngine = s.idleEngine.notify n := by
  unfold State.notify
  have same : s.idleEngine.notices = s.notices := rfl
  rw [same]
  split <;> rfl

theorem State.idleEngine_storeResult (r : Result) (w : State) : (w.storeResult r).idleEngine =
    ({ w with engine := { w.engine with
        current := none
        results := if w.engine.results.length < 16 then w.engine.results ++ [r]
          else w.engine.results.drop 1 ++ [r] } }).notify (.test r.id r.origin r.outcome) := by
  rw [State.storeResult, State.idleEngine_notify, Engine.store_eq]
  rfl

variable {s : State} {c : Current}

theorem State.finishOrder_returned (withdrawn : (s.line c.order.line).state = .withdrawn tgt conn) : s.finishOrder c =
    (let m := (s.setTestPower false).returned c.order.line tgt (c.order.flagged c.outcome.1 tgt)
     ((m.2.storeResult (c.result m.1)).idleEngine.restoringPass).attempt) := by
  have withdrawn' : ((s.setTestPower false).line c.order.line).state = .withdrawn tgt conn := withdrawn
  have target : (s.setTestPower false).targetOf c.order.line = tgt := by rw [State.targetOf, withdrawn']
  rw [State.finishOrder_eq, State.reported, target]
  dsimp only
  rw [State.returnLine_eq withdrawn', State.resolveReturn_eq]

/-! ### The timers (R118, R135, R136) -/

theorem State.endRelease_settle (current : s.engine.current = some c) {e : Nat} (phase : c.phase = .releaseSettle e) :
    s.endRelease = if e ≤ s.now then s.finishOrder c else s := by
  simp only [State.endRelease, current, phase]

theorem State.endExit_settle (current : s.engine.current = some c) {x : ExitRec} {e : Nat} (phase : c.phase = .exit x)
    (stage : x.stage = .settle e) : s.endExit = if e ≤ s.now then s.finishOrder c else s := by
  simp only [State.endExit, current, phase, stage]

theorem State.endDwell_dwell (current : s.engine.current = some c) {x : ExitRec} {e : Nat} (phase : c.phase = .exit x)
    (stage : x.stage = .dwell e) : s.endDwell =
      if e ≤ s.now then (s.setConn .offBus).setPhase (.exit { x with stage := .settle (s.now + 8000) }) else s := by
  simp only [State.endDwell, current, phase, stage]
  rfl

theorem State.endRelease_other (current : s.engine.current = some c) (other : ∀ e, c.phase ≠ .releaseSettle e) :
    s.endRelease = s := by
  simp only [State.endRelease, current]

theorem State.endExit_other (current : s.engine.current = some c)
    (other : ∀ x e, c.phase = .exit x → x.stage ≠ .settle e) : s.endExit = s := by
  simp only [State.endExit, current]
  split
  case h_1 x phase =>
    split
    case h_1 e stage => exact absurd stage (other x e phase)
    case h_2 => rfl
  case h_2 => rfl

theorem State.endDwell_other (current : s.engine.current = some c)
    (other : ∀ x e, c.phase = .exit x → x.stage ≠ .dwell e) : s.endDwell = s := by
  simp only [State.endDwell, current]
  split
  case h_1 x phase =>
    split
    case h_1 e stage => exact absurd stage (other x e phase)
    case h_2 => rfl
  case h_2 => rfl

theorem exec_releaseSettleExpiry (t : Nat) (s : State) :
    exec (.releaseSettleExpiry t) s = .next (s.event t State.endRelease) := rfl

theorem exec_exitSettleExpiry (t : Nat) (s : State) : exec (.exitSettleExpiry t) s = .next (s.event t State.endExit) := rfl

theorem exec_dwellExpiry (t : Nat) (s : State) : exec (.dwellExpiry t) s = .next (s.event t State.endDwell) := rfl

end

/-- Settles O44: the return, the result and the next attempt are made alike by every end of an order. -/
theorem orderEnds : Obligations.OrderEnds := by
  refine ⟨fun t s running idle => ?_, fun t s c running current => ?_, ?_⟩
  · have idle' : (s.advance t).engine.current = none := idle
    rw [exec_releaseSettleExpiry, exec_exitSettleExpiry, exec_dwellExpiry, State.event_running running,
      State.event_running running, State.event_running running]
    simp only [State.endRelease, State.endExit, State.endDwell, idle', and_self]
  · have current' : (s.advance t).engine.current = some c := current
    rw [exec_releaseSettleExpiry, exec_exitSettleExpiry, exec_dwellExpiry, State.event_running running,
      State.event_running running, State.event_running running]
    exact ⟨fun other => congrArg Host.Outcome.next (State.endRelease_other current' other),
      fun other => congrArg Host.Outcome.next (State.endExit_other current' other),
      fun other => congrArg Host.Outcome.next (State.endDwell_other current' other)⟩
  · intro t s c tgt conn running current withdrawn a now l ended
    have current' : a.engine.current = some c := current
    have withdrawn' : (a.line c.order.line).state = .withdrawn tgt conn := withdrawn
    have finished (outcome : TestOutcome) (cause : Option Cause) (x : Option ExitReport)
        (is : c.outcome = (outcome, cause)) (report : c.phase.exitReport = x) :
        a.finishOrder c = ended outcome cause x := by
      have same : (a.setTestPower false).committed = s.committed :=
        State.committed_congr (fun _ => ⟨rfl, rfl⟩) rfl rfl
      rw [State.finishOrder_returned withdrawn']
      dsimp only
      rw [State.idleEngine_storeResult, Current.result, is, report,
        State.returned_written (s := s) (v := a.setTestPower false) rfl rfl same rfl]
      rfl
    rw [exec_releaseSettleExpiry, exec_exitSettleExpiry, exec_dwellExpiry, State.event_running running,
      State.event_running running, State.event_running running]
    refine ⟨fun e phase => ?_, fun x e phase stage => ?_, fun x e phase stage => ?_⟩
    · rw [State.endRelease_settle current' phase]
      refine congrArg Host.Outcome.next (if_congr Iff.rfl (finished _ _ _ ?_ ?_) rfl)
      · simp only [Current.outcome, phase]
        cases c.soFar <;> rfl
      · rw [phase]
        rfl
    · rw [State.endExit_settle current' phase stage]
      refine congrArg Host.Outcome.next (if_congr Iff.rfl ?_ rfl)
      dsimp only
      split
      case isTrue hazard =>
        exact finished _ _ _ (by simp only [Current.outcome, phase, hazard, if_true]) (by rw [phase]; rfl)
      case isFalse other =>
        exact finished _ _ _ (by simp only [Current.outcome, phase, other, if_false]) (by rw [phase]; rfl)
    · rw [State.endDwell_dwell current' phase stage, State.setConn_eq current' withdrawn']
      refine congrArg Host.Outcome.next (if_congr Iff.rfl ?_ rfl)
      exact State.setPhase_eq (by exact current') _

end Sys2Proof.Machine
end

section
/-! The passes of the energy manager, one step at a time (R150, R152): the line that is shed next, and why the bounds on
the loops are never met. -/

namespace Sys2Proof.Machine

section
variable {s : State}

theorem State.capPart_eq (low : 1 ≤ s.energy.cap) (high : s.energy.cap ≤ 4) :
    s.capPart = [4, 7, 11, 16].getD (s.energy.cap - 1) 0 := by
  unfold State.capPart
  interval_cases s.energy.cap <;> rfl

theorem classCost_eq {k : Nat} (low : 1 ≤ k) :
    classCost k = if k = 1 then 4 else if k = 2 then 7 else if k = 3 then 11 else 16 := by
  rcases k with _ | _ | _ | _ | k
  · omega
  · rfl
  · rfl
  · rfl
  · simp [classCost]

/-! ### The line that a shedding pass sheds next (R150) -/

/-- Line l goes before line k in the order of shedding: a lower keep class, or at equal class the higher number. -/
def State.ShedsBefore (s : State) (l k : LineNo) : Prop :=
  (s.line l).profile.keep < (s.line k).profile.keep ∨ ((s.line l).profile.keep = (s.line k).profile.keep ∧ k ≤ l)

theorem State.foldl_shedFirst_stays {l : LineNo} (ls : List LineNo)
    (least : ∀ k ∈ ls, (s.line k).state.counted = true → (s.line l).profile.keep ≤ (s.line k).profile.keep) :
    ls.foldl s.shedFirst (some l) = some l := by
  induction ls with
  | nil => rfl
  | cons k ls ih =>
    obtain ⟨first, rest⟩ := List.forall_mem_cons.mp least
    have stays : s.shedFirst (some l) k = some l := by
      unfold State.shedFirst
      split
      case isTrue counted => exact if_neg (Nat.not_lt.mpr (first counted))
      case isFalse => rfl
    rw [List.foldl_cons, stays, ih rest]

/-- No best so far, or one of a higher keep class than line l's: what the lines above l leave. -/
def State.Yields (s : State) (l : LineNo) (best : Option LineNo) : Prop :=
  ∀ b, best = some b → (s.line l).profile.keep < (s.line b).profile.keep

theorem State.shedFirst_yields {l k : LineNo} {best : Option LineNo} (yields : s.Yields l best)
    (above : (s.line k).state.counted = true → (s.line l).profile.keep < (s.line k).profile.keep) :
    s.Yields l (s.shedFirst best k) := by
  unfold State.shedFirst
  split
  case isTrue counted =>
    have taken : s.Yields l (some k) := fun b is => Option.some.inj is ▸ above counted
    split
    · exact taken
    · split
      · exact taken
      · exact yields
  case isFalse => exact yields

theorem State.foldl_shedFirst_yields {l : LineNo} (ls : List LineNo) {best : Option LineNo} (yields : s.Yields l best)
    (above : ∀ k ∈ ls, (s.line k).state.counted = true → (s.line l).profile.keep < (s.line k).profile.keep) :
    s.Yields l (ls.foldl s.shedFirst best) := by
  induction ls generalizing best with
  | nil => exact yields
  | cons k ls ih =>
    obtain ⟨first, rest⟩ := List.forall_mem_cons.mp above
    exact ih (State.shedFirst_yields yields first) rest

theorem State.shedFirst_of_yields {l : LineNo} {best : Option LineNo} (yields : s.Yields l best)
    (counted : (s.line l).state.counted = true) : s.shedFirst best l = some l := by
  unfold State.shedFirst
  rw [if_pos counted]
  cases best with
  | none => rfl
  | some b => exact if_pos (yields b rfl)

theorem allLines_reverse_descending : allLines.reverse.Pairwise (· > ·) :=
  List.pairwise_reverse.mpr (List.pairwise_lt_finRange 24)

/-- The counted line that goes before every other is the one shed next. -/
theorem State.shedCandidate_eq {l : LineNo} (counted : (s.line l).state.counted = true)
    (first : ∀ k, (s.line k).state.counted = true → s.ShedsBefore l k) : s.shedCandidate = some l := by
  have listed : l ∈ allLines.reverse := List.mem_reverse.mpr (List.mem_finRange l)
  obtain ⟨above, below, parts⟩ := List.append_of_mem listed
  have ordered := allLines_reverse_descending
  rw [parts, List.pairwise_append] at ordered
  obtain ⟨-, -, higher⟩ := ordered
  have yields : s.Yields l (above.foldl s.shedFirst none) := by
    refine State.foldl_shedFirst_yields above (fun b is => nomatch is) fun k mem isCounted => ?_
    have more : k > l := higher k mem l List.mem_cons_self
    rcases first k isCounted with less | ⟨-, low⟩
    · exact less
    · exact absurd more (not_lt.mpr low)
  rw [State.shedCandidate, parts, List.foldl_append, List.foldl_cons, State.shedFirst_of_yields yields counted]
  refine State.foldl_shedFirst_stays below fun k _ isCounted => ?_
  rcases first k isCounted with less | ⟨same, -⟩
  · exact less.le
  · exact same.le

/-! ### The shedding pass (R150) -/

/-- What a shedding pass can still do before its engine step: a cap step per class above the lowest, a line each. -/
def State.shedSteps (s : State) : Nat := s.energy.cap - 1 + s.countedLines.card

theorem State.shedSteps_setCap (above : 1 < s.energy.cap) : (s.setCap (s.energy.cap - 1)).shedSteps < s.shedSteps := by
  have lines : (s.setCap (s.energy.cap - 1)).countedLines = s.countedLines := rfl
  have cap : (s.setCap (s.energy.cap - 1)).energy.cap = s.energy.cap - 1 := rfl
  rw [State.shedSteps, State.shedSteps, lines, cap]
  omega

theorem State.shedSteps_shedLine {l : LineNo} (counted : (s.line l).state.counted = true) :
    (s.shedLine l).shedSteps < s.shedSteps := by
  have mem : l ∈ s.countedLines := Finset.mem_filter.mpr ⟨Finset.mem_univ l, counted⟩
  have fewer := Finset.card_erase_lt_of_mem mem
  have cap : (s.shedLine l).energy.cap = s.energy.cap := by simp [State.shedLine, State.setShed]
  rw [State.shedSteps, State.shedSteps, State.countedLines_shedLine, cap]
  omega

theorem State.shedSteps_le (high : s.energy.cap ≤ 4) : s.shedSteps ≤ 27 := by
  have lines : s.countedLines.card ≤ 24 := (Finset.card_le_univ _).trans_eq (Fintype.card_fin 24)
  unfold State.shedSteps
  omega

/-- A bound that leaves room for every step is never met. -/
theorem State.shedLoop_succ (n : Nat) {s : State} (room : s.shedSteps < n) : s.shedLoop (n + 1) = s.shedLoop n := by
  induction n generalizing s with
  | zero => omega
  | succ n ih =>
    rw [State.shedLoop, State.shedLoop]
    refine if_congr Iff.rfl rfl ?_
    split
    case isTrue above =>
      have := State.shedSteps_setCap above
      exact ih (by omega)
    case isFalse =>
      cases candidate : s.shedCandidate with
      | none => rfl
      | some l =>
        have := State.shedSteps_shedLine (State.shedCandidate_counted candidate)
        exact ih (by omega)

theorem State.sheddingPass_setCap (high : s.energy.cap ≤ 4) (exceeds : s.budget < s.committed) (above : 1 < s.energy.cap) :
    s.sheddingPass = (s.setCap (s.energy.cap - 1)).sheddingPass := by
  have := State.shedSteps_le high
  have := State.shedSteps_setCap above
  have stepped : s.sheddingPass = (s.setCap (s.energy.cap - 1)).shedLoop 27 := by
    rw [State.sheddingPass, State.shedLoop, if_neg (Nat.not_le.mpr exceeds), if_pos above]
  rw [stepped]
  exact (State.shedLoop_succ 27 (by omega)).symm

theorem State.sheddingPass_shedLine {l : LineNo} (lowest : s.energy.cap = 1) (exceeds : s.budget < s.committed)
    (candidate : s.shedCandidate = some l) : s.sheddingPass = (s.shedLine l).sheddingPass := by
  have := State.shedSteps_le (s := s) (by omega)
  have := State.shedSteps_shedLine (State.shedCandidate_counted candidate)
  have stepped : s.sheddingPass = (s.shedLine l).shedLoop 27 := by
    rw [State.sheddingPass, State.shedLoop, if_neg (Nat.not_le.mpr exceeds), if_neg (by omega), candidate]
  rw [stepped]
  exact (State.shedLoop_succ 27 (by omega)).symm

theorem State.sheddingPass_engine (lowest : s.energy.cap = 1) (exceeds : s.budget < s.committed)
    (bare : ∀ l, (s.line l).state.counted = false) : s.sheddingPass = s.takeEnergyPass := by
  rw [State.sheddingPass, State.shedLoop, if_neg (Nat.not_le.mpr exceeds), if_neg (by omega),
    (State.shedCandidate_eq_none_iff s).mpr bare]

/-! ### The engine step of a shedding pass (R131, R132, R138, R150) -/

variable {c : Current}

theorem State.takeEnergyPass_idle (idle : s.engine.current = none) : s.takeEnergyPass = s := by
  simp only [State.takeEnergyPass, idle]

theorem ExitRec.holdEnergy_eq (x : ExitRec) : x.holdEnergy =
    { x with second := if x.second = none ∧ x.cause ≠ .energy then some .energy else x.second, energyHeld := true } := by
  rw [ExitRec.holdEnergy, ExitRec.note_eq]

theorem State.takeEnergyPass_exit (current : s.engine.current = some c) {x : ExitRec} (phase : c.phase = .exit x) :
    s.takeEnergyPass = s.putCurrent { c with phase := .exit x.holdEnergy } := by
  simp only [State.takeEnergyPass, current, phase]
  exact State.setPhase_eq current _

theorem State.takeEnergyPass_releaseSettle (current : s.engine.current = some c) {e : Nat}
    (phase : c.phase = .releaseSettle e) : s.takeEnergyPass =
      s.putCurrent { c with phase := .exit (exitRecord .energy s.params.exitMode (.settle e)) } := by
  simp only [State.takeEnergyPass, current, phase]
  exact State.setPhase_eq current _

theorem State.takeEnergyPass_other (current : s.engine.current = some c) (exit : ∀ x, c.phase ≠ .exit x)
    (settle : ∀ e, c.phase ≠ .releaseSettle e) : s.takeEnergyPass = s.beginExit .energy := by
  simp only [State.takeEnergyPass, current]

/-! ### The restoring pass (R152) -/

theorem State.restoringPass_restoreLine {l : LineNo} {rest : List LineNo} (top : s.energy.shed = l :: rest)
    (fits : s.committed + (s.line l).profile.cost ≤ s.budget) :
    s.restoringPass = (s.restoreLine l rest).restoringPass := by
  have admitted : s.admits (s.costOf l) = true := decide_eq_true fits
  have left : (s.restoreLine l rest).energy.shed = rest := by simp [State.restoreLine, State.setShed]
  rw [State.restoringPass, State.restoringPass, left, top, List.length_cons, State.restoreLoop]
  simp only [top, if_pos admitted]

/-- The top of the shed list does not fit. -/
def State.TopExceeds (s : State) : Prop := ∀ l ∈ s.energy.shed.head?, s.budget < s.committed + (s.line l).profile.cost

theorem State.restoreLoop_of_topExceeds (exceeds : s.TopExceeds) (n : Nat) : s.restoreLoop n = s := by
  cases n with
  | zero => rfl
  | succ n =>
    rw [State.restoreLoop]
    split
    case h_1 => rfl
    case h_2 l rest top =>
      have least : s.budget < s.committed + (s.line l).profile.cost := exceeds l (by rw [top]; rfl)
      have refused : ¬s.admits (s.costOf l) = true := fun fits => Nat.not_le.mpr least (of_decide_eq_true fits)
      exact if_neg refused

theorem State.restoringPass_of_topExceeds (exceeds : s.TopExceeds) : s.restoringPass = s.raiseLoop 3 := by
  rw [State.restoringPass, State.restoreLoop_of_topExceeds exceeds]

/-- The next cap class is under the ceiling and fits. -/
def State.CanRaise (s : State) : Prop := s.energy.cap < s.params.capCeiling ∧
  s.committed + classCost (s.energy.cap + 1) ≤ s.budget + classCost s.energy.cap

theorem State.raiseLoop_succ (n : Nat) {s : State} (room : s.params.capCeiling - s.energy.cap ≤ n) :
    s.raiseLoop (n + 1) = s.raiseLoop n := by
  induction n generalizing s with
  | zero =>
    rw [State.raiseLoop]
    exact if_neg fun raises => by have := raises.1; omega
  | succ n ih =>
    rw [State.raiseLoop, State.raiseLoop]
    refine if_congr Iff.rfl (ih ?_) rfl
    have cap : (s.setCap (s.energy.cap + 1)).energy.cap = s.energy.cap + 1 := rfl
    have params : (s.setCap (s.energy.cap + 1)).params = s.params := rfl
    rw [cap, params]
    omega

theorem State.TopExceeds.setCap (exceeds : s.TopExceeds) : (s.setCap (s.energy.cap + 1)).TopExceeds := fun l top => by
  have before : s.budget < s.committed + (s.line l).profile.cost := exceeds l top
  have raised := State.committed_setCap (s.energy.cap + 1) s
  have more : classCost s.energy.cap ≤ classCost (s.energy.cap + 1) := classCost_mono (Nat.le_succ _)
  have line : (s.setCap (s.energy.cap + 1)).line l = s.line l := rfl
  have budget : (s.setCap (s.energy.cap + 1)).budget = s.budget := rfl
  rw [line, budget]
  omega

theorem State.restoringPass_setCap (low : 1 ≤ s.energy.cap) (ceiling : s.params.capCeiling ≤ 4) (exceeds : s.TopExceeds)
    (raises : s.CanRaise) : s.restoringPass = (s.setCap (s.energy.cap + 1)).restoringPass := by
  have stepped : s.restoringPass = (s.setCap (s.energy.cap + 1)).raiseLoop 2 := by
    rw [State.restoringPass_of_topExceeds exceeds, State.raiseLoop]
    exact if_pos raises
  have cap : (s.setCap (s.energy.cap + 1)).energy.cap = s.energy.cap + 1 := rfl
  have params : (s.setCap (s.energy.cap + 1)).params = s.params := rfl
  rw [stepped, State.restoringPass_of_topExceeds exceeds.setCap]
  exact (State.raiseLoop_succ 2 (by rw [cap, params]; omega)).symm

theorem State.restoringPass_still (exceeds : s.TopExceeds) (still : ¬s.CanRaise) : s.restoringPass = s := by
  rw [State.restoringPass_of_topExceeds exceeds, State.raiseLoop]
  exact if_neg still

end

theorem LineState.costed_eq (st : LineState) (n : Nat) : (if st.counted = true then n else 0) = match st with
    | .training _ => n
    | .inService => n
    | _ => 0 := by
  cases st <;> rfl

/-- Settles O45: each step of a pass is the step its rule names, followed by the same pass. -/
theorem energyPasses : Obligations.EnergyPasses := by
  refine ⟨fun s => ?_, fun s low below ceiling => ?_⟩
  · intro cost
    refine ⟨?_, ?_, State.capPart_eq, ?_⟩
    · unfold State.budget Budgets.of
      cases s.energy.supply <;> rfl
    · simp only [State.linePart, LineState.costed_eq]
      rfl
    · unfold State.committed State.enginePart
      cases s.engine.current <;> rfl
  · intro counted cost
    have high : s.energy.cap ≤ 4 := below.trans ceiling
    have is (l : LineNo) : (s.line l).state.counted = true ↔ counted l := LineState.counted_iff _
    have none_ (bare : ∀ l, ¬counted l) (l : LineNo) : (s.line l).state.counted = false :=
      Bool.eq_false_iff.mpr fun yes => bare l ((is l).mp yes)
    refine ⟨State.sheddingPass_within, fun exceeds => ⟨State.sheddingPass_setCap high exceeds, fun l lowest mine first => ?_,
      fun lowest bare idle => ?_, fun c lowest bare current => ?_⟩,
      fun l rest => State.restoringPass_restoreLine, fun exceeds => ⟨fun under fits => ?_, fun still => ?_⟩⟩
    · exact State.sheddingPass_shedLine lowest exceeds
        (State.shedCandidate_eq ((is l).mpr mine) fun k yes => first k ((is k).mp yes))
    · exact (State.sheddingPass_engine lowest exceeds (none_ bare)).trans (State.takeEnergyPass_idle idle)
    · rw [State.sheddingPass_engine lowest exceeds (none_ bare)]
      refine ⟨fun x phase => ?_, fun e phase => State.takeEnergyPass_releaseSettle current phase,
        State.takeEnergyPass_other current⟩
      rw [State.takeEnergyPass_exit current phase, ExitRec.holdEnergy_eq]
      rfl
    · have costs (k : Nat) (some_ : 1 ≤ k) : classCost k = cost k := classCost_eq some_
      refine State.restoringPass_setCap low ceiling exceeds ⟨under, ?_⟩
      rw [costs _ low, costs _ (Nat.succ_pos _)]
      exact fits
    · have costs (k : Nat) (some_ : 1 ≤ k) : classCost k = cost k := classCost_eq some_
      refine State.restoringPass_still exceeds fun raises => ?_
      obtain ⟨under, fits⟩ := raises
      rw [costs _ low, costs _ (Nat.succ_pos _)] at fits
      rcases still with same | beyond
      · omega
      · exact Nat.not_le.mpr beyond fits

end Sys2Proof.Machine
end

section
/-! SUPPLY and BUDGET SET (R143 to R147), and the ENERGY cause of an entry into BATT_CRIT (R131, R132, R138, R155). -/

namespace Sys2Proof.Machine

section
variable {s : State} {c : Current}

/-! ### The ENERGY cause of an entry into BATT_CRIT, by the phase -/

theorem State.takeEnergyCrit_idle (idle : s.engine.current = none) : s.takeEnergyCrit = s := by
  simp only [State.takeEnergyCrit, idle]

theorem State.takeEnergyCrit_early (current : s.engine.current = some c) (early : c.phase.early = true) :
    s.takeEnergyCrit = s.beginExit .energy := by
  simp only [State.takeEnergyCrit, current]
  split
  case h_1 x phase =>
    rw [phase] at early
    exact absurd early Bool.false_ne_true
  case h_2 => exact if_pos early

theorem State.takeEnergyCrit_exit (current : s.engine.current = some c) {x : ExitRec} (phase : c.phase = .exit x) :
    s.takeEnergyCrit = s.putCurrent { c with phase := .exit x.holdEnergy } := by
  simp only [State.takeEnergyCrit, current, phase]
  exact State.setPhase_eq current _

theorem State.takeEnergyCrit_release (current : s.engine.current = some c)
    (phase : c.phase = .releaseRamp ∨ ∃ e, c.phase = .releaseSettle e) : s.takeEnergyCrit = s := by
  rcases phase with phase | ⟨e, phase⟩ <;> simp only [State.takeEnergyCrit, current, phase] <;> rfl

/-! ### What stays of the supply account (R143) -/

theorem State.budgetPass_supply (before : Nat) (s : State) : SameSupply (s.budgetPass before) s := by
  unfold State.budgetPass
  split
  · exact State.sheddingPass_supply s
  · split
    · exact State.restoringPass_supply s
    · exact SameSupply.of_energy rfl

theorem SameSupply.budget {u v : State} (h : SameSupply u v) : u.budget = v.budget := State.budget_congr h.1 h.2.2

/-- The supply state entered with its source, before anything hears of it. -/
def State.entered (new : Supply) (source : SupplySource) (s : State) : State :=
  { s with energy := { s.energy with supply := new, source } }

theorem State.changeSupply_supply (new : Supply) (source : SupplySource) (s : State) :
    SameSupply (s.changeSupply new source) (s.entered new source) := by
  have noticed : SameSupply ((s.entered new source).notify (.supply new (s.entered new source).budget source))
      (s.entered new source) := SameSupply.of_energy (by simp)
  refine (State.attempt_supply _).trans ((State.budgetPass_supply _ _).trans ?_)
  split
  case isTrue => exact (SameSupply.of_energy (Onward.takeEnergyCrit _).energy).trans noticed
  case isFalse => exact noticed

/-! ### The requests at the energy manager -/

theorem State.supplyRequest_same {new : Supply} (same : s.energy.supply = new) : s.supplyRequest (some new) =
    (Reply.ok [supplyCode new, byte (s.energy.budgets.of new)], s.entered new .request) := by
  subst same
  have set : s.setSupply s.energy.supply .request = s.entered s.energy.supply .request := if_pos rfl
  rw [State.supplyRequest, set]
  rfl

theorem Supply.code_eq (st : Supply) : st.code = supplyCode st := by cases st <;> rfl

theorem State.supplyRequest_change {new : Supply} (other : s.energy.supply ≠ new) : s.supplyRequest (some new) =
    (Reply.ok [supplyCode new, byte (s.energy.budgets.of new)], s.changeSupply new .request) := by
  have set : s.setSupply new .request = s.changeSupply new .request := if_neg other
  have stays := s.changeSupply_supply new .request
  rw [State.supplyRequest, set, stays.1, stays.budget, Supply.code_eq]
  rfl

theorem State.budgetSet_range {n : Nat} (low : n < 4) (which : Supply) :
    s.budgetSet (some which) n = (Reply.bad .range, s) := by
  have refused : budgetOk n = false := by
    rw [budgetOk, Bool.and_eq_false_iff]
    exact .inl (decide_eq_false (Nat.not_le.mpr low))
  simp only [State.budgetSet, refused]
  rfl

theorem State.putBudget_supply (which : Supply) (n : Nat) (s : State) : SameSupply (s.putBudget which n)
    { s with energy := { s.energy with budgets := s.energy.budgets.put which n } } := by
  unfold State.putBudget
  dsimp only
  split
  case isTrue => exact SameSupply.of_energy rfl
  case isFalse =>
    exact (State.attempt_supply _).trans ((State.budgetPass_supply _ _).trans (SameSupply.of_energy (by simp)))

theorem State.budgetSet_ok {n : Nat} (fits : budgetOk n = true) (which : Supply) : s.budgetSet (some which) n =
    (Reply.ok [byte ({ s with energy := { s.energy with budgets := s.energy.budgets.put which n } } : State).budget],
      s.putBudget which n) := by
  have stays := (s.putBudget_supply which n).budget
  simp only [State.budgetSet, fits, Bool.not_true, Bool.false_eq_true, if_false, stays]

theorem Budgets.put_eq (b : Budgets) {st : Supply} (named : st ≠ .unknown) (n : Nat) : b.put st n = match (generalizing := false) st with
    | .mains => { b with mains := n }
    | .battHigh => { b with battHigh := n }
    | .battLow => { b with battLow := n }
    | _ => { b with battCrit := n } := by
  cases st with
  | unknown => exact absurd rfl named
  | _ => rfl

/-! ### The requests from the port -/

theorem exec_supply {h : Header} {code : Byte} {out : Reply × State} (t : Nat) (ready : Ready h.port s)
    (direct : Direct h) (main : h.port = .main) (fields : code.toNat ≤ 4)
    (own : (s.taken t h.port).supplyRequest (supplyOfByte code) = out) :
    exec (.supply t h code) s = .next (out.2.answers h 0x40 out.1.status out.1.payload) :=
  exec_eq_answers (c := .supply t h code) (r := .supply code) rfl ready direct (permitted_main main _ _)
    (decide_eq_true fields) rfl own

theorem exec_budgetSet {h : Header} {code n : Byte} {out : Reply × State} (t : Nat) (ready : Ready h.port s)
    (direct : Direct h) (main : h.port = .main) (fields : code.toNat ≤ 4)
    (own : (s.taken t h.port).budgetSet (supplyOfByte code) n.toNat = out) :
    exec (.budgetSet t h code n) s = .next (out.2.answers h 0x41 out.1.status out.1.payload) :=
  exec_eq_answers (c := .budgetSet t h code n) (r := .budgetSet code n) rfl ready direct (permitted_main main _ _)
    (decide_eq_true fields) rfl own

theorem exec_supply_range {h : Header} {code : Byte} (t : Nat) (ready : Ready h.port s) (direct : Direct h)
    (main : h.port = .main) (unnamed : code = 0 ∨ 4 < code.toNat) :
    exec (.supply t h code) s = .next ((s.taken t h.port).answers h 0x40 .range []) ∧
    ∀ n, exec (.budgetSet t h code n) s = .next ((s.taken t h.port).answers h 0x41 .range []) := by
  rcases unnamed with rfl | beyond
  · exact ⟨exec_supply t ready direct main (Nat.zero_le _) rfl, fun n => exec_budgetSet t ready direct main (Nat.zero_le _) rfl⟩
  · have refused : decide (code.toNat ≤ 4) = false := decide_eq_false (Nat.not_le.mpr beyond)
    exact ⟨exec_eq_range (c := .supply t h code) (r := .supply code) rfl ready direct (permitted_main main _ _) refused,
      fun n => exec_eq_range (c := .budgetSet t h code n) (r := .budgetSet code n) rfl ready direct (permitted_main main _ _)
        refused⟩

end

/-- Settles O46: by the code, and by what it changes. -/
theorem supplyAndBudget : Obligations.SupplyAndBudget := by
  refine ⟨fun s => ⟨State.takeEnergyCrit_idle, fun c current => ⟨State.takeEnergyCrit_early current, fun x phase => ?_,
    State.takeEnergyCrit_release current⟩⟩, ?_⟩
  · rw [State.takeEnergyCrit_exit current phase, ExitRec.holdEnergy_eq]
    rfl
  · rintro t ⟨port, group, tag⟩ code s ready direct main
    subst main
    intro u pass
    have budget : u.budget = s.budget := State.taken_budget t .main s
    refine ⟨exec_supply_range t ready direct rfl, fun new named is => ?_⟩
    subst is
    intro entered noticed handed reply
    have named' := supplyOfByte_supplyCode named
    have supplied {out : Reply × State} (own : u.supplyRequest (some new) = out) :=
      exec_supply t ready direct rfl (supplyCode_le new) ((congrArg u.supplyRequest named').trans own)
    have set (n : Byte) {out : Reply × State} (own : u.budgetSet (some new) n.toNat = out) :=
      exec_budgetSet t ready direct rfl (supplyCode_le new) ((congrArg (u.budgetSet · n.toNat) named').trans own)
    refine ⟨fun same => supplied (State.supplyRequest_same same), fun other => ?_, fun n low => set n (State.budgetSet_range low new),
      fun n least => ?_⟩
    · have changed : u.changeSupply new .request = (pass handed).attempt := by
        rw [State.changeSupply, budget]
        rfl
      have own := State.supplyRequest_change (s := u) other
      rw [changed] at own
      exact supplied own
    · intro table v reply
      have fits : budgetOk n.toNat = true := by
        have := n.isLt
        simp only [budgetOk, Bool.and_eq_true, decide_eq_true_eq]
        omega
      have put : ({ u with energy := { u.energy with budgets := u.energy.budgets.put new n.toNat } } : State) = v := by
        rw [Budgets.put_eq _ named]
        rfl
      have own := State.budgetSet_ok (s := u) fits new
      rw [State.putBudget] at own
      dsimp only at own
      rw [put, budget] at own
      refine ⟨fun same => ?_, fun other => ?_⟩
      · rw [if_pos same] at own
        exact set n own
      · rw [if_neg other] at own
        exact set n own

end Sys2Proof.Machine
end

section
/-! The cabinet points' records (R159, R161): who holds a function, and what leaves the records and the surge state as
they are. -/

namespace Sys2Proof.Machine

/-! ### The holder of a function (R161) -/

section
variable {s : State} {f : PointFn} {p : PointNo}

theorem State.holder_eq_none_iff : s.holder f = none ↔ ∀ p, (s.point p).fn ≠ f := by
  simp [State.holder, allPoints]

/-- The holder found stands before every other point of its function. -/
theorem Holds.of_holder (found : s.holder f = some p) : Holds s f p := by
  obtain ⟨is, below, above, parts, fails⟩ := List.find?_eq_some_iff_append.mp found
  refine ⟨beq_iff_eq.mp is, fun q lower holds => ?_⟩
  have ordered : allPoints.Pairwise (· < ·) := List.pairwise_lt_finRange 12
  have listed : q ∈ allPoints := List.mem_finRange q
  rw [parts] at ordered listed
  rw [List.pairwise_append, List.pairwise_cons] at ordered
  obtain ⟨-, ⟨beyond, -⟩, -⟩ := ordered
  rcases List.mem_append.mp listed with mem | mem
  · have misses := fails q mem
    simp [holds] at misses
  · rcases List.mem_cons.mp mem with same | mem
    · exact absurd lower (same ▸ lt_irrefl q)
    · exact absurd (lower.trans (beyond q mem)) (lt_irrefl q)

theorem Holds.unique {q : PointNo} (holds : Holds s f p) (other : Holds s f q) : p = q := by
  obtain ⟨is, lowest⟩ := holds
  obtain ⟨is', lowest'⟩ := other
  rcases lt_trichotomy p q with less | same | more
  · exact absurd is (lowest' p less)
  · exact same
  · exact absurd is' (lowest q more)

theorem State.holder_eq_some_iff : s.holder f = some p ↔ Holds s f p := by
  refine ⟨Holds.of_holder, fun holds => ?_⟩
  cases found : s.holder f with
  | none => exact absurd holds.1 (State.holder_eq_none_iff.mp found p)
  | some q => exact congrArg some ((Holds.of_holder found).unique holds)

theorem Point.active_iff (r : Point) : r.active = true ↔ r.debounced = some r.polarity.active := beq_iff_eq

theorem State.doorOpen_iff :
    s.doorOpen = true ↔ ∃ p, Holds s .door p ∧ (s.point p).debounced = some (s.point p).polarity.active := by
  unfold State.doorOpen State.fnActive
  cases found : s.holder .door with
  | none =>
    have unheld := State.holder_eq_none_iff.mp found
    simp [Holds, unheld]
  | some p =>
    have holds := State.holder_eq_some_iff.mp found
    rw [Point.active_iff]
    exact ⟨fun active => ⟨p, holds, active⟩, fun ⟨q, other, active⟩ => holds.unique other ▸ active⟩

/-! ### A point's record set -/

theorem State.point_setPoint (q : PointNo) (g : Point → Point) (s : State) :
    (s.setPoint p g).point q = if q = p then g (s.point p) else s.point q := by
  simp only [State.point, State.setPoint_points, Fin.getElem_fin, Vector.getElem_set, Fin.val_inj, eq_comm]

@[simp] theorem State.point_setPoint_same (g : Point → Point) (s : State) : (s.setPoint p g).point p = g (s.point p) :=
  (State.point_setPoint p g s).trans (if_pos rfl)

theorem State.point_setPoint_other {q : PointNo} (other : q ≠ p) (g : Point → Point) (s : State) :
    (s.setPoint p g).point q = s.point q := (State.point_setPoint q g s).trans (if_neg other)

theorem State.setPoint_congr {g g' : Point → Point} (same : g (s.point p) = g' (s.point p)) :
    s.setPoint p g = s.setPoint p g' := by
  have value : g s.points.recs[p] = g' s.points.recs[p] := same
  rw [State.setPoint, State.setPoint, value]

end

/-! ### What leaves the records and the surge state alone -/

/-- The points' records and the surge state of one machine are those of another; the test power request is the
engine's own. -/
def SameRecs (s u : State) : Prop := u.points.recs = s.points.recs ∧ u.points.surge = s.points.surge

section
variable {s u v : State}

theorem SameRecs.of_points (h : u.points = s.points) : SameRecs s u := by rw [SameRecs, h]; exact ⟨rfl, rfl⟩

theorem SameRecs.trans (h : SameRecs s u) (g : SameRecs u v) : SameRecs s v := ⟨g.1.trans h.1, g.2.trans h.2⟩

theorem SameRecs.point (h : SameRecs s u) (p : PointNo) : u.point p = s.point p := by rw [State.point, h.1]; rfl

theorem SameRecs.passFor (before after : Nat) (s : State) : SameRecs s (s.passFor before after) := .of_points (by simp)

theorem SameRecs.acquire (o : TestOrder) (target : Target) (s : State) : SameRecs s (s.acquire o target) := by
  have taken : SameRecs s (((s.dequeue o).withdraw o.line target).makeCurrent o) := by
    have points : ((s.dequeue o).withdraw o.line target).points = s.points := by simp [State.withdraw]
    exact (SameRecs.of_points points).trans ⟨rfl, rfl⟩
  exact taken.trans (SameRecs.passFor _ _ _)

theorem SameRecs.attemptLoop (n : Nat) (s : State) : SameRecs s (s.attemptLoop n) := by
  induction n generalizing s with
  | zero => exact .of_points rfl
  | succ n ih =>
    have refused (o : TestOrder) : SameRecs s (s.refuseOrder o) := .of_points (by simp [State.refuseOrder])
    rw [State.attemptLoop]
    split
    · exact .of_points rfl
    · split
      · exact .of_points rfl
      case h_2 o _ =>
        have interrupted : SameRecs s (if o.interrupt then s.acquire o .training else (s.refuseOrder o).attemptLoop n) := by
          split
          · exact SameRecs.acquire _ _ s
          · exact (refused o).trans (ih _)
        split
        · split
          · exact SameRecs.acquire _ _ s
          · exact SameRecs.acquire _ _ s
          · exact interrupted
          · exact interrupted
          · exact SameRecs.acquire _ _ s
          · exact .of_points rfl
          · exact .of_points rfl
        · exact .of_points rfl

theorem SameRecs.attempt (s : State) : SameRecs s s.attempt := SameRecs.attemptLoop _ s

theorem SameRecs.doorLoss (s : State) : SameRecs s s.doorLoss :=
  (SameRecs.of_points (by simp)).trans (SameRecs.attempt _)

theorem SameRecs.takeSurge (s : State) : SameRecs s s.takeSurge := .of_points (by simp)

theorem SameRecs.changeSupply (new : Supply) (source : SupplySource) (s : State) :
    SameRecs s (s.changeSupply new source) := by
  refine SameRecs.trans ?_ (SameRecs.attempt _)
  split
  all_goals exact .of_points (by simp)

theorem SameRecs.inputEvent (s : State) : SameRecs s s.inputEvent := by
  unfold State.inputEvent
  split
  · exact .of_points rfl
  · unfold State.setSupply
    split
    · exact .of_points rfl
    · exact SameRecs.changeSupply _ _ s

end

end Sys2Proof.Machine
end

section
/-! POINT ASSIGN and POINT DRIVE (R160 to R162, R166): the checks, what an assignment changes by the old and the new
function, and which records it leaves. -/

namespace Sys2Proof.Machine

section
variable {s u v : State} {p : PointNo} {f : PointFn} {pol : Polarity}

/-! ### What a point shows (R80, R159, R166) -/

theorem State.driven_of_drives (drives : Drives p (s.point p).fn) : s.driven p = some (match (s.point p).fn with
    | .testPower => s.points.testPower
    | .capA => s.energy.cap == 2 || s.energy.cap == 4
    | .capB => s.energy.cap == 3 || s.energy.cap == 4
    | .lamp => (s.point p).driven
    | .fan => (s.point p).driven
    | _ => false) := by
  have is : s.drives p = true := (drives_iff p _).mp drives
  rw [State.driven, if_pos is]
  cases (s.point p).fn <;> rfl

theorem State.driven_of_reads (reads : ¬Drives p (s.point p).fn) : s.driven p = none :=
  if_neg (mt (drives_iff p _).mpr reads)

/-! ### A new polarity alone (R162) -/

theorem Polarity.active_apart {a b : Polarity} (other : a ≠ b) (level : Level) :
    (some level == some b.active) ≠ (some level == some a.active) := by
  revert other
  cases a <;> cases b <;> cases level <;> decide

theorem Point.active_polarised {r : Point} (other : r.polarity ≠ pol) (known : r.debounced ≠ none) :
    ({ r with polarity := pol } : Point).active ≠ r.active := by
  obtain ⟨level, is⟩ := Option.ne_none_iff_exists'.mp known
  simp only [Point.active, is]
  exact Polarity.active_apart other level

/-- The point's record under a new polarity. -/
def State.turned (p : PointNo) (pol : Polarity) (s : State) : State := s.setPoint p fun r => { r with polarity := pol }

theorem State.turned_point : (s.turned p pol).point p = { s.point p with polarity := pol } := State.point_setPoint_same _ s

theorem State.repolarise_unknown (unknown : (s.point p).debounced = none) : s.repolarise p pol = s.turned p pol := by
  have same : ((s.turned p pol).point p).active = (s.point p).active := by
    rw [State.turned_point]
    simp only [Point.active, unknown]
    rfl
  exact if_pos same

theorem State.repolarise_known (other : (s.point p).polarity ≠ pol) (known : (s.point p).debounced ≠ none) :
    s.repolarise p pol = match (s.point p).fn with
      | .door => (s.turned p pol).doorMoved ((s.turned p pol).point p).active
      | .mains => (s.turned p pol).inputEvent
      | .battLow => (s.turned p pol).inputEvent
      | .battCrit => (s.turned p pol).inputEvent
      | _ => s.turned p pol := by
  have differs : ((s.turned p pol).point p).active ≠ (s.point p).active := by
    rw [State.turned_point]
    exact Point.active_polarised other known
  exact (if_neg differs).trans (by cases (s.point p).fn <;> rfl)

theorem State.repolarise_unmoved (none_ : (s.point p).debounced = none ∨ (s.point p).fn ∉ [PointFn.door, .mains, .battLow, .battCrit])
    (other : (s.point p).polarity ≠ pol) : s.repolarise p pol = s.turned p pol := by
  by_cases unknown : (s.point p).debounced = none
  · exact State.repolarise_unknown unknown
  · have unlisted := none_.resolve_left unknown
    have listed {g : PointFn} (is : (s.point p).fn = g) : g ∉ [PointFn.door, .mains, .battLow, .battCrit] := is ▸ unlisted
    rw [State.repolarise_known other unknown]
    split
    case h_1 is => exact absurd (by decide) (listed is)
    case h_2 is => exact absurd (by decide) (listed is)
    case h_3 is => exact absurd (by decide) (listed is)
    case h_4 is => exact absurd (by decide) (listed is)
    case h_5 => rfl

theorem State.repolarise_door (other : (s.point p).polarity ≠ pol) (known : (s.point p).debounced ≠ none)
    (door : (s.point p).fn = .door) : s.repolarise p pol =
      if (s.point p).debounced = some pol.active then s.turned p pol else (s.turned p pol).doorLoss := by
  have active : ((s.turned p pol).point p).active = true ↔ (s.point p).debounced = some pol.active := by
    rw [State.turned_point]
    exact Point.active_iff _
  rw [State.repolarise_known other known, door]
  exact if_congr active rfl rfl

theorem State.repolarise_supply (other : (s.point p).polarity ≠ pol) (known : (s.point p).debounced ≠ none)
    (input : (s.point p).fn ∈ [PointFn.mains, .battLow, .battCrit]) : s.repolarise p pol = (s.turned p pol).inputEvent := by
  rw [State.repolarise_known other known]
  simp only [List.mem_cons, List.not_mem_nil, or_false] at input
  rcases input with is | is | is <;> rw [is]

theorem SameRecs.repolarise (p : PointNo) (pol : Polarity) (s : State) : SameRecs (s.turned p pol) (s.repolarise p pol) := by
  unfold State.repolarise
  dsimp only
  split
  · exact .of_points rfl
  · split
    · unfold State.doorMoved
      split
      · exact .of_points rfl
      · exact SameRecs.doorLoss _
    · exact SameRecs.inputEvent _
    · exact SameRecs.inputEvent _
    · exact SameRecs.inputEvent _
    · exact .of_points rfl

/-! ### The new function taken up (R162) -/

theorem State.takeUpFn_still (is : (s.point p).fn ∈ [PointFn.door, .spareIn, .unassigned]) : s.takeUpFn p = s := by
  simp only [List.mem_cons, List.not_mem_nil, or_false] at is
  rcases is with is | is | is <;> simp only [State.takeUpFn, is]

theorem State.takeUpFn_supply (is : (s.point p).fn ∈ [PointFn.mains, .battLow, .battCrit]) :
    s.takeUpFn p = s.inputEvent := by
  simp only [List.mem_cons, List.not_mem_nil, or_false] at is
  rcases is with is | is | is <;> simp only [State.takeUpFn, is]

theorem State.takeUpFn_output (is : (s.point p).fn ∈ outputFns) :
    s.takeUpFn p = s.setPoint p fun r => { r with debounced := none, window := none, driven := false } := by
  simp only [outputFns, List.mem_cons, List.not_mem_nil, or_false] at is
  rcases is with is | is | is | is | is <;> simp only [State.takeUpFn, is]

theorem State.takeUpFn_surge_active (is : (s.point p).fn = .surge) (active : (s.point p).input = (s.point p).polarity.active) :
    s.takeUpFn p = s.assertSurge p false := by
  simp only [State.takeUpFn, is, if_pos active]

theorem State.takeUpFn_surge_inactive (is : (s.point p).fn = .surge)
    (inactive : (s.point p).input ≠ (s.point p).polarity.active) :
    s.takeUpFn p = s.setPoint p fun r => { r with debounced := some r.polarity.inactive, window := none } := by
  simp only [State.takeUpFn, is, if_neg inactive]

theorem State.assertSurge_eq (p : PointNo) (s : State) : s.assertSurge p false =
    ((s.setPoint p fun r => { r with debounced := some r.polarity.active, window := none }).setSurge
      .asserted).takeSurge.attempt := rfl

/-! ### Which records an assignment leaves (R161, R162) -/

/-- Point p's input and every other point's record are as they were. -/
def LeavesOthers (p : PointNo) (s u : State) : Prop := (u.point p).input = (s.point p).input ∧ ∀ q, q ≠ p → u.point q = s.point q

theorem LeavesOthers.trans (h : LeavesOthers p s u) (g : LeavesOthers p u v) : LeavesOthers p s v :=
  ⟨g.1.trans h.1, fun q other => (g.2 q other).trans (h.2 q other)⟩

theorem LeavesOthers.of_sameRecs (h : SameRecs s u) : LeavesOthers p s u :=
  ⟨by rw [h.point], fun q _ => h.point q⟩

theorem LeavesOthers.setPoint {g : Point → Point} (input : (g (s.point p)).input = (s.point p).input) :
    LeavesOthers p s (s.setPoint p g) :=
  ⟨by rw [State.point_setPoint_same]; exact input, fun _ other => State.point_setPoint_other other g s⟩

theorem LeavesOthers.setSurge (h : LeavesOthers p s u) (st : Surge) : LeavesOthers p s (u.setSurge st) := h

theorem LeavesOthers.sameRecs (h : LeavesOthers p s u) (g : SameRecs u v) : LeavesOthers p s v := h.trans (.of_sameRecs g)

theorem LeavesOthers.releaseFn (p : PointNo) (s : State) : LeavesOthers p s (s.releaseFn p) := by
  have bare : LeavesOthers p s (s.setPoint p fun r => { r with fn := .unassigned }) := .setPoint rfl
  unfold State.releaseFn
  dsimp only
  split
  · split
    · exact bare.sameRecs (SameRecs.doorLoss _)
    · exact bare
  · have calm := (bare.trans (LeavesOthers.setPoint (p := p)
      (g := fun r => { r with debounced := none, window := some (s.now + Config.debounceTime) }) rfl)).setSurge .calm
    split
    · exact calm
    · exact calm.sameRecs (SameRecs.attempt _)
  · exact bare.sameRecs (SameRecs.inputEvent _)
  · exact bare.sameRecs (SameRecs.inputEvent _)
  · exact bare.sameRecs (SameRecs.inputEvent _)
  · exact bare
  · exact bare
  all_goals exact bare.trans (.setPoint rfl)

/-- What a taken-up function leaves: the point's function and polarity besides. -/
theorem State.takeUpFn_leaves (p : PointNo) (s : State) : LeavesOthers p s (s.takeUpFn p) ∧
    ((s.takeUpFn p).point p).fn = (s.point p).fn ∧ ((s.takeUpFn p).point p).polarity = (s.point p).polarity := by
  have set (g : Point → Point) (input : (g (s.point p)).input = (s.point p).input) (fn : (g (s.point p)).fn = (s.point p).fn)
      (polarity : (g (s.point p)).polarity = (s.point p).polarity) (u : State) (same : SameRecs (s.setPoint p g) u) :
      LeavesOthers p s u ∧ (u.point p).fn = (s.point p).fn ∧ (u.point p).polarity = (s.point p).polarity := by
    refine ⟨(LeavesOthers.setPoint input).sameRecs same, ?_⟩
    rw [same.point, State.point_setPoint_same]
    exact ⟨fn, polarity⟩
  have kept (u : State) (same : SameRecs s u) :
      LeavesOthers p s u ∧ (u.point p).fn = (s.point p).fn ∧ (u.point p).polarity = (s.point p).polarity := by
    rw [same.point]
    exact ⟨.of_sameRecs same, rfl, rfl⟩
  unfold State.takeUpFn
  split
  · split
    · obtain ⟨leaves, fn, polarity⟩ := set (fun r => { r with debounced := some r.polarity.active, window := none }) rfl rfl
        rfl _ (.of_points rfl)
      have same := (SameRecs.takeSurge ((s.setPoint p fun r => { r with debounced := some r.polarity.active, window := none }).setSurge
        .asserted)).trans (SameRecs.attempt _)
      rw [State.assertSurge_eq, same.point]
      exact ⟨(leaves.setSurge .asserted).sameRecs same, fn, polarity⟩
    · exact set _ rfl rfl rfl _ (.of_points rfl)
  · exact kept _ (SameRecs.inputEvent s)
  · exact kept _ (SameRecs.inputEvent s)
  · exact kept _ (SameRecs.inputEvent s)
  case h_5 | h_6 | h_7 | h_8 | h_9 => exact set _ rfl rfl rfl _ (.of_points rfl)
  case h_10 | h_11 | h_12 => exact kept _ (.of_points rfl)

/-! ### An assignment (R162) -/

theorem State.assignFn_same (fn : (s.point p).fn = f) (polarity : (s.point p).polarity = pol) : s.assignFn p f pol = s :=
  if_pos ⟨fn, polarity⟩

theorem State.assignFn_turned (fn : (s.point p).fn = f) (polarity : (s.point p).polarity ≠ pol) (surge : f ≠ .surge) :
    s.assignFn p f pol = s.repolarise p pol :=
  (if_neg fun same => polarity same.2).trans (if_pos ⟨fn, surge⟩)

/-- The point with its old function released and its new one in the record. -/
def State.replaced (p : PointNo) (f : PointFn) (pol : Polarity) (s : State) : State :=
  (s.releaseFn p).setPoint p fun r => { r with fn := f, polarity := pol }

theorem State.assignFn_replaced (new : (s.point p).fn ≠ f ∨ ((s.point p).polarity ≠ pol ∧ f = .surge)) :
    s.assignFn p f pol = (s.replaced p f pol).takeUpFn p := by
  have differs : ¬((s.point p).fn = f ∧ (s.point p).polarity = pol) := fun ⟨fn, polarity⟩ =>
    new.elim (fun other => other fn) fun other => other.1 polarity
  have whole : ¬((s.point p).fn = f ∧ f ≠ .surge) := fun ⟨fn, surge⟩ =>
    new.elim (fun other => other fn) fun other => surge other.2
  exact (if_neg differs).trans (if_neg whole)

theorem State.replaced_point : (s.replaced p f pol).point p = { (s.releaseFn p).point p with fn := f, polarity := pol } :=
  State.point_setPoint_same _ _

theorem State.replaced_fn : ((s.replaced p f pol).point p).fn = f := by rw [State.replaced_point]

theorem State.replaced_polarity : ((s.replaced p f pol).point p).polarity = pol := by rw [State.replaced_point]

theorem State.replaced_input : ((s.replaced p f pol).point p).input = (s.point p).input := by
  rw [State.replaced_point]
  exact (LeavesOthers.releaseFn p s).1

/-- An assignment sets the function and polarity of its point, and leaves the other records. -/
theorem State.assignFn_point (p : PointNo) (f : PointFn) (pol : Polarity) (s : State) :
    LeavesOthers p s (s.assignFn p f pol) ∧ ((s.assignFn p f pol).point p).fn = f ∧
      ((s.assignFn p f pol).point p).polarity = pol := by
  by_cases fn : (s.point p).fn = f
  · by_cases polarity : (s.point p).polarity = pol
    · rw [State.assignFn_same fn polarity]
      exact ⟨.of_sameRecs (.of_points rfl), fn, polarity⟩
    · by_cases surge : f = .surge
      · exact replaced (.inr ⟨polarity, surge⟩)
      · have same := SameRecs.repolarise p pol s
        rw [State.assignFn_turned fn polarity surge, same.point, State.turned_point]
        exact ⟨(LeavesOthers.setPoint rfl).sameRecs same, fn, rfl⟩
  · exact replaced (.inl fn)
where
  replaced (new : (s.point p).fn ≠ f ∨ ((s.point p).polarity ≠ pol ∧ f = .surge)) :
      LeavesOthers p s (s.assignFn p f pol) ∧ ((s.assignFn p f pol).point p).fn = f ∧
        ((s.assignFn p f pol).point p).polarity = pol := by
    obtain ⟨leaves, fn, polarity⟩ := State.takeUpFn_leaves p (s.replaced p f pol)
    rw [State.assignFn_replaced new, fn, polarity]
    exact ⟨((LeavesOthers.releaseFn p s).trans (LeavesOthers.setPoint rfl)).trans leaves, State.replaced_fn,
      State.replaced_polarity⟩

theorem pointGroup_general_iff (p : PointNo) : pointGroup p = .general ↔ 4 ≤ p.val ∧ p.val < 8 := by
  revert p
  decide

/-- The release written out, with the record, the door, the surge state and the time given. -/
theorem State.releaseFn_eq {r : Point} {door : Bool} {surge : Surge} {now : Nat} (is : s.point p = r)
    (open_ : s.doorOpen = door) (state : s.points.surge = surge) (time : s.now = now) :
    s.releaseFn p =
      (let bare := s.setPoint p fun r => { r with fn := .unassigned }
       let window := some (now + 20000)
       match r.fn with
        | .door => if door then bare.doorLoss else bare
        | .surge =>
          let x := bare.setPoint p fun r => { r with debounced := none, window := window }
          let calm : State := { x with points := { x.points with surge := .calm } }
          if surge = .calm then calm else calm.attempt
        | .mains | .battLow | .battCrit => bare.inputEvent
        | .spareIn | .unassigned => bare
        | .testPower | .capA | .capB | .lamp | .fan => bare.setPoint p fun r => { r with
            debounced := none, driven := false, window := if 4 ≤ p.val ∧ p.val < 8 then window else none }) := by
  subst is open_ state time
  have group : (if pointGroup p = .general then some (s.now + Config.debounceTime) else none) =
      if 4 ≤ p.val ∧ p.val < 8 then some (s.now + 20000) else none := if_congr (pointGroup_general_iff p) rfl rfl
  unfold State.releaseFn
  dsimp only
  rw [group]
  cases (s.point p).fn <;> rfl

/-! ### The checks of the requests (R161, R166) -/

theorem State.heldElsewhere_iff :
    s.heldElsewhere p f = true ↔ f ≠ .unassigned ∧ ∃ q, q ≠ p ∧ (s.point q).fn = f := by
  simp [State.heldElsewhere, allPoints]

theorem State.pointAssign_range (out : ¬Permits p f) : s.pointAssign p f pol = (Reply.bad .range, s) := by
  have refused : (pointGroup p).permits f = false := Bool.eq_false_iff.mpr (mt (permits_iff p f).mpr out)
  simp only [State.pointAssign, refused]
  rfl

theorem State.pointAssign_state (permits : Permits p f) (busy : (s.point p).fn = .testPower ∧ s.engine.current ≠ none) :
    s.pointAssign p f pol = (Reply.bad .state, s) := by
  have busy' : (s.point p).fn = .testPower ∧ s.engine.current.isSome = true :=
    ⟨busy.1, Option.isSome_iff_ne_none.mpr busy.2⟩
  simp only [State.pointAssign, (permits_iff p f).mp permits, Bool.not_true, Bool.false_eq_true, if_false, if_pos busy']

theorem State.pointAssign_free (permits : Permits p f) (free : ¬((s.point p).fn = .testPower ∧ s.engine.current ≠ none)) :
    s.pointAssign p f pol =
      if s.heldElsewhere p f then (Reply.bad .overlap, s)
      else (Reply.ok ((s.assignFn p f pol).pointBytes p), s.assignFn p f pol) := by
  have free' : ¬((s.point p).fn = .testPower ∧ s.engine.current.isSome = true) := fun ⟨fn, some_⟩ =>
    free ⟨fn, Option.isSome_iff_ne_none.mp some_⟩
  simp only [State.pointAssign, (permits_iff p f).mp permits, Bool.not_true, Bool.false_eq_true, if_false, if_neg free']

theorem State.pointDrive_eq (active : Bool) : s.pointDrive p active =
    if (s.point p).fn = .lamp ∨ (s.point p).fn = .fan then
      (Reply.ok [], s.setPoint p fun r => { r with driven := active })
    else (Reply.bad .state, s) := by
  unfold State.pointDrive
  cases (s.point p).fn <;> rfl

theorem pointByte_lt (p : PointNo) : decide ((BitVec.ofNat 8 p.val).toNat < 12) = true := by
  rw [pointByte_toNat]
  exact decide_eq_true p.isLt

theorem fnOfCode_fnCode (f : PointFn) : fnOfCode (fnCode f).toNat = some f := by cases f <;> rfl

theorem polarityOfCode_polarityCode (pol : Polarity) : polarityOfCode (polarityCode pol).toNat = pol := by cases pol <;> rfl

theorem exec_pointAssign {h : Header} {out : Reply × State} (t : Nat) (ready : Ready h.port s) (direct : Direct h)
    (main : h.port = .main) (own : (s.taken t h.port).pointAssign p f pol = out) :
    exec (.pointAssign t h (BitVec.ofNat 8 p.val) (fnCode f) (polarityCode pol)) s =
      .next (out.2.answers h 0x50 out.1.status out.1.payload) := by
  have listed : decide ((fnCode f).toNat ≤ 11) = true := by cases f <;> rfl
  have flag : flagOk (polarityCode pol) = true := by cases pol <;> rfl
  refine exec_eq_answers (r := .pointAssign (BitVec.ofNat 8 p.val) (fnCode f) (polarityCode pol)) rfl ready direct
    (permitted_main main _ _) (by simp only [fieldsOk, pointByte_lt, listed, flag, Bool.and_self]) rfl ?_
  rw [← own, Machine.own, fnOfCode_fnCode, polarityOfCode_polarityCode]
  exact onPoint_byte p _ _

theorem exec_pointDrive {h : Header} {active : Bool} {out : Reply × State} (t : Nat) (ready : Ready h.port s)
    (direct : Direct h) (main : h.port = .main) (own : (s.taken t h.port).pointDrive p active = out) :
    exec (.pointDrive t h (BitVec.ofNat 8 p.val) (flagByte active)) s =
      .next (out.2.answers h 0x52 out.1.status out.1.payload) := by
  refine exec_eq_answers (r := .pointDrive (BitVec.ofNat 8 p.val) (flagByte active)) rfl ready direct
    (permitted_main main _ _) (by simp only [fieldsOk, pointByte_lt, flagOk_flagByte, Bool.and_self]) rfl ?_
  rw [← own]
  exact (onPoint_byte p _ _).trans (congrArg (fun on => State.pointDrive p on (s.taken t h.port)) (flagByte_eq_one active))

end

/-- Settles O47: what a point shows by its function; an assignment by its checks, its old function and its new one. -/
theorem pointRequests : Obligations.PointRequests := by
  refine ⟨fun s p => ?_, fun s => State.doorOpen_iff, ?_⟩
  · intro r on active inactive
    refine ⟨fun drives => ?_, fun reads => ?_, rfl, rfl⟩
    · have shown : s.driven p = some on := State.driven_of_drives drives
      refine ⟨shown, fun running => ?_⟩
      rw [State.terminal, if_pos running, shown]
      rfl
    · have none_ := State.driven_of_reads reads
      refine ⟨none_, ?_⟩
      rw [State.terminal, none_]
      exact ite_self none
  · rintro t ⟨port, group, tag⟩ p s ready direct main
    subst main
    intro u
    refine ⟨fun f pol => ?_, fun f pol => ?_, fun active => ?_⟩
    · intro b done busy elsewhere
      have answered {out : Reply × State} (own : u.pointAssign p f pol = out) := exec_pointAssign t ready direct rfl own
      refine ⟨fun out => answered (State.pointAssign_range out), fun permits held => answered (State.pointAssign_state permits held),
        fun permits free other => ?_, fun permits free only => ?_⟩
      · exact answered ((State.pointAssign_free (s := u) permits free).trans (if_pos (State.heldElsewhere_iff.mpr other)))
      · obtain ⟨⟨input, others⟩, fn, polarity⟩ := State.assignFn_point p f pol u
        exact ⟨answered ((State.pointAssign_free (s := u) permits free).trans (if_neg (mt State.heldElsewhere_iff.mp only))),
          fn, polarity, input, others, State.assignFn_same (s := u)⟩
    · intro r v turned bare window released next
      have freed : u.releaseFn p = released :=
        State.releaseFn_eq (r := r) (door := s.doorOpen) (surge := s.points.surge) (now := max s.now t) rfl
          (State.taken_doorOpen t .main s) rfl rfl
      have replaced : u.replaced p f pol = next := by
        rw [State.replaced, freed]
      refine ⟨fun fn other surge => ?_, fun new => ?_⟩
      · have whole : v = u.repolarise p pol := State.assignFn_turned (s := u) fn other surge
        subst fn
        refine ⟨fun unmoved => whole.trans (State.repolarise_unmoved (s := u) unmoved other), fun known door => ?_,
          fun known input => whole.trans (State.repolarise_supply (s := u) other known input)⟩
        have moved := whole.trans (State.repolarise_door (s := u) other known door)
        exact ⟨fun same => moved.trans (if_pos same), fun differs => moved.trans (if_neg differs)⟩
      · have whole : v = next.takeUpFn p := by
          rw [← replaced]
          exact State.assignFn_replaced (s := u) new
        have fn : (next.point p).fn = f := by rw [← replaced, State.replaced_fn]
        have polarity : (next.point p).polarity = pol := by rw [← replaced, State.replaced_polarity]
        have input : (next.point p).input = r.input := by
          rw [← replaced]
          exact State.replaced_input (s := u)
        refine ⟨fun still => whole.trans (State.takeUpFn_still (by rw [fn]; exact still)),
          fun supply => whole.trans (State.takeUpFn_supply (by rw [fn]; exact supply)),
          fun output => whole.trans (State.takeUpFn_output (by rw [fn]; exact output)),
          fun surge active => ?_, fun surge inactive => ?_⟩
        · have asserted := State.takeUpFn_surge_active (s := next) (p := p) (by rw [fn]; exact surge)
            (by rw [input, polarity]; exact active)
          have set : (next.setPoint p fun r => { r with debounced := some r.polarity.active, window := none }) =
              next.setPoint p fun r => { r with debounced := some pol.active, window := none } :=
            State.setPoint_congr (by rw [polarity])
          rw [State.assertSurge_eq, set] at asserted
          exact whole.trans asserted
        · have still := State.takeUpFn_surge_inactive (s := next) (p := p) (by rw [fn]; exact surge)
            (by rw [input, polarity]; exact inactive)
          have set : (next.setPoint p fun r => { r with debounced := some r.polarity.inactive, window := none }) =
              next.setPoint p fun r => { r with debounced := some pol.inactive, window := none } :=
            State.setPoint_congr (by rw [polarity])
          exact whole.trans (still.trans set)
    · have own := State.pointDrive_eq (s := u) (p := p) active
      have answered {out : Reply × State} (own : u.pointDrive p active = out) := exec_pointDrive t ready direct rfl own
      by_cases shown : (s.point p).fn = .lamp ∨ (s.point p).fn = .fan
      · rw [if_pos shown]
        exact answered (own.trans (if_pos shown))
      · rw [if_neg shown]
        exact answered (own.trans (if_neg shown))

end Sys2Proof.Machine
end

section
/-! INPUT_LEVEL_CHANGE (R159, R163, R164) and the SURGE cause by the phase (R131, R132, R137). -/

namespace Sys2Proof.Machine

section
variable {s : State} {c : Current} {tgt : Target} {conn : Conn}

/-! ### The SURGE cause by the phase -/

theorem State.takeSurge_idle (idle : s.engine.current = none) : s.takeSurge = s := by
  simp only [State.takeSurge, idle]

theorem State.takeSurge_begins (current : s.engine.current = some c)
    (phase : c.phase.early = true ∨ c.phase = .releaseRamp) : s.takeSurge = s.beginExit .surge := by
  simp only [State.takeSurge, current]
  split
  case h_1 x is => simp [is, Phase.early] at phase
  case h_2 e is => simp [is, Phase.early] at phase
  case h_3 => rfl

theorem State.takeSurge_releaseSettle (current : s.engine.current = some c) {e : Nat} (phase : c.phase = .releaseSettle e) :
    s.takeSurge = s := by
  simp only [State.takeSurge, current, phase]

theorem State.takeSurge_exit (current : s.engine.current = some c) {x : ExitRec} (phase : c.phase = .exit x) :
    s.takeSurge = s.escalate .surge x := by
  simp only [State.takeSurge, current, phase]

/-! ### A level change (R163, R164) -/

variable {p : PointNo} {v : Level}

theorem State.inputChange_same (same : (s.point p).input = v) : s.inputChange p v = s := if_pos same

/-- The machine with the level at the point's terminal recorded. -/
def State.seen (p : PointNo) (v : Level) (s : State) : State := s.setPoint p fun r => { r with input := v }

theorem State.seen_point : (s.seen p v).point p = { s.point p with input := v } := State.point_setPoint_same _ s

theorem State.seen_drives : (s.seen p v).drives p = s.drives p := by rw [State.drives, State.seen_point, State.drives]

theorem State.inputChange_drives (other : (s.point p).input ≠ v) (drives : Drives p (s.point p).fn) :
    s.inputChange p v = s.seen p v := by
  have still : (!(s.seen p v).running || (s.seen p v).drives p) = true := by
    rw [State.seen_drives, State.drives, (drives_iff p _).mp drives, Bool.or_true]
  exact (if_neg other).trans (if_pos still)

theorem State.inputChange_reads (running : s.running = true) (other : (s.point p).input ≠ v)
    (reads : ¬Drives p (s.point p).fn) : s.inputChange p v =
      if (s.point p).fn = .surge then (s.seen p v).surgeInput p v
      else (s.seen p v).setPoint p fun r => { r with window := some (s.now + 20000) } := by
  have taken : ¬(!(s.seen p v).running || (s.seen p v).drives p) = true := by
    have not : s.drives p = false := Bool.eq_false_iff.mpr (mt (drives_iff p _).mpr reads)
    have runs : (s.seen p v).running = true := running
    rw [State.seen_drives, not, runs]
    exact Bool.false_ne_true
  refine (if_neg other).trans ((if_neg taken).trans ?_)
  have fn : ((s.seen p v).point p).fn = (s.point p).fn := by rw [State.seen_point]
  exact if_congr (by rw [← fn]; rfl) rfl rfl

theorem State.surgeInput_eq (p : PointNo) (v : Level) (s : State) : s.surgeInput p v =
    if v = (s.point p).polarity.active then
      if (s.point p).debounced = some (s.point p).polarity.active then s.setPoint p fun r => { r with window := none }
      else s.assertSurge p true
    else if (s.point p).debounced = some (s.point p).polarity.active then
      s.setPoint p fun r => { r with window := some (s.now + 20000) }
    else s := by
  simp only [State.surgeInput, Point.active_iff]
  rfl

end

theorem exec_inputLevelChange_eq {s u : State} {p : PointNo} {v : Level} {t : Nat} (changed : (s.advance t).inputChange p v = u) :
    exec (.inputLevelChange t p v) s = .next u := by
  have row : exec (.inputLevelChange t p v) s = .next ((s.advance t).inputChange p v) := rfl
  rw [row, changed]

/-- Settles O48: the cause by the phase and the stage; a change by what the point does with its input. -/
theorem inputLevels : Obligations.InputLevels := by
  refine ⟨fun s => State.takeSurge_idle, fun s c tgt conn current withdrawn => ?_, fun t p v s running => ?_⟩
  · intro at_ open_ cut
    refine ⟨State.takeSurge_begins current, fun e => State.takeSurge_releaseSettle current, fun x phase => ?_⟩
    intro y z
    have taken := State.takeSurge_exit current phase
    refine ⟨fun ramp => ?_, fun e dwell => ?_, fun e still => ?_⟩
    · rw [State.escalate_ramp ramp, State.cutOff_setPhase current withdrawn, ExitRec.note_eq] at taken
      exact taken
    · have opened : (s.setLineState c.order.line (.withdrawn tgt .offBus)).engine.current = some c := by simpa using current
      rw [State.escalate_dwell dwell, State.setConn_eq current withdrawn, State.setPhase_eq opened, ExitRec.note_eq] at taken
      exact taken
    · rw [State.escalate_settle still, State.setPhase_eq current, ExitRec.note_eq] at taken
      exact taken
  · intro r seen window done isActive wasActive
    have running' : (s.advance t).running = true := running
    refine ⟨fun same => exec_inputLevelChange_eq (State.inputChange_same same),
      fun other drives => exec_inputLevelChange_eq (State.inputChange_drives other drives), fun other reads surge => ?_,
      fun other reads surge => ?_⟩
    · have changed := State.inputChange_reads running' other reads
      exact exec_inputLevelChange_eq (changed.trans (if_neg surge))
    · have changed := (State.inputChange_reads running' other reads).trans (if_pos surge)
      rw [State.surgeInput_eq, State.seen_point] at changed
      refine ⟨fun active was => ?_, fun active wasNot => ?_, fun inactive was => ?_, fun inactive wasNot => ?_⟩
      · exact exec_inputLevelChange_eq (changed.trans ((if_pos active).trans (if_pos was)))
      · have asserted := changed.trans ((if_pos active).trans (if_neg wasNot))
        have level : v = (((s.advance t).seen p v).point p).polarity.active := by
          rw [State.seen_point]
          exact active
        intro b
        have set : ((s.advance t).seen p v).setPoint p (fun r => { r with debounced := some r.polarity.active, window := none }) =
            b := State.setPoint_congr (by rw [← level])
        rw [State.assertSurge] at asserted
        rw [set] at asserted
        exact exec_inputLevelChange_eq asserted
      · exact exec_inputLevelChange_eq (changed.trans ((if_neg inactive).trans (if_pos was)))
      · exact exec_inputLevelChange_eq (changed.trans ((if_neg inactive).trans (if_neg wasNot)))

end Sys2Proof.Machine
end

section
/-! DEBOUNCE_EXPIRY, SURGE_CLEAR_EXPIRY and QUIET_EXPIRY (R163, R164), the door loss (R140) and the input event (R144). -/

namespace Sys2Proof.Machine

section
variable {s : State} {c : Current} {p : PointNo}

/-! ### The door loss (R140) -/

theorem State.takeDoor_other (other : ∀ c, s.engine.current = some c → c.order.origin = .main) : s.takeDoor = s := by
  unfold State.takeDoor
  split
  · rfl
  case h_2 c current =>
    have main := other c current
    exact if_neg (by rw [main]; decide)

theorem State.takeDoor_early (current : s.engine.current = some c) (craft : c.order.origin = .craft)
    (early : c.phase.early = true) : s.takeDoor = s.beginExit .door := by
  simp only [State.takeDoor, current, if_pos craft]
  split
  case h_1 x is =>
    rw [is] at early
    exact absurd early Bool.false_ne_true
  case h_2 => exact if_pos early

theorem State.takeDoor_exit (current : s.engine.current = some c) (craft : c.order.origin = .craft) {x : ExitRec}
    (phase : c.phase = .exit x) : s.takeDoor = s.putCurrent { c with phase := .exit (x.note .door) } := by
  simp only [State.takeDoor, current, if_pos craft, phase]
  exact State.setPhase_eq current _

theorem State.takeDoor_release (current : s.engine.current = some c) (craft : c.order.origin = .craft)
    (phase : c.phase = .releaseRamp ∨ ∃ e, c.phase = .releaseSettle e) : s.takeDoor = s := by
  simp only [State.takeDoor, current, if_pos craft]
  rcases phase with phase | ⟨e, phase⟩ <;> rw [phase] <;> rfl

/-! ### The input event (R144) -/

theorem State.inputEvent_unassigned (unheld : ∀ p, (s.point p).fn ≠ .mains) : s.inputEvent = s := by
  simp only [State.inputEvent, State.holder_eq_none_iff.mpr unheld]

theorem State.inputEvent_assigned (held : ∃ p, (s.point p).fn = .mains) : s.inputEvent =
    s.setSupply (derivedSupply (s.fnActive .mains) (s.fnActive .battCrit) (s.fnActive .battLow)) .inputs := by
  unfold State.inputEvent
  split
  case h_1 none_ =>
    obtain ⟨p, is⟩ := held
    exact absurd is (State.holder_eq_none_iff.mp none_ p)
  case h_2 => rfl

theorem State.setSupply_same {new : Supply} (source : SupplySource) (same : s.energy.supply = new) :
    s.setSupply new source = s.entered s.energy.supply source := if_pos same

theorem State.setSupply_other {new : Supply} (source : SupplySource) (other : s.energy.supply ≠ new) :
    s.setSupply new source = s.changeSupply new source := if_neg other

/-! ### The debounce window (R163) -/

theorem State.endDebounce_other (other : Drives p (s.point p).fn ∨ (s.point p).fn = .surge) : s.endDebounce p = s := by
  refine if_neg fun holds => ?_
  simp only [Bool.and_eq_true, State.reads, State.drives, Bool.not_eq_true', bne_iff_ne] at holds
  obtain ⟨⟨reads, surge⟩, -⟩ := holds
  rcases other with drives | is
  · exact absurd ((drives_iff p _).mp drives) (by rw [reads]; exact Bool.false_ne_true)
  · exact surge is

theorem State.endDebounce_early (early : ∀ e, (s.point p).window = some e → s.now < e) : s.endDebounce p = s := by
  refine if_neg fun holds => ?_
  rw [Bool.and_eq_true] at holds
  obtain ⟨-, due⟩ := holds
  cases window : (s.point p).window with
  | none =>
    rw [window] at due
    exact absurd due Bool.false_ne_true
  | some e =>
    rw [window] at due
    exact Nat.not_le.mpr (early e window) (State.due_iff.mp due)

/-- The input taken as the debounced level. -/
def State.settled (p : PointNo) (s : State) : State :=
  s.setPoint p fun r => { r with debounced := some r.input, window := none }

theorem State.settled_point : (s.settled p).point p = { s.point p with debounced := some (s.point p).input, window := none } :=
  State.point_setPoint_same _ s

theorem State.settled_fn : ((s.settled p).point p).fn = (s.point p).fn := by rw [State.settled_point]

theorem State.endDebounce_due (reads : ¬Drives p (s.point p).fn) (surge : (s.point p).fn ≠ .surge) {e : Nat}
    (window : (s.point p).window = some e) (reached : e ≤ s.now) : s.endDebounce p =
      if (s.point p).debounced = some (s.point p).input then s.settled p
      else (s.settled p).levelTaken p (s.point p).active := by
  refine if_pos ?_
  have not : s.drives p = false := Bool.eq_false_iff.mpr (mt (drives_iff p _).mpr reads)
  rw [State.reads, not, Bool.and_eq_true, Bool.and_eq_true]
  exact ⟨⟨rfl, bne_iff_ne.mpr surge⟩, window ▸ State.due_iff.mpr reached⟩

theorem State.settled_active : ((s.settled p).point p).active = Decidable.decide ((s.point p).input = (s.point p).polarity.active) := by
  rw [Bool.eq_iff_iff, Point.active_iff, State.settled_point, decide_eq_true_eq]
  exact Option.some_inj

theorem Point.active_eq (r : Point) : r.active = decide (r.debounced = some r.polarity.active) := by
  rw [Bool.eq_iff_iff, Point.active_iff, decide_eq_true_eq]

/-! ### The surge (R164) -/

theorem State.endSurgeClear_unheld (unheld : ∀ p, (s.point p).fn ≠ .surge) : s.endSurgeClear = s := by
  simp only [State.endSurgeClear, State.holder_eq_none_iff.mpr unheld]

theorem State.endSurgeClear_closed (holds : Holds s .surge p) (window : (s.point p).window = none) :
    s.endSurgeClear = s := by
  simp only [State.endSurgeClear, State.holder_eq_some_iff.mpr holds, window]
  rfl

theorem State.endSurgeClear_open (holds : Holds s .surge p) {e : Nat} (window : (s.point p).window = some e) :
    s.endSurgeClear = if e ≤ s.now then
      (((s.setPoint p fun r => { r with debounced := some r.polarity.inactive, window := none }).setSurge
        (.quiet (s.now + secs s.params.quietTime))).notify (.point p .surge false)).attempt
    else s := by
  simp only [State.endSurgeClear, State.holder_eq_some_iff.mpr holds, window]
  exact if_congr decide_eq_true_iff rfl rfl

theorem State.endQuiet_quiet {e : Nat} (quiet : s.points.surge = .quiet e) :
    s.endQuiet = if e ≤ s.now then (s.setSurge .calm).attempt else s := by
  simp only [State.endQuiet, quiet]

theorem State.endQuiet_other (other : ∀ e, s.points.surge ≠ .quiet e) : s.endQuiet = s := by
  unfold State.endQuiet
  split
  case h_1 e is => exact absurd is (other e)
  case h_2 => rfl

end

theorem exec_debounceExpiry_eq {s u : State} {t : Nat} {p : PointNo} (running : s.running = true)
    (ended : (s.advance t).endDebounce p = u) : exec (.debounceExpiry t p) s = .next u := by
  have row : exec (.debounceExpiry t p) s = .next (s.event t (State.endDebounce p)) := rfl
  rw [row, State.event_running running, ended]

theorem exec_surgeClearExpiry_eq {s u : State} {t : Nat} (running : s.running = true)
    (ended : (s.advance t).endSurgeClear = u) : exec (.surgeClearExpiry t) s = .next u := by
  have row : exec (.surgeClearExpiry t) s = .next (s.event t State.endSurgeClear) := rfl
  rw [row, State.event_running running, ended]

theorem exec_quietExpiry_eq {s u : State} {t : Nat} (running : s.running = true)
    (ended : (s.advance t).endQuiet = u) : exec (.quietExpiry t) s = .next u := by
  have row : exec (.quietExpiry t) s = .next (s.event t State.endQuiet) := rfl
  rw [row, State.event_running running, ended]

/-- Settles O49: a door loss and an input event as wholes; each timer by whether its time is reached. -/
theorem pointTimers : Obligations.PointTimers := by
  refine ⟨fun s => ?_, fun s => ?_, fun t s running => ?_⟩
  · intro gone left
    have loss : s.doorLoss = left.takeDoor.attempt := rfl
    have same : left.engine.current = s.engine.current := State.removeOrders_current .door _ s
    refine ⟨fun other => ?_, fun c current craft => ?_⟩
    · rw [loss, State.takeDoor_other (by rw [same]; exact other)]
    · have current' : left.engine.current = some c := same.trans current
      refine ⟨fun early => ?_, fun x phase => ?_, fun phase => ?_⟩
      · rw [loss, State.takeDoor_early current' craft early]
      · rw [loss, State.takeDoor_exit current' craft phase, ExitRec.note_eq]
        rfl
      · rw [loss, State.takeDoor_release current' craft phase]
  · intro active derived entered noticed handed
    refine ⟨State.inputEvent_unassigned, fun held => ?_⟩
    have event : s.inputEvent = s.setSupply derived .inputs := State.inputEvent_assigned held
    refine ⟨fun same => ?_, fun other => event.trans (State.setSupply_other .inputs other)⟩
    rw [event, State.setSupply_same .inputs same, same]
    rfl
  · intro a now
    have running' : a.running = true := running
    refine ⟨fun p other => exec_debounceExpiry_eq running (State.endDebounce_other other), fun p reads surge => ?_,
      fun unheld => exec_surgeClearExpiry_eq running (State.endSurgeClear_unheld unheld),
      fun p holds window => exec_surgeClearExpiry_eq running (State.endSurgeClear_closed (s := a) (p := p) holds window),
      fun other => exec_quietExpiry_eq running (State.endQuiet_other other),
      fun p e holds window => exec_surgeClearExpiry_eq running (State.endSurgeClear_open (s := a) (p := p) holds window),
      fun e quiet => exec_quietExpiry_eq running (State.endQuiet_quiet (s := a) quiet)⟩
    intro r v was is_ done
    refine ⟨fun early => exec_debounceExpiry_eq running (State.endDebounce_early early), fun e window reached => ?_⟩
    have ended := State.endDebounce_due (s := a) (p := p) reads surge window reached
    refine ⟨fun same => exec_debounceExpiry_eq running (ended.trans (if_pos same)), fun other => ?_⟩
    have taken : a.endDebounce p = v.levelTaken p (decide was) := by
      have before : (a.point p).active = decide was := Point.active_eq _
      exact (ended.trans (if_neg other)).trans (by rw [before]; rfl)
    have fn : (v.point p).fn = r.fn := State.settled_fn (s := a)
    have after : (v.point p).active = decide is_ := State.settled_active (s := a) (p := p)
    unfold State.levelTaken at taken
    rw [fn, after] at taken
    refine ⟨fun door yes no => ?_, fun door no yes => ?_, fun spare moved => ?_, fun either same => ?_, fun supply => ?_,
      fun none_ => ?_⟩
    · rw [door, decide_eq_true yes, decide_eq_false no] at taken
      exact exec_debounceExpiry_eq running taken
    · rw [door, decide_eq_false no, decide_eq_true yes] at taken
      exact exec_debounceExpiry_eq running taken
    · have differs : Decidable.decide is_ ≠ Decidable.decide was := fun same => by
        have alike : is_ ↔ was := decide_eq_decide.mp same
        exact iff_not_self (alike.symm.trans moved)
      rw [spare] at taken
      exact exec_debounceExpiry_eq running (taken.trans (if_neg differs))
    · have alike : Decidable.decide is_ = Decidable.decide was := decide_eq_decide.mpr same
      rcases either with kind | kind
      · rw [kind] at taken
        exact exec_debounceExpiry_eq running (taken.trans (if_pos alike))
      · rw [kind] at taken
        exact exec_debounceExpiry_eq running (taken.trans (if_pos alike))
    · rcases supply with kind | kind | kind <;> rw [kind] at taken <;> exact exec_debounceExpiry_eq running taken
    · rw [none_] at taken
      exact exec_debounceExpiry_eq running taken

end Sys2Proof.Machine
end

section
/-! What a start leaves of its settings: the functions of the points (R169), the kept flow entries (R65) and the cap
class (R158). -/

namespace Sys2Proof.Machine

/-! ### The functions of the points (R169) -/

/-- A fold that appends to a list one element for each of another gives element i from the elements before it. -/
theorem getElem?_foldl_append {α β : Type} (g : List β → α → β) (xs : List α) :
    (xs.foldl (fun acc x => acc ++ [g acc x]) []).length = xs.length ∧
    ∀ (i : Nat) (x : α), xs[i]? = some x → (xs.foldl (fun acc x => acc ++ [g acc x]) [])[i]? =
      some (g ((xs.foldl (fun acc x => acc ++ [g acc x]) []).take i) x) := by
  induction xs using List.reverseRecOn with
  | nil => exact ⟨rfl, fun i x h => by simp at h⟩
  | append_singleton xs last ih =>
    obtain ⟨length, values⟩ := ih
    rw [List.foldl_append, List.foldl_cons, List.foldl_nil]
    generalize xs.foldl (fun acc x => acc ++ [g acc x]) [] = made at length values ⊢
    refine ⟨by simp [length], fun i x at_ => ?_⟩
    rcases Nat.lt_or_ge i xs.length with before | beyond
    · rw [List.getElem?_append_left before] at at_
      rw [List.getElem?_append_left (by omega), List.take_append_of_le_length (by omega)]
      exact values i x at_
    · have last_ : i = xs.length := by
        have within := (List.getElem?_eq_some_iff.mp at_).1
        rw [List.length_append, List.length_singleton] at within
        omega
      subst last_
      rw [List.getElem?_concat_length] at at_
      cases at_
      rw [← length, List.getElem?_concat_length, List.take_left]

section
variable {st : Settings}

/-- The function that point p takes at a start. -/
def Settings.fnAt (st : Settings) (p : PointNo) : PointFn := (startFns st).getD p.val .unassigned

/-- The functions taken by the points before p. -/
def Settings.fnsBefore (st : Settings) (p : PointNo) : List PointFn := (startFns st).take p.val

theorem startFns_length (st : Settings) : (startFns st).length = 12 :=
  (getElem?_foldl_append (fun taken p => if (pointGroup p).permits st.points[p].1 &&
    (st.points[p].1 == .unassigned || !taken.contains st.points[p].1) then st.points[p].1 else .unassigned) allPoints).1

theorem startFns_getElem? (st : Settings) (p : PointNo) : (startFns st)[p.val]? = some (st.fnAt p) := by
  have within : p.val < (startFns st).length := by rw [startFns_length]; exact p.isLt
  rw [Settings.fnAt, List.getD_eq_getElem?_getD, List.getElem?_eq_getElem within]
  rfl

theorem Settings.mem_fnsBefore {p : PointNo} {f : PointFn} : f ∈ st.fnsBefore p ↔ ∃ q, q < p ∧ st.fnAt q = f := by
  rw [Settings.fnsBefore, List.mem_take_iff_getElem]
  constructor
  · rintro ⟨i, within, is⟩
    have before : i < p.val := by omega
    have short : i < (startFns st).length := by omega
    refine ⟨⟨i, before.trans p.isLt⟩, before, ?_⟩
    have here := startFns_getElem? st ⟨i, before.trans p.isLt⟩
    rw [List.getElem?_eq_getElem short, is] at here
    exact (Option.some.inj here).symm
  · rintro ⟨q, before, is⟩
    have bound := startFns_length st
    have before' : q.val < p.val := before
    have here := startFns_getElem? st q
    rw [List.getElem?_eq_getElem (by omega), is] at here
    exact ⟨q.val, by omega, Option.some.inj here⟩

theorem Settings.mem_startFns {f : PointFn} : f ∈ startFns st ↔ ∃ p, st.fnAt p = f := by
  rw [List.mem_iff_getElem]
  constructor
  · rintro ⟨i, within, is⟩
    have low : i < 12 := startFns_length st ▸ within
    have here := startFns_getElem? st ⟨i, low⟩
    rw [List.getElem?_eq_getElem within, is] at here
    exact ⟨_, (Option.some.inj here).symm⟩
  · rintro ⟨p, is⟩
    have here := startFns_getElem? st p
    have within : p.val < (startFns st).length := by rw [startFns_length]; exact p.isLt
    rw [List.getElem?_eq_getElem within, is] at here
    exact ⟨p.val, within, Option.some.inj here⟩

theorem Settings.fnAt_eq (st : Settings) (p : PointNo) : st.fnAt p =
    if (pointGroup p).permits st.points[p].1 &&
      (st.points[p].1 == .unassigned || !(st.fnsBefore p).contains st.points[p].1) then st.points[p].1
    else .unassigned := by
  have made := (getElem?_foldl_append (fun taken p => if (pointGroup p).permits st.points[p].1 &&
    (st.points[p].1 == .unassigned || !taken.contains st.points[p].1) then st.points[p].1 else .unassigned) allPoints).2
    p.val p (by simp [allPoints])
  exact Option.some.inj ((startFns_getElem? st p).symm.trans made)

/-- Point p takes its function: its group permits it, and no earlier point has taken it. -/
def Settings.Takes (st : Settings) (p : PointNo) : Prop := Permits p st.points[p].1 ∧
  (st.points[p].1 = .unassigned ∨ ∀ q, q < p → st.fnAt q ≠ st.points[p].1)

theorem Settings.takes_iff (st : Settings) (p : PointNo) : st.Takes p ↔ ((pointGroup p).permits st.points[p].1 &&
    (st.points[p].1 == .unassigned || !(st.fnsBefore p).contains st.points[p].1)) = true := by
  simp only [Settings.Takes, permits_iff, Bool.and_eq_true, Bool.or_eq_true, beq_iff_eq, Bool.not_eq_true',
    ← Bool.not_eq_true, List.contains_iff_mem, Settings.mem_fnsBefore, not_exists, not_and]

theorem Settings.fnAt_of_takes {p : PointNo} (takes : st.Takes p) : st.fnAt p = st.points[p].1 :=
  (st.fnAt_eq p).trans (if_pos ((st.takes_iff p).mp takes))

theorem Settings.fnAt_of_not_takes {p : PointNo} (refused : ¬st.Takes p) : st.fnAt p = .unassigned :=
  (st.fnAt_eq p).trans (if_neg (mt (st.takes_iff p).mpr refused))

/-- No two points take one function. -/
theorem Settings.fnAt_first {p : PointNo} {f : PointFn} (is : st.fnAt p = f) (some_ : f ≠ .unassigned) :
    ∀ q, q < p → st.fnAt q ≠ f := by
  by_cases takes : st.Takes p
  · have own := (Settings.fnAt_of_takes takes).symm.trans is
    obtain ⟨-, unassigned | first⟩ := takes
    · exact absurd (own.symm.trans unassigned) some_
    · rwa [own] at first
  · exact absurd (is.symm.trans (Settings.fnAt_of_not_takes takes)) some_

/-! ### The kept flow entries (R65) -/

/-- A fold of updates, each at its own index, leaves the indexes it does not reach. -/
theorem foldl_getElem_of_notMem {g : Vector (Option FlowEntry) 64 → FlowIdx → Vector (Option FlowEntry) 64}
    (own : ∀ t k j, j ≠ k → (g t k)[j] = t[j]) {j : FlowIdx} (ks : List FlowIdx) (out : j ∉ ks)
    (t : Vector (Option FlowEntry) 64) : (ks.foldl g t)[j] = t[j] := by
  induction ks generalizing t with
  | nil => rfl
  | cons k ks ih =>
    obtain ⟨other, rest⟩ : j ≠ k ∧ j ∉ ks := by simpa using out
    rw [List.foldl_cons, ih rest, own t k j other]

/-- A fold of updates in ascending index: entry k is made on a table that holds the final entries below k and the first
ones from k on. -/
theorem foldl_allFlows_getElem {g : Vector (Option FlowEntry) 64 → FlowIdx → Vector (Option FlowEntry) 64}
    (own : ∀ t k j, j ≠ k → (g t k)[j] = t[j]) (t : Vector (Option FlowEntry) 64) (k : FlowIdx) :
    ∃ v : Vector (Option FlowEntry) 64, (allFlows.foldl g t)[k] = (g v k)[k] ∧
      (∀ j, j < k → v[j] = (allFlows.foldl g t)[j]) ∧ ∀ j, k ≤ j → v[j] = t[j] := by
  have listed : k ∈ allFlows := List.mem_finRange k
  have ordered : allFlows.Pairwise (· < ·) := List.pairwise_lt_finRange 64
  obtain ⟨below, above, parts⟩ := List.append_of_mem listed
  rw [parts] at ordered ⊢
  rw [List.pairwise_append, List.pairwise_cons] at ordered
  obtain ⟨-, ⟨beyond, -⟩, lower⟩ := ordered
  have low (j : FlowIdx) (mem : j ∈ below) : j < k := lower j mem k List.mem_cons_self
  have notAbove (j : FlowIdx) (le : j ≤ k) : j ∉ above := fun mem => absurd (beyond j mem) (not_lt.mpr le)
  have final : (below ++ k :: above).foldl g t = above.foldl g (g (below.foldl g t) k) := by
    rw [List.foldl_append, List.foldl_cons]
  rw [final]
  refine ⟨below.foldl g t, foldl_getElem_of_notMem own above (notAbove k le_rfl) _, fun j less => ?_, fun j le => ?_⟩
  · rw [foldl_getElem_of_notMem own above (notAbove j less.le), own _ k j less.ne]
  · exact foldl_getElem_of_notMem own below (fun mem => absurd (low j mem) (not_lt.mpr le)) t

/-- The step of the loading fold. -/
def Settings.load (st : Settings) (flows : Vector (Option FlowEntry) 64) (k : FlowIdx) : Vector (Option FlowEntry) 64 :=
  match st.keptAt k with
  | some c => loadKept (LineSet.has st.equipped) flows k c
  | none => flows

theorem loadKept_other (equipped : LineNo → Bool) (flows : Vector (Option FlowEntry) 64) (k : FlowIdx) (c : FlowContent)
    {j : FlowIdx} (other : j ≠ k) : (loadKept equipped flows k c)[j] = flows[j] := by
  unfold loadKept
  split
  · split
    · rfl
    · rw [getElem_set_flow, if_neg other]
  · rfl

theorem Settings.load_other (flows : Vector (Option FlowEntry) 64) (k : FlowIdx) {j : FlowIdx} (other : j ≠ k) :
    (st.load flows k)[j] = flows[j] := by
  unfold Settings.load
  split
  · exact loadKept_other _ _ _ _ other
  · rfl

/-- The table on which a start examines index k: the entries that it leaves below k, and none from k on. -/
theorem startFlows_getElem (st : Settings) (k : FlowIdx) : ∃ v : Vector (Option FlowEntry) 64,
    (startFlows st)[k] = (st.load v k)[k] ∧ (∀ j, j < k → v[j] = (startFlows st)[j]) ∧ ∀ j, k ≤ j → v[j] = none := by
  obtain ⟨v, here, below, above⟩ :=
    foldl_allFlows_getElem (g := st.load) (fun t k j other => st.load_other t k other) (Vector.replicate 64 none) k
  exact ⟨v, here, below, fun j le => (above j le).trans (by simp)⟩

theorem startFlows_of_none {k : FlowIdx} (kept : st.keptAt k = none) : (startFlows st)[k] = none := by
  obtain ⟨v, here, -, above⟩ := startFlows_getElem st k
  rw [here, Settings.load, kept]
  exact above k le_rfl

theorem startFlows_of_refused {k : FlowIdx} {c : FlowContent} (kept : st.keptAt k = some c)
    (refused : FlowContent.entry (LineSet.has st.equipped) c = none) : (startFlows st)[k] = none := by
  obtain ⟨v, here, -, above⟩ := startFlows_getElem st k
  rw [here, Settings.load, kept]
  simp only [loadKept, refused]
  exact above k le_rfl

theorem startFlows_of_entry {k : FlowIdx} {c : FlowContent} {e : FlowEntry} (kept : st.keptAt k = some c)
    (entry : FlowContent.entry (LineSet.has st.equipped) c = some e) :
    ((∃ (j : FlowIdx) (f : FlowEntry), j < k ∧ (startFlows st)[j] = some f ∧ EntriesMeet e f) →
      (startFlows st)[k] = none) ∧
    ((∀ (j : FlowIdx) (f : FlowEntry), j < k → (startFlows st)[j] = some f → ¬EntriesMeet e f) →
      (startFlows st)[k] = some { e with kept := true }) := by
  obtain ⟨v, here, below, above⟩ := startFlows_getElem st k
  have loaded : (startFlows st)[k] = (if overlapsAny v (fun _ => true) e then v else v.set k (some { e with kept := true }))[k] := by
    rw [here, Settings.load, kept]
    simp only [loadKept, entry]
  refine ⟨fun ⟨j, f, less, earlier, meets⟩ => ?_, fun apart => ?_⟩
  · have overlap : overlapsAny v (fun _ => true) e = true :=
      (overlapsAny_iff _ _ _).mpr ⟨j, f, rfl, (below j less).trans earlier, meets⟩
    rw [loaded, if_pos overlap]
    exact above k le_rfl
  · have clear : ¬overlapsAny v (fun _ => true) e = true := by
      rw [overlapsAny_iff]
      rintro ⟨j, f, -, there, meets⟩
      rcases lt_or_ge j k with less | le
      · exact apart j f less ((below j less).symm.trans there) meets
      · rw [above j le] at there
        cases there
    rw [loaded, if_neg clear, getElem_set_flow, if_pos rfl]

theorem FlowContent.entry_of_not_fits {equipped : LineNo → Bool} {c : FlowContent} (bad : ¬ContentFits equipped c) :
    FlowContent.entry equipped c = none := by
  cases owner : ownerOfByte c.owner with
  | none => simp only [FlowContent.entry, owner]
  | some o => exact (FlowContent.entry_of_named equipped c o ((ownerNamed_iff c o).mpr owner)).2 bad

/-! ### The cap class (R158) -/

variable {s : State}

/-- With no counted line and an idle engine, the cap class alone is committed. -/
theorem State.committed_bare (bare : ∀ l, (s.line l).state.counted = false) (idle : s.engine.current = none) :
    s.committed = classCost s.energy.cap := by
  have engine : s.enginePart = 0 := by simp [State.enginePart, idle]
  rw [State.committed, State.linePart_eq_zero bare, engine, State.capPart, Nat.add_zero, Nat.zero_add]

/-- Class c is the one that a start's shedding pass leaves under a ceiling and a budget. -/
structure CapFitted (ceiling budget c : Nat) : Prop where
  low : 1 ≤ c
  below : c ≤ ceiling
  fits : classCost c ≤ budget
  highest : c = ceiling ∨ budget < classCost (c + 1)

theorem State.shedLoop_bare (n : Nat) {s : State} (bare : ∀ l, (s.line l).state.counted = false)
    (idle : s.engine.current = none) (floor : 4 ≤ s.budget) (low : 1 ≤ s.energy.cap) (room : s.energy.cap ≤ n) :
    ∃ c, CapFitted s.energy.cap s.budget c ∧ s.shedLoop n = s.setCap c := by
  induction n generalizing s with
  | zero => omega
  | succ n ih =>
    have committed := State.committed_bare bare idle
    by_cases within : s.committed ≤ s.budget
    · exact ⟨s.energy.cap, ⟨low, le_rfl, committed ▸ within, .inl rfl⟩, by rw [State.shedLoop, if_pos within]; rfl⟩
    · have above : 1 < s.energy.cap := by
        by_contra lowest
        have one : s.energy.cap = 1 := by omega
        rw [one] at committed
        have cost : classCost 1 = 4 := rfl
        omega
      have lowered : (s.setCap (s.energy.cap - 1)).energy.cap = s.energy.cap - 1 := rfl
      obtain ⟨c, fitted, is⟩ := ih (s := s.setCap (s.energy.cap - 1)) bare idle floor (by rw [lowered]; omega)
        (by rw [lowered]; omega)
      obtain ⟨low', below, fits, highest⟩ := fitted
      rw [lowered] at below highest
      refine ⟨c, ⟨low', by omega, fits, .inr ?_⟩, ?_⟩
      · rcases highest with top | more
        · rw [top, Nat.sub_add_cancel low]
          omega
        · exact more
      · rw [State.shedLoop, if_neg within, if_pos above, is]
        rfl

end

end Sys2Proof.Machine
end

section
/-! Power, the RESET pin and the start (R24, R41, R65, R158, R169, R191 to R193). -/

namespace Sys2Proof.Machine

/-! ### A settings write stopped (R191) -/

/-- A settings write is under way. -/
def State.saving (s : State) : Bool :=
  match s.ports.main.job with
  | some (.save _ _) => true
  | _ => false

section
variable {s : State}

theorem State.stopWrite_eq (s : State) : s.stopWrite = if s.saving then
    { s with store := { words := Config.mixedImage s.freeCount, mark := true }, freeCount := s.freeCount + 1 } else s := by
  unfold State.stopWrite State.saving
  cases s.ports.main.job with
  | none => rfl
  | some job => cases job <;> rfl

theorem State.stopWrite_store (s : State) : s.stopWrite.store =
    if s.saving then { words := Config.mixedImage s.freeCount, mark := true } else s.store := by
  rw [State.stopWrite_eq]
  exact apply_ite State.store _ _ _

theorem State.stopWrite_freeCount (s : State) : s.stopWrite.freeCount = if s.saving then s.freeCount + 1 else s.freeCount := by
  rw [State.stopWrite_eq]
  exact apply_ite State.freeCount _ _ _

/-- The image that a start finds is good: no write was stopped, and the store's own image is. -/
def State.imageGood (s : State) : Bool := !s.saving && s.store.good

/-- The settings that a start loads (R191, R192). -/
def State.loaded (s : State) : Settings := if s.imageGood then Settings.ofWords s.store.words else Settings.default

/-- The verdict on the image. -/
def State.verdict (s : State) : SettingsStatus := if s.imageGood then .good else .defaulted

theorem State.stopWrite_good (s : State) : s.stopWrite.store.good = s.imageGood := by
  rw [State.stopWrite_eq, State.imageGood]
  cases s.saving with
  | true => simp [Store.good]
  | false => rfl

theorem State.stopWrite_words (good : s.imageGood = true) : s.stopWrite.store.words = s.store.words := by
  have free : s.saving = false := by
    rw [State.imageGood, Bool.and_eq_true, Bool.not_eq_true'] at good
    exact good.1
  rw [State.stopWrite_eq, free]
  rfl

theorem State.loaded_ranged (s : State) : s.loaded.Ranged := by
  unfold State.loaded
  split
  case isTrue good =>
    rw [← State.stopWrite_words good]
    exact Settings.ofWords_ranged_of_good (s.stopWrite_good.trans good)
  case isFalse => exact Settings.default_ranged

/-! ### The start (R158, R192) -/

/-- The machine with the loaded settings, before its cap class is fitted. -/
def State.begun (cause : StartCause) (s : State) : State := s.stopWrite.startWith s.loaded s.verdict cause

theorem State.start_eq_begun (cause : StartCause) (s : State) :
    s.start cause = (s.begun cause).sheddingPass.startSurgeNotice := by
  unfold State.start State.begun State.loaded State.verdict
  dsimp only
  rw [State.stopWrite_good]
  split
  case isTrue good => rw [State.stopWrite_words good]
  case isFalse => rfl

theorem State.startWith_fitted {st : Settings} (ranged : st.Ranged) (status : SettingsStatus) (cause : StartCause) (v : State) :
    ∃ c, CapFitted st.params.capCeiling st.budgets.battLow c ∧
      (v.startWith st status cause).sheddingPass = (v.startWith st status cause).setCap c := by
  have ceiling := ranged.params.capCeiling
  have bare (l : LineNo) : ((v.startWith st status cause).line l).state.counted = false := by
    rw [State.line_startWith]
    simp only [startLine]
    split <;> rfl
  have cap : (v.startWith st status cause).energy.cap = st.params.capCeiling := rfl
  have budget : (v.startWith st status cause).budget = st.budgets.battLow := rfl
  have bound : st.params.capCeiling ≤ 28 := ceiling.2.trans (by decide)
  have fitted := State.shedLoop_bare 28 bare rfl (by rw [budget]; exact (ranged.budgets .battLow).1) (by rw [cap]; exact ceiling.1)
    (by rw [cap]; exact bound)
  rwa [cap, budget] at fitted

theorem State.startSurgeNotice_eq (s : State) : s.startSurgeNotice = { s with notices := s.startSurgeNotice.notices } := by
  unfold State.startSurgeNotice State.notify
  (repeat' split) <;> rfl

/-- A start makes the machine of its settings, the cap class fitted to them. -/
theorem State.start_eq (cause : StartCause) (s : State) : ∃ c, CapFitted s.loaded.params.capCeiling s.loaded.budgets.battLow c ∧
    s.start cause = ((s.stopWrite.startWith s.loaded s.verdict cause).setCap c).startSurgeNotice := by
  obtain ⟨c, fitted, passed⟩ := State.startWith_fitted s.loaded_ranged s.verdict cause s.stopWrite
  refine ⟨c, fitted, ?_⟩
  rw [State.start_eq_begun, State.begun, passed]

/-! ### The points (R169) -/

/-- The machine that a start of v makes of settings, a verdict and the cap class c, before a surge is noticed. -/
def State.madeWith (st : Settings) (status : SettingsStatus) (cause : StartCause) (c : Nat) (v : State) : State :=
  (v.startWith st status cause).setCap c

theorem State.setCap_point (c : Nat) (s : State) (p : PointNo) : (s.setCap c).point p = s.point p := rfl

theorem State.madeWith_point (st : Settings) (status : SettingsStatus) (cause : StartCause) (c : Nat) (v : State)
    (p : PointNo) : (v.madeWith st status cause c).point p = startPoint st v.now (v.point p) p := by
  rw [State.madeWith, State.setCap_point]
  simp only [State.point, State.startWith, Fin.getElem_fin, Vector.getElem_ofFn]

variable {st : Settings} {now : Nat} {old : Point} {p : PointNo}

/-- The point holds SURGE, and its input stands at the active level. -/
def Settings.SurgeAtOnce (st : Settings) (old : Point) (p : PointNo) : Prop :=
  st.fnAt p = .surge ∧ old.input = st.points[p].2.active

theorem Settings.surgeAtOnce_iff (st : Settings) (old : Point) (p : PointNo) : st.SurgeAtOnce old p ↔
    (st.fnAt p == .surge && old.input == st.points[p].2.active) = true := by
  rw [Settings.SurgeAtOnce, Bool.and_eq_true, beq_iff_eq, beq_iff_eq]

theorem startPoint_eq : startPoint st now old p = {
    fn := st.fnAt p, polarity := st.points[p].2, input := old.input
    debounced := if st.fnAt p == .surge && old.input == st.points[p].2.active then some st.points[p].2.active else none
    window := if drivesWith p (st.fnAt p) || (st.fnAt p == .surge && old.input == st.points[p].2.active) then none
      else some (now + 20000)
    driven := false } := by
  unfold startPoint Settings.fnAt
  rfl

theorem startPoint_fn : (startPoint st now old p).fn = st.fnAt p := by rw [startPoint_eq]

theorem startPoint_atOnce (atOnce : st.SurgeAtOnce old p) :
    (startPoint st now old p).debounced = some old.input ∧ (startPoint st now old p).window = none := by
  have holds := (st.surgeAtOnce_iff old p).mp atOnce
  rw [startPoint_eq]
  dsimp only
  rw [holds, Bool.or_true, ← atOnce.2]
  exact ⟨rfl, rfl⟩

theorem startPoint_waits (waits : ¬st.SurgeAtOnce old p) : (startPoint st now old p).debounced = none ∧
    (Drives p (st.fnAt p) → (startPoint st now old p).window = none) ∧
    (¬Drives p (st.fnAt p) → (startPoint st now old p).window = some (now + 20000)) := by
  have not : (st.fnAt p == .surge && old.input == st.points[p].2.active) = false :=
    Bool.eq_false_iff.mpr (mt (st.surgeAtOnce_iff old p).mpr waits)
  rw [startPoint_eq, drives_iff]
  dsimp only
  rw [not, Bool.or_false]
  exact ⟨rfl, fun drives => if_pos drives, fun reads => if_neg reads⟩

/-- A point that a start has made is active exactly when it is a surge found at the start. -/
theorem made_active_iff {u : State} {old : PointNo → Point} (point : ∀ p, u.point p = startPoint st now (old p) p) (p : PointNo) :
    (u.point p).active = true ↔ st.SurgeAtOnce (old p) p := by
  rw [Point.active_iff, point]
  by_cases atOnce : st.SurgeAtOnce (old p) p
  · rw [(startPoint_atOnce atOnce).1, startPoint_eq, atOnce.2]
    exact iff_of_true rfl atOnce
  · rw [(startPoint_waits atOnce).1]
    exact iff_of_false (fun no => nomatch no) atOnce

/-! ### The notice of a surge found at the start (R169) -/

theorem State.startSurgeNotice_calm (calm : ∀ p, (s.point p).fn = .surge → ¬(s.point p).active = true) :
    s.startSurgeNotice = s := by
  unfold State.startSurgeNotice
  split
  case h_1 p found => exact if_neg (calm p (State.holder_eq_some_iff.mp found).1)
  case h_2 => rfl

theorem State.startSurgeNotice_active (holds : Holds s .surge p) (active : (s.point p).active = true) :
    s.startSurgeNotice = s.notify (.point p .surge true) := by
  simp only [State.startSurgeNotice, State.holder_eq_some_iff.mpr holds, if_pos active]

theorem State.notify_room (n : Notice) (room : s.notices.queue.length < 32) :
    s.notify n = { s with notices := { s.notices with queue := s.notices.queue ++ [n] } } := if_pos room

theorem State.startSurgeNotice_lost (room : s.notices.queue.length < 32) :
    s.startSurgeNotice.notices.lost = s.notices.lost := by
  unfold State.startSurgeNotice
  split
  · split
    · rw [State.notify_room _ room]
    · rfl
  · rfl

end

/-! ### Power and the RESET pin (R193) -/

theorem State.halt_eq (s : State) : s.halt = { s.stopWrite with ports := { s.ports with
    main := { s.ports.main with job := none }, craft := { s.ports.craft with job := none } } } := by
  have ports : s.stopWrite.ports = s.ports := by simp
  rw [State.halt]
  dsimp only
  rw [ports]

/-- Settles O50: the commands of power and pin by what stands, and every field of a start. -/
theorem powerAndStart : Obligations.PowerAndStart := by
  refine ⟨fun t s => ?_, fun cause s => ?_⟩
  · intro a torn halted
    have stopped : a.halt = halted := State.halt_eq a
    have lost : exec (.powerLoss t) s = .next { a.halt with powered := false } := rfl
    have low : exec (.resetPinLow t) s = .next { a.halt with resetLow := true } := rfl
    have on : exec (.powerOn t) s = .next a.applyPower := rfl
    have release : exec (.resetPinRelease t) s = .next a.pinHigh := rfl
    rw [lost, low, on, release, stopped]
    refine ⟨rfl, rfl, fun high => ?_, fun held => ?_, fun held powered => ?_, fun held off => ?_, fun high => ?_⟩
    · exact congrArg _ (if_neg (by rw [show a.resetLow = false from high]; exact Bool.false_ne_true))
    · exact congrArg _ (if_pos held)
    · exact congrArg _ ((if_pos held).trans (if_pos powered))
    · exact congrArg _ ((if_pos held).trans (if_neg (by rw [show a.powered = false from off]; exact Bool.false_ne_true)))
    · exact congrArg _ (if_neg (by rw [show a.resetLow = false from high]; exact Bool.false_ne_true))
  · obtain ⟨c, fitted, is⟩ := State.start_eq cause s
    intro u saving good st equipped cost
    have loaded : s.loaded = st := rfl
    have verdict : s.verdict = if good then SettingsStatus.good else .defaulted := rfl
    have store : s.stopWrite.store = if saving then { words := Config.mixedImage s.freeCount, mark := true } else s.store :=
      s.stopWrite_store
    have count : s.stopWrite.freeCount = if saving then s.freeCount + 1 else s.freeCount := s.stopWrite_freeCount
    have running : s.stopWrite.running = s.running := by simp [State.running]
    have now : s.stopWrite.now = s.now := by simp
    have pending : s.stopWrite.pending = s.pending := by simp
    have old (p : PointNo) : s.stopWrite.point p = s.point p := State.point_congr (by simp) p
    have made : u = (s.stopWrite.madeWith st s.verdict cause c).startSurgeNotice := is
    rw [loaded] at fitted
    generalize s.stopWrite = v at store count running now pending old made
    generalize s.verdict = status at verdict made
    clear_value u st good
    clear loaded
    obtain ⟨capLow, capBelow, capFits, capHighest⟩ := fitted
    have costs (k : Nat) (some_ : 1 ≤ k) : classCost k = cost k := classCost_eq some_
    have point (p : PointNo) : (v.madeWith st status cause c).point p = startPoint st s.now (s.point p) p := by
      rw [State.madeWith_point, now, old]
    have begins : (v.madeWith st status cause c).notices = { queue := [.start cause status], lost := 0 } := rfl
    have lost : u.notices.lost = 0 := by
      rw [made, State.startSurgeNotice_lost (by rw [begins]; exact (by decide : 1 < 32)), begins]
    have quiet (none_ : ∀ p, ¬st.SurgeAtOnce (s.point p) p) : u.notices.queue = [.start cause status] := by
      rw [made, State.startSurgeNotice_calm fun p _ active => none_ p ((made_active_iff point p).mp active), begins]
    have noticed {p : PointNo} (atOnce : st.SurgeAtOnce (s.point p) p) :
        u.notices.queue = [.start cause status, .point p .surge true] := by
      have holds : Holds (v.madeWith st status cause c) .surge p :=
        ⟨by rw [point, startPoint_fn]; exact atOnce.1, fun q less => by
          rw [point, startPoint_fn]; exact Settings.fnAt_first atOnce.1 PointFn.noConfusion q less⟩
      rw [made, State.startSurgeNotice_active holds ((made_active_iff point p).mpr atOnce),
        State.notify_room _ (by rw [begins]; exact (by decide : 1 < 32)), begins]
      rfl
    have rest : u = { v.madeWith st status cause c with notices := u.notices } := by
      rw [made]
      exact State.startSurgeNotice_eq _
    have uPoint (p : PointNo) : u.point p = startPoint st s.now (s.point p) p := by
      have points : (v.madeWith st status cause c).startSurgeNotice.points = (v.madeWith st status cause c).points := by simp
      rw [made, State.point_congr points, point]
    have uLine (l : LineNo) : u.line l = startLine st l := by
      have lines : u.lines = (v.startWith st status cause).lines := by
        rw [rest]
        rfl
      rw [State.line_congr lines, State.line_startWith]
    have kept : u.store = v.store ∧ u.freeCount = v.freeCount ∧ u.running = v.running ∧ u.now = v.now ∧ u.pending = v.pending := by
      simp [made, State.madeWith, State.running]
    rw [store, count, running, now, pending] at kept
    obtain ⟨n, same⟩ : ∃ n, u.notices = n := ⟨_, rfl⟩
    rw [same] at rest lost quiet
    replace noticed {p : PointNo} (atOnce : st.SurgeAtOnce (s.point p) p) := same ▸ noticed atOnce
    clear made same
    subst rest
    refine ⟨uLine, rfl, rfl, rfl, fun l => ⟨Vector.getElem_replicate _,
      Vector.getElem_replicate _, Vector.getElem_replicate _⟩, rfl, rfl, rfl, rfl, fun k => ?_, rfl, rfl, rfl, rfl, rfl, rfl,
      capLow, capBelow, ?_, ?_, rfl, ?_, fun p => ?_, fun held => ?_, fun unheld => ?_, fun calm => ?_, rfl, rfl, rfl, verdict,
      lost, kept⟩
    · have content_kept {i : Nat} {content : FlowContent} (found : st.kept.find? (fun e => e.1 == k.val) = some (i, content)) :
          st.keptAt k = some content := by
        rw [Settings.keptAt, found]
        rfl
      refine ⟨fun none_ => startFlows_of_none (st := st) ?_, fun i content found =>
        ⟨fun bad => startFlows_of_refused (content_kept found) (FlowContent.entry_of_not_fits bad), fun fits o named =>
          startFlows_of_entry (content_kept found) ((FlowContent.entry_of_named _ _ _ named).1 fits)⟩⟩
      rw [Settings.keptAt, none_]
      rfl
    · exact (costs c capLow).symm.trans_le capFits
    · exact capHighest.imp id fun above => above.trans_eq (costs _ (Nat.succ_pos c))
    · refine Bool.eq_false_iff.mpr fun open_ => ?_
      obtain ⟨p, ⟨door, -⟩, level⟩ := State.doorOpen_iff.mp open_
      have atOnce := (made_active_iff uPoint p).mp ((Point.active_iff _).mpr level)
      rw [uPoint, startPoint_fn, atOnce.1] at door
      cases door
    · intro r f takes atOnce
      have rIs : r = startPoint st s.now (s.point p) p := uPoint p
      have fn : r.fn = st.fnAt p := by rw [rIs, startPoint_fn]
      have takesIs : takes ↔ st.Takes p :=
        and_congr_right' (or_congr_right (forall_congr' fun q => imp_congr_right fun _ => by rw [uPoint q, startPoint_fn]))
      have atOnceIs : atOnce ↔ st.SurgeAtOnce (s.point p) p := by
        have written : atOnce ↔ r.fn = .surge ∧ r.input = r.polarity.active := Iff.rfl
        rw [written, rIs, startPoint_eq, Settings.SurgeAtOnce]
      refine ⟨fun yes => fn.trans (Settings.fnAt_of_takes (takesIs.mp yes)),
        fun no => fn.trans (Settings.fnAt_of_not_takes (mt takesIs.mpr no)), by rw [rIs, startPoint_eq],
        by rw [rIs, startPoint_eq], by rw [rIs, startPoint_eq], fun yes => ?_, fun no => ?_⟩
      · have surges := atOnceIs.mp yes
        obtain ⟨debounced, window⟩ := startPoint_atOnce (now := s.now) surges
        have input : r.input = (s.point p).input := by rw [rIs, startPoint_eq]
        rw [input, rIs]
        exact ⟨debounced, window, noticed surges⟩
      · rw [fn, rIs]
        exact startPoint_waits (mt atOnceIs.mpr no)
    · obtain ⟨p, surge⟩ := held
      rw [uPoint, startPoint_fn] at surge
      exact if_pos (List.contains_iff_mem.mpr (Settings.mem_startFns.mpr ⟨p, surge⟩))
    · refine if_neg fun taken => ?_
      obtain ⟨p, surge⟩ := Settings.mem_startFns.mp (List.contains_iff_mem.mp taken)
      exact unheld p (by rw [uPoint, startPoint_fn, surge])
    · refine quiet fun p atOnce => ?_
      have off := calm p (by rw [uPoint, startPoint_fn, atOnce.1])
      rw [uPoint, startPoint_eq] at off
      exact off atOnce.2

end Sys2Proof.Machine
end

section
/-! The settings image (R189): where each word of an image stands, that settings in their ranges are read back from
theirs, and that it is good. -/

namespace Sys2Proof.Machine

/-! ### The words of a list made of parts -/

section
variable {a b : List Half} {n i : Nat}

theorem getD_append_add (length : a.length = n) (i : Nat) : (a ++ b).getD (n + i) 0 = b.getD i 0 := by
  subst length
  rw [List.getD_append_right _ _ _ _ (Nat.le_add_right _ _), Nat.add_sub_cancel_left]

/-- Parts of one size: word j of part i. -/
theorem getD_flatMap {α : Type} {f : α → List Half} {k : Nat} (size : ∀ x, (f x).length = k) (xs : List α) {i j : Nat}
    (part : i < xs.length) (within : j < k) (rest : List Half) :
    (xs.flatMap f ++ rest).getD (k * i + j) 0 = (f xs[i]).getD j 0 := by
  induction xs generalizing i with
  | nil => exact absurd part (Nat.not_lt_zero i)
  | cons x xs ih =>
    rw [List.flatMap_cons, List.append_assoc]
    cases i with
    | zero =>
      rw [Nat.mul_zero, Nat.zero_add]
      exact List.getD_append _ _ _ _ (by rw [size]; exact within)
    | succ i =>
      have place : k * (i + 1) + j = k + (k * i + j) := by ring
      rw [place, getD_append_add (size x), ih (Nat.lt_of_succ_lt_succ part)]
      rfl

theorem length_flatMap_of_size {α : Type} {f : α → List Half} {k : Nat} (size : ∀ x, (f x).length = k) (xs : List α) :
    (xs.flatMap f).length = k * xs.length := by
  induction xs with
  | nil => rfl
  | cons x xs ih => rw [List.flatMap_cons, List.length_append, ih, size, List.length_cons, Nat.mul_succ, Nat.add_comm]

theorem toNat_word {v : Nat} (small : v < 65536) : (BitVec.ofNat 16 v).toNat = v := by
  rw [BitVec.toNat_ofNat]
  exact Nat.mod_eq_of_lt small

end

/-! ### Where the words of an image stand (log 7) -/

section
variable (st : Settings)

/-- The words of a point assignment. -/
def pointWords (a : PointFn × Polarity) : List Half := [BitVec.ofNat 16 a.1.code, BitVec.ofNat 16 a.2.code]

theorem Settings.image_eq : st.image =
    paramIds.map (fun id => BitVec.ofNat 16 (st.params.get id)) ++ ([st.equipped.setWidth 16, (st.equipped >>> 16).setWidth 16] ++
      (st.profiles.toList.flatMap profileWords ++
        (st.points.toList.flatMap pointWords ++
          ([st.budgets.mains, st.budgets.battHigh, st.budgets.battLow, st.budgets.battCrit].map (BitVec.ofNat 16) ++
            ([BitVec.ofNat 16 st.kept.length] ++ (st.kept.flatMap keptWords ++ [checkWord st.body])))))) := by
  simp only [Settings.image, Settings.body, List.append_assoc]
  rfl

theorem profileWords_length (p : Profile) : (profileWords p).length = 5 := rfl

theorem profiles_length : (st.profiles.toList.flatMap profileWords).length = 120 := by
  rw [length_flatMap_of_size profileWords_length, Vector.length_toList]

theorem pointWords_length (a : PointFn × Polarity) : (pointWords a).length = 2 := rfl

theorem points_length : (st.points.toList.flatMap pointWords).length = 24 := by
  rw [length_flatMap_of_size pointWords_length, Vector.length_toList]

theorem keptWords_length (e : Nat × FlowContent) : (keptWords e).length = 10 := rfl

theorem Settings.image_param {id : Nat} (mem : id ∈ paramIds) :
    st.image.getD (id - 1) 0 = BitVec.ofNat 16 (st.params.get id) := by
  rw [Settings.image_eq]
  simp only [paramIds, List.mem_cons, List.not_mem_nil, or_false] at mem
  rcases mem with rfl | rfl | rfl | rfl | rfl | rfl | rfl | rfl | rfl | rfl <;> rfl

theorem Settings.image_equipped : st.image.getD 10 0 = st.equipped.setWidth 16 ∧
    st.image.getD 11 0 = (st.equipped >>> 16).setWidth 16 := by
  rw [Settings.image_eq]
  exact ⟨getD_append_add (n := 10) rfl 0, getD_append_add (n := 10) rfl 1⟩

theorem Settings.image_profile (l : LineNo) {j : Nat} (within : j < 5) :
    st.image.getD (12 + 5 * l.val + j) 0 = (profileWords st.profiles[l]).getD j 0 := by
  have place : 12 + 5 * l.val + j = 10 + (2 + (5 * l.val + j)) := by omega
  rw [Settings.image_eq, place, getD_append_add (n := 10) rfl, getD_append_add (n := 2) rfl,
    getD_flatMap profileWords_length _ (by rw [Vector.length_toList]; exact l.isLt) within, Vector.getElem_toList]
  rfl

theorem Settings.image_point (p : PointNo) {j : Nat} (within : j < 2) : st.image.getD (132 + 2 * p.val + j) 0 =
    (pointWords st.points[p]).getD j 0 := by
  have place : 132 + 2 * p.val + j = 10 + (2 + (120 + (2 * p.val + j))) := by omega
  rw [Settings.image_eq, place, getD_append_add (n := 10) rfl, getD_append_add (n := 2) rfl, getD_append_add (profiles_length st),
    getD_flatMap pointWords_length _ (by rw [Vector.length_toList]; exact p.isLt) within, Vector.getElem_toList]
  rfl

theorem Settings.image_from_budgets (i : Nat) : st.image.getD (156 + i) 0 =
    ([st.budgets.mains, st.budgets.battHigh, st.budgets.battLow, st.budgets.battCrit].map (BitVec.ofNat 16) ++
      ([BitVec.ofNat 16 st.kept.length] ++ (st.kept.flatMap keptWords ++ [checkWord st.body]))).getD i 0 := by
  have place : 156 + i = 10 + (2 + (120 + (24 + i))) := by omega
  rw [Settings.image_eq, place, getD_append_add (n := 10) rfl, getD_append_add (n := 2) rfl, getD_append_add (profiles_length st),
    getD_append_add (points_length st)]

theorem Settings.image_count : st.image.getD 160 0 = BitVec.ofNat 16 st.kept.length := st.image_from_budgets 4

theorem Settings.image_kept {i j : Nat} (part : i < st.kept.length) (within : j < 10) :
    st.image.getD (161 + 10 * i + j) 0 = (keptWords st.kept[i]).getD j 0 := by
  have place : 161 + 10 * i + j = 156 + (4 + (1 + (10 * i + j))) := by omega
  rw [place, Settings.image_from_budgets, getD_append_add (n := 4) rfl, getD_append_add (n := 1) rfl,
    getD_flatMap keptWords_length _ part within]

theorem Settings.image_length : st.image.length = 162 + 10 * st.kept.length := by
  have kept := length_flatMap_of_size keptWords_length st.kept
  rw [Settings.image_eq]
  simp only [List.length_append, profiles_length, points_length, kept, List.length_map, List.length_cons, List.length_nil, paramIds]
  omega

end

/-! ### Settings read back from their image -/

section
variable {st : Settings}

theorem paramOk_small {id v : Nat} (ok : paramOk id v = true) : v < 65536 := by
  have ranges := (paramOk_iff id v).mp ok
  simp only [List.mem_cons, List.not_mem_nil, or_false] at ranges
  omega

theorem Settings.Ranged.word_param (ranged : st.Ranged) {id : Nat} (mem : id ∈ paramIds) :
    wordAt st.image (id - 1) = st.params.get id := by
  rw [wordAt, Settings.image_param st mem]
  exact toNat_word (paramOk_small (ranged.params.params id mem))

theorem exitModeOfCode_of_code (m : ExitMode) : exitModeOfCode m.code = m := by cases m <;> rfl

theorem parkOfCode_of_code (p : Park) : parkOfCode p.code = p := by cases p <;> rfl

/-- All ten parameters put make the table they were taken from. -/
theorem Params.put_all {q : Params} (rate : q.rate ∈ linkRates) (p : Params) :
    paramIds.foldl (fun p id => p.put id (q.get id)) p = q := by
  have whole : q.rate / 100 * 100 = q.rate := by
    have each : ∀ r ∈ linkRates, r / 100 * 100 = r := by decide
    exact each _ rate
  simp only [paramIds, List.foldl_cons, List.foldl_nil, Params.put, Params.get, whole, exitModeOfCode_of_code]

theorem Settings.Ranged.params_image (ranged : st.Ranged) : (Settings.ofWords st.image).params = st.params := by
  have each : ∀ (p : Params), ∀ id ∈ paramIds, p.put id (wordAt st.image (id - 1)) = p.put id (st.params.get id) :=
    fun p id mem => by rw [ranged.word_param mem]
  exact (List.foldl_ext _ _ Params.default each).trans (Params.put_all ranged.params.rate Params.default)

/-- A set of lines from its two words. -/
theorem lineSet_of_words (e : LineSet) :
    BitVec.ofNat 24 ((e.setWidth 16).toNat + 65536 * ((e >>> 16).setWidth 16).toNat) = e := by
  apply BitVec.eq_of_toNat_eq
  have bound := e.isLt
  simp only [BitVec.toNat_ofNat, BitVec.toNat_setWidth, BitVec.toNat_ushiftRight, Nat.shiftRight_eq_div_pow]
  omega

theorem Settings.equipped_image (st : Settings) : (Settings.ofWords st.image).equipped = st.equipped := by
  obtain ⟨low, high⟩ := st.image_equipped
  simp only [Settings.ofWords, wordAt, low, high]
  exact lineSet_of_words st.equipped

theorem Settings.Ranged.profile_words (ranged : st.Ranged) (l : LineNo) :
    wordAt st.image (profilesAt + 5 * l.val) = st.profiles[l].weight ∧
    wordAt st.image (profilesAt + 5 * l.val + 1) = st.profiles[l].keep ∧
    wordAt st.image (profilesAt + 5 * l.val + 2) = st.profiles[l].cost ∧
    wordAt st.image (profilesAt + 5 * l.val + 3) = st.profiles[l].limit ∧
    wordAt st.image (profilesAt + 5 * l.val + 4) = st.profiles[l].park.code := by
  obtain ⟨-, weight, keep, -, cost, -, limit⟩ := (profileOk_iff _ _ _ _).mp (ranged.profiles l)
  have park : st.profiles[l].park.code ≤ 1 := by cases st.profiles[l].park <;> decide
  have word {j : Nat} (within : j < 5) : wordAt st.image (profilesAt + 5 * l.val + j) = ((profileWords st.profiles[l]).getD j 0).toNat :=
    congrArg BitVec.toNat (st.image_profile l within)
  exact ⟨(word (j := 0) (by decide)).trans (toNat_word (by omega)), (word (j := 1) (by decide)).trans (toNat_word (by omega)),
    (word (j := 2) (by decide)).trans (toNat_word (by omega)), (word (j := 3) (by decide)).trans (toNat_word (by omega)),
    (word (j := 4) (by decide)).trans (toNat_word (by omega))⟩

theorem Settings.Ranged.profiles_image (ranged : st.Ranged) : (Settings.ofWords st.image).profiles = st.profiles := by
  refine Vector.ext fun i low => ?_
  obtain ⟨weight, keep, cost, limit, park⟩ := ranged.profile_words ⟨i, low⟩
  simp only [Settings.ofWords, Vector.getElem_ofFn, profileOfWords, weight, keep, cost, limit, park, parkOfCode_of_code]
  rfl

theorem fnOfCode_of_code (f : PointFn) : fnOfCode f.code = some f := by cases f <;> rfl

theorem polarityOfCode_of_code (p : Polarity) : polarityOfCode p.code = p := by cases p <;> rfl

theorem Settings.points_image (st : Settings) : (Settings.ofWords st.image).points = st.points := by
  refine Vector.ext fun i low => ?_
  have fn : wordAt st.image (pointsAt + 2 * i) = st.points[i].1.code :=
    (congrArg BitVec.toNat (st.image_point ⟨i, low⟩ (j := 0) (by decide))).trans
      (toNat_word (by cases st.points[i].1 <;> decide))
  have polarity : wordAt st.image (pointsAt + 2 * i + 1) = st.points[i].2.code :=
    (congrArg BitVec.toNat (st.image_point ⟨i, low⟩ (j := 1) (by decide))).trans
      (toNat_word (by cases st.points[i].2 <;> decide))
  simp only [Settings.ofWords, Vector.getElem_ofFn, fn, polarity, fnOfCode_of_code, polarityOfCode_of_code, Option.getD_some]

theorem Settings.Ranged.budget_words (ranged : st.Ranged) :
    wordAt st.image (budgetsAt + 0) = st.budgets.mains ∧ wordAt st.image (budgetsAt + 1) = st.budgets.battHigh ∧
    wordAt st.image (budgetsAt + 2) = st.budgets.battLow ∧ wordAt st.image (budgetsAt + 3) = st.budgets.battCrit := by
  have word (i : Nat) := congrArg BitVec.toNat (st.image_from_budgets i)
  have small (v : Supply) : st.budgets.of v < 65536 := (ranged.budgets v).2.trans_lt (by decide)
  exact ⟨(word 0).trans (toNat_word (small .mains)), (word 1).trans (toNat_word (small .battHigh)),
    (word 2).trans (toNat_word (small .battLow)), (word 3).trans (toNat_word (small .battCrit))⟩

theorem Settings.Ranged.budgets_image (ranged : st.Ranged) : (Settings.ofWords st.image).budgets = st.budgets := by
  obtain ⟨mains, high, low, crit⟩ := ranged.budget_words
  rw [Nat.add_zero] at mains
  simp only [Settings.ofWords, mains, high, low, crit]

/-- The kept entries of settings, few enough and of the flow table's indexes. -/
structure Settings.KeptFew (st : Settings) : Prop where
  few : st.kept.length ≤ 64
  indexes : ∀ e ∈ st.kept, e.1 < 64

theorem Settings.KeptFew.count (kept : st.KeptFew) : wordAt st.image keptCountAt = st.kept.length :=
  (congrArg BitVec.toNat st.image_count).trans (toNat_word (kept.few.trans_lt (by decide)))

/-- A byte of a content from its word. -/
theorem byte_of_word (b : Byte) : byte (b.setWidth 16 : Half).toNat = b := by
  apply BitVec.eq_of_toNat_eq
  have bound := b.isLt
  simp only [byte, BitVec.toNat_ofNat, BitVec.toNat_setWidth]
  omega

theorem Settings.KeptFew.keptOfWords_image (kept : st.KeptFew) {i : Nat} (part : i < st.kept.length) :
    keptOfWords st.image i = st.kept[i] := by
  have word {j : Nat} (within : j < 10) : st.image.getD (keptCountAt + 1 + keptSize * i + j) 0 = (keptWords st.kept[i]).getD j 0 :=
    st.image_kept part within
  have index : st.kept[i].1 < 65536 := (kept.indexes _ (List.getElem_mem part)).trans (by decide)
  have w0 := word (j := 0) (by decide)
  rw [Nat.add_zero] at w0
  simp only [keptOfWords, byteAt, wordAt, w0, word (j := 1) (by decide), word (j := 2) (by decide), word (j := 3) (by decide),
    word (j := 4) (by decide), word (j := 5) (by decide), word (j := 6) (by decide), word (j := 7) (by decide),
    word (j := 8) (by decide), word (j := 9) (by decide)]
  simp only [keptWords, List.getD_cons_zero, List.getD_cons_succ, byte_of_word, toNat_word index, lineSet_of_words]

theorem Settings.KeptFew.kept_image (kept : st.KeptFew) : (Settings.ofWords st.image).kept = st.kept := by
  have count := kept.count
  simp only [Settings.ofWords, count]
  refine List.ext_getElem (by simp) fun i _ part => ?_
  rw [List.getElem_map, List.getElem_range]
  exact kept.keptOfWords_image part

/-- Settings are read back from their image (R189, R191). -/
theorem Settings.ofWords_image (ranged : st.Ranged) (kept : st.KeptFew) : Settings.ofWords st.image = st := by
  have params := ranged.params_image
  have equipped := st.equipped_image
  have profiles := ranged.profiles_image
  have points := st.points_image
  have budgets := ranged.budgets_image
  have entries := kept.kept_image
  generalize Settings.ofWords st.image = read at params equipped profiles points budgets entries
  cases read
  cases st
  simp only [Settings.mk.injEq]
  exact ⟨params, equipped, profiles, points, budgets, entries⟩

/-! ### The image is good (R189) -/

theorem Settings.Ranged.wordsInRange_image (ranged : st.Ranged) : wordsInRange st.image = true := by
  simp only [wordsInRange, Bool.and_eq_true, List.all_eq_true]
  refine ⟨⟨fun id mem => ?_, fun l _ => ?_⟩, fun i mem => ?_⟩
  · rw [ranged.word_param mem]
    exact ranged.params.params id mem
  · obtain ⟨weight, keep, cost, limit, park⟩ := ranged.profile_words l
    rw [weight, keep, cost, limit, park]
    exact ⟨ranged.profiles l, decide_eq_true (by cases st.profiles[l].park <;> decide)⟩
  · obtain ⟨mains, high, low, crit⟩ := ranged.budget_words
    have fits (v : Supply) : budgetOk (st.budgets.of v) = true := by
      simpa only [budgetOk, Bool.and_eq_true, decide_eq_true_eq] using ranged.budgets v
    simp only [List.mem_cons, List.not_mem_nil, or_false] at mem
    rcases mem with rfl | rfl | rfl | rfl
    · rw [mains]
      exact fits .mains
    · rw [high]
      exact fits .battHigh
    · rw [low]
      exact fits .battLow
    · rw [crit]
      exact fits .battCrit

theorem Settings.good_image (ranged : st.Ranged) (kept : st.KeptFew) :
    Store.good { words := st.image, mark := false } = true := by
  have length : st.image.length = keptCountAt + 2 + keptSize * wordAt st.image keptCountAt := by
    rw [kept.count]
    exact st.image_length
  have last : st.image.getLast? = some (checkWord st.image.dropLast) := by
    rw [Settings.image, List.dropLast_concat, List.getLast?_concat]
  simp only [Store.good, Bool.not_false, Bool.true_and, Bool.and_eq_true, beq_iff_eq]
  exact ⟨⟨length, last⟩, ranged.wordsInRange_image⟩

end

/-! ### The live settings (R191) -/

section
variable {s : State}

theorem State.liveSettings_ranged (ranges : RangesOk s) (energy : EnergyOk s) : s.liveSettings.Ranged where
  params := ⟨ranges.params, ranges.rate⟩
  profiles l := by
    simp only [State.liveSettings, Fin.getElem_fin, Vector.getElem_ofFn]
    exact ranges.profiles l
  budgets := energy.budgets

theorem State.liveSettings_keptFew (s : State) : s.liveSettings.KeptFew where
  few := (List.length_filterMap_le _ _).trans_eq (List.length_finRange)
  indexes e mem := by
    obtain ⟨k, -, is⟩ := List.mem_filterMap.mp mem
    split at is
    · split at is
      · cases is
        exact k.isLt
      · cases is
    · cases is

end

/-- Settles O51: every word is read where it was written, and the live settings lie in their ranges. -/
theorem savedImageLoads : Obligations.SavedImageLoads := by
  intro s ranges energy
  have ranged := State.liveSettings_ranged ranges energy
  exact ⟨Settings.good_image ranged s.liveSettings_keptFew, Settings.ofWords_image ranged s.liveSettings_keptFew⟩

end Sys2Proof.Machine
end
